-- ==== Sys2Proof/Word.lean ====
section
/-! DEFINITION. The plain number and index types of the VVZ4810 model. Bit vectors hold what the manual treats as bits (frames, words, fields); counts and indexes are Nat or Fin; exact real quantities are Rat. -/

namespace Sys2Proof

abbrev Byte := BitVec 8
abbrev Half := BitVec 16
abbrev Word := BitVec 32
abbrev DWord := BitVec 64

/-- Island number ISL0..ISL11. -/
abbrev IslIx := Fin 12
/-- Output number G0..G3 of an island. -/
abbrev OutIx := Fin 4

/-- The islands numbered odd are the low-side islands (R41). -/
def IslIx.low (n : IslIx) : Bool := n.val % 2 == 1

/-- Saturation of an exact value into a range. -/
def clampQ (lo hi x : Rat) : Rat := if x < lo then lo else if hi < x then hi else x

def clampI (lo hi x : Int) : Int := if x < lo then lo else if hi < x then hi else x

def absQ (x : Rat) : Rat := if x < 0 then -x else x

def absI (x : Int) : Int := if x < 0 then -x else x

def minQ (x y : Rat) : Rat := if x ≤ y then x else y

def maxQ (x y : Rat) : Rat := if x ≤ y then y else x

def sumQ : List Rat → Rat
  | [] => 0
  | x :: xs => x + sumQ xs

end Sys2Proof
end

