-- ==== Sys2Proof/Syntax.lean ====
section
/-! DEFINITION. The commands of the block: one constructor of Instr for each row of spec/opcode_table.json, with the operands that come from outside the module (land levels, measured quantities, frames, dictionary requests). -/

namespace Sys2Proof

/-- The control rails and VSAFE (Table 3.1). -/
inductive Rail | vcore | vsafe | vana | vser | vnv
  deriving DecidableEq, Repr

/-- The nine clock domains (Table 3.3). -/
inductive ClockDomain | core | pwm | sense | net | bus | safe | link | map | aon
  deriving DecidableEq, Repr

inductive Pll | pllA | pllAPwm | pllB | serdes
  deriving DecidableEq, Repr

/-- The two Main lockstep pairs (R17). -/
inductive MainPair | m0 | m1
  deriving DecidableEq, Repr

/-- Firmware slots (R503). -/
inductive FwSlot | a | b | recovery
  deriving DecidableEq, Repr

/-- Service ports (Table 13.1). An Ethernet session scope is the source address and port; a Span scope is the requesting node. -/
inductive Port
  | can (c : Fin 4)
  | eth (ip : Word) (udp : Half)
  | spi
  | span (node : Fin 8)
  deriving DecidableEq, Repr

/-- The header part of a service frame that every request carries (Table 12.3), with its port, its destination node (R459) and its size in bytes. -/
structure Req where
  port : Port
  node : Fin 8
  seq : Byte
  session : Byte
  /-- The frame's LEN agrees with the frame. -/
  lenOk : Bool
  /-- Header plus data, bytes (R438). -/
  size : Nat
  deriving DecidableEq, Repr

/-- The header and trailer of a received Rillys frame (Tables 4.12, 4.13) after the CRC check. -/
structure RillysHdr where
  crcOk : Bool
  isl : BitVec 4
  lenOk : Bool
  seq : Half
  epoch : Byte
  token : Bool
  retry : Bool
  skip : BitVec 2
  tag : Byte
  ackSeq : Half
  deriving DecidableEq, Repr

/-- Payload of a CMD frame (Table 4.14, R127, R131, R141, R169). -/
structure CmdPayload where
  /-- Fast-fault code acknowledged, when any (R127). -/
  ackCode : Option (BitVec 4)
  /-- Latch command: ISL_GATE_STUCK is latched in the island (R120). -/
  latchStuck : Bool
  /-- Output whose probe is scheduled (R131). -/
  probe : Option OutIx
  /-- Offsets of the additional sampling instants of the next period, ns (R169). -/
  offsets : List Nat
  /-- Apply the confirmed parameter set at the next MARK (R141). -/
  applyAtMark : Bool
  deriving DecidableEq, Repr

/-- What the island's own gate-path and rail measurements gave at one verification step (Table 4.16). -/
structure VerifyMeas where
  ok : Bool
  /-- RG_INT of each output, mΩ (step 7). -/
  rg : List Nat
  /-- Kelvin path of each output, mΩ (step 8). -/
  kelvin : List Nat
  deriving DecidableEq, Repr

/-- One position channel's sources at its latch instant (R203). Angles in 65,536 units, speeds in 0.1 rpm. -/
structure PosSample where
  sensorTheta : Nat
  sensorSpeed : Int
  /-- The sensor gave a position this period. -/
  sensorFresh : Bool
  obsTheta : Nat
  obsSpeed : Int
  injTheta : Nat
  /-- Observer residual ρ in 0.001 (R228). -/
  residual : Nat
  /-- Observer PLL phase error, 0.1° (R228). -/
  pllErr : Nat
  injLocked : Bool
  /-- Resolver tracking error, 0.1° electrical (R217). -/
  trackErr : Nat
  deriving DecidableEq, Repr

/-- What the grid PLL found for one control period (R313). -/
structure GridSample where
  theta : Nat
  /-- Phase error, 0.01°. -/
  phaseErr : Nat
  /-- f_g, mHz. -/
  freq : Nat
  vd : Rat
  vq : Rat
  /-- Negative-sequence ratio, 0.001. -/
  negSeq : Nat
  deriving DecidableEq, Repr

/-- What a control-period boundary latches from outside: the samples of the two position channels (R203) and of the grid PLL (R313). -/
structure BoundarySample where
  pos : List PosSample
  grid : GridSample
  deriving DecidableEq, Repr

/-- What one window of an ICU integrated (R177). -/
structure IcuSample where
  /-- Window mean at the input, µV. -/
  meanUv : Int
  ovr : Bool
  /-- RMS in 1/16 LSB. -/
  rms : Nat
  /-- PRODUCT of the pair in 256 LSB². -/
  product : Int
  /-- Window length, 0.1 µs. -/
  len : Nat
  deriving DecidableEq, Repr

/-- A received SENT frame (R218, R219). Times in 5 ns steps. -/
structure SentFrame where
  calPulse : Nat
  /-- Every nibble, in ticks. -/
  nibbleTicks : List Nat
  crcOk : Bool
  status : BitVec 4
  data : BitVec 24
  slow : Option Word
  deriving DecidableEq, Repr

/-- A completed SSI frame (R221, R222). -/
structure SsiFrame where
  idleHigh : Bool
  word : Word
  copy : Word
  deriving DecidableEq, Repr

/-- The currents of a standstill start (R225), amperes. -/
structure SsMeas where
  ik : List Rat
  iPlus : Rat
  iMinus : Rat
  /-- Peaks of the repetition of step 3 with T doubled, when it ran. -/
  iPlus2 : Rat
  iMinus2 : Rat
  deriving DecidableEq, Repr

/-- Firmware header and check outcomes the boot ROMs read for one slot (Table 14.5, R504). -/
structure FwSeen where
  formatOk : Bool
  keyIndex : Nat
  rollback : Nat
  version : Word
  helmetVersion : Word
  sigOk : Bool
  digestsOk : Bool
  helmetOk : Bool
  deriving DecidableEq, Repr

/-- One interpolation map of a downloaded set: descriptor, axes and cells (Tables 7.7 to 7.9, R285). -/
structure MapDesc where
  role : Nat
  machine : Nat
  /-- Axis quantities in order (Table 7.8). -/
  axisQ : List Nat
  /-- Breakpoints per axis. -/
  axes : List (List Rat)
  /-- Cells as physical values, last axis fastest. -/
  cells : List Rat
  nearest : Bool
  deriving DecidableEq, Repr

/-- A map set as its header and maps read after the download (Table 7.7). -/
structure MapSet where
  setId : Word
  setVersion : Nat
  scope : Nat
  arrangement : Nat
  machineType : List Nat
  polePairs : List Nat
  mirrorTorque : Bool
  mirrorSpeed : Bool
  maps : List MapDesc
  deriving DecidableEq, Repr

/-- The image checks of R289 that the model does not derive from the set's content. -/
structure MapChecks where
  headerOk : Bool
  lengthsOk : Bool
  descriptorOk : Bool
  sigOk : Bool
  nvOk : Bool
  /-- OEM key slot that signed the set (R288). -/
  keyIndex : Nat
  deriving DecidableEq, Repr

/-- A parameter set as verified at the end of its download (R510, R511). -/
structure ParamSet where
  setId : Word
  version : Nat
  scope : Nat
  headerOk : Bool
  /-- Entries: key index × 0x100 + subindex, SIZE, value bytes. -/
  entries : List (Nat × List Byte)
  /-- OEM key slot of the signer (R288, R500). -/
  keyIndex : Nat
  sigOk : Bool
  nvOk : Bool
  deriving DecidableEq, Repr

/-- A DMA descriptor (Tables 11.5, 11.6) with its own address. -/
structure DmaDesc where
  addr : Nat
  src : Nat
  dst : Nat
  len : Nat
  ctrl : Word
  next : Nat
  tag : Word
  deriving DecidableEq, Repr

/-- Converter whose calibration falls due (Table 5.14). -/
inductive CalUnit
  | saru (u : Fin 4)
  | island (n : IslIx)
  deriving DecidableEq, Repr

/-- Selectable references (Table 5.12). -/
inductive RefSel | internal | vrefIn | vana
  deriving DecidableEq, Repr

/-- Sources of a reset level (R344). -/
inductive ResetSrc | safeRst | controlWord
  deriving DecidableEq, Repr

/-- Who issued an SRAM access (R400). -/
inductive Master
  | main (p : MainPair)
  | dma (ch : Fin 16)
  deriving DecidableEq, Repr

/-- Operations of the NV interface in their order of precedence (R407). -/
inductive NvKind | readActive | persist | eventLog | staging | erase
  deriving DecidableEq, Repr

/-- Outcome of an NV operation (R406). -/
inductive NvResult | ok | corrected | uncorrectable
  deriving DecidableEq, Repr

/-- Header of a Span frame (Table 13.3) with the port it arrived on and its CMAC and CRC. -/
structure SpanHdr where
  port : Fin 2
  crcOk : Bool
  src : Byte
  dst : Byte
  fresh : BitVec 48
  corr : Int
  hops : Nat
  cmac : Word
  deriving DecidableEq, Repr

/-- Payload of CYCLIC (Table 13.4). F32 fields are their 32 bits. -/
structure CyclicData where
  controlWord : Half
  cmdMode : Byte
  ascBrake : Byte
  torque : Word
  speed : Word
  tqPos : Word
  tqNeg : Word
  spdPos : Word
  spdNeg : Word
  tOfs : Word
  period : Word
  deriving DecidableEq, Repr

/-- Payload of STATUS (Table 13.4). -/
structure SpanStatusData where
  statusWord : Word
  torqueEst : Word
  availPos : Word
  availNeg : Word
  speed : Word
  activeCode : Half
  safeState : Byte
  syncState : Byte
  syncErr : Half
  deriving DecidableEq, Repr

/-- Instructions of the IEEE 1149.1 TAP (R515). -/
inductive TapInstr | bypass | idcode | samplePreload | extest | debugAccess
  deriving DecidableEq, Repr

/-- A CAN frame on the bus of one channel (R461, R464, R465). -/
structure CanFrame where
  /-- Identifier; bit 31 marks a 29-bit identifier. -/
  ident : Word
  fd : Bool
  data : List Byte
  deriving DecidableEq, Repr

/-- A failed test-pulse check: evaluator, channel (0 A, 1 B, 255 none) and kind (R386). -/
structure SiFail where
  ev : Fin 4
  ch : Nat
  kind : Nat
  deriving DecidableEq, Repr

/-- All fault codes of the module, named as in the owners' fault tables. -/
inductive FaultCode
  | vinUv | vinWarnLow | vinHigh | vddioFail | railFail | safeRailFail | pllUnlock | clockMismatch | safeClockFail
  | xtalFail | tempWarn | tempDerate | thermalShutdown | tempSensorFail | islPowerHigh | processBand | islUvlo
  | islRailDev | islDesat | shootConflict | islIlkTmo | islIlkLost | islGateStuck | islEdgeLost | islLinkLost
  | islLinkErrRate | islCfgMismatch | islOnBootstrap | islBstLow | islSlopeTmo | islDieIsolated | islDieShortage
  | islTjHigh | islNtcFail | islPreloadStale | islVerifyFail | islBalLimit | snsOvr | calStarved | snsCalFail
  | snsRefFail | snsLate | snsIlineLost | snsShuntSum | snsShuntWindow | cmpNote | cmpSafe | cmpLatch | cmpTestFail
  | cmpShadowMismatch | snsTrigOverrun | icuUntracked | encIllegal | encFail | encIndexMissing | encIndexDev | hallIllegal
  | hallNoise | hallFail | resLos | resLot | resExcFail | sentErr | sentFail | ssiErr | ssiFail | obsLost | rotorLost
  | posDisagree | ssFail | flyCatchFail | encoOverrun | cmdTimeout | fleMismatch | fleSingle | fleOverrun
  | vecDegraded | vdcLost | mapExtrap | mapActiveInvalid | mapVerifyFail | mapReadErr | solverLate | mapCorrLimit
  | traceOverrun | gridLoss | gridVLow | gridVHigh | gridFRange | gridPllUnlock | gridPhaseOrder | prechargeFail
  | rlyCloseFail | rlyWeld | rlyFbUnexp | rlyDrvFault | outMatchFail | outOv | outOc | outReverse | dabPhiLimit
  | gridILimit | mainLockstep | mainTakeover | hlmLockstep | hlmFault | hlmMainSilent | hlmTorque | hlmOverspeed | hlmDiverseNone
  | safeReqDiff | hlmVdcDisagree | hlmMapFail | collectorOverflow | resetHeld | dcOv1 | clampFail | dcOv2 | ascFail
  | dcUv | dischFail | logWriteFail | siEoffDemand | siHvilDemand | siCoverDemand | siAuxDemand | siDiscrepancy
  | siChatter | siTestFail | sramCe | sramUe | sramMacroFail | sramFail | mpuViolation | dmaError | nvCe | nvUe
  | persWriteFail | persRestoreFail | enduranceSpent | stFail | stOverdue | stFailHold | procReject | blockAborted
  | groupRestoreFail | canBusOff | canRxOverflow | canAuthFail | canHostLost | canTakeover | ethLinkDown
  | spiFrameErr | ptpUnsync | spanRoleStrap | spanRoleConflict | spanRingOpen | spanAuthFail | spanQuarantine
  | spanMgrLost | spanNodeLost | spanSyncLost | spanNodeConflict | spanNodeSafe | fwSlotRejected | fwRecoveryRunning
  | paramInvalid | paramScope | authLockout | keyBlobFail | trngFail
deriving DecidableEq, Repr

/-- The commands of the block, one constructor for each row of spec/opcode_table.json, in its order. The table gives the rows no operand fields; the operands here are what the command brings from outside the module. -/
inductive Instr
  /-- VIN_POR_RISE (R70). -/
  | vinPorRise
  /-- VIN_POR_FALL (R70). -/
  | vinPorFall
  /-- VIN_VALID_RISE (R82). -/
  | vinValidRise (straps : BitVec 2)
  /-- VIN_UV_FALL (R70). -/
  | vinUvFall
  /-- VIN_HIGH_RISE (R70). -/
  | vinHighRise (vinMv : Nat)
  /-- VIN_HIGH_FALL (R70). -/
  | vinHighFall
  /-- VIN_WARN_LOW_CROSS (R71). -/
  | vinWarnLowCross (below : Bool)
  /-- VDDIO_OUT_OF_BAND (R72). -/
  | vddioOutOfBand
  /-- RAIL_OUT_OF_WINDOW (R94). -/
  | railOutOfWindow (rail : Rail)
  /-- CLOCK_CHECK_WINDOW (R79). -/
  | clockCheckWindow (dom : ClockDomain) (devPpt : Int)
  /-- PLL_LOSS_OF_LOCK (R80). -/
  | pllLossOfLock (pll : Pll)
  /-- CRYSTAL_LOSS (R83). -/
  | crystalLoss
  /-- START_ATTEMPT_CHECK (R83). -/
  | startAttemptCheck (xtalOk railsOk pllsOk : Bool) (vddioMv : Nat)
  /-- START_RETRY (R83). -/
  | startRetry
  /-- RESET_N_FALL (R81). -/
  | resetNFall (lowNs : Nat)
  /-- RESET_N_RISE (R81). -/
  | resetNRise (straps : BitVec 2)
  /-- SRAM_CLEAR_DONE (R85). -/
  | sramClearDone
  /-- BOOT_SLOT_CHECK_DONE (R504). -/
  | bootSlotCheckDone (slot : FwSlot) (seen : FwSeen)
  /-- BOOT_RETRY (R507). -/
  | bootRetry
  /-- POWER_ON_SELFTEST_DONE (R419). -/
  | powerOnSelftestDone (fails : List (Nat × Nat)) (nvErrKeys : List Nat) (paramNvOk : Bool)
  /-- SI_STARTUP_TEST_DONE (R387). -/
  | siStartupTestDone (fails : List SiFail)
  /-- ISLAND_GROUP_START (R84). -/
  | islandGroupStart
  /-- RILLYS_LINK_TRAINED (R140). -/
  | rillysLinkTrained (n : IslIx)
  /-- ISLAND_VERIFY_STEP_DONE (R146). -/
  | islandVerifyStepDone (n : IslIx) (meas : VerifyMeas)
  /-- ISLAND_SUPPLY_RELEASE_TIMER (R452). -/
  | islandSupplyReleaseTimer
  /-- SLEEP_ENTRY_DONE (R87). -/
  | sleepEntryDone (wake timer : Bool)
  /-- WAKE_RISE (R86). -/
  | wakeRise (highUs : Nat) (straps : BitVec 2)
  /-- WAKE_TIMER_EXPIRY (R86). -/
  | wakeTimerExpiry (straps : BitVec 2)
  /-- TEMP_SCAN (R88). -/
  | tempScan (temps : List Int)
  /-- THERMAL_SHUTDOWN_TRIP (R91). -/
  | thermalShutdownTrip (sensor : Fin 20)
  /-- THERMAL_DWELL_END (R91). -/
  | thermalDwellEnd
  /-- PROCESS_MONITOR_TICK (R94). -/
  | processMonitorTick (code band : Nat)
  /-- ISL_POWER_AVERAGE (R74). -/
  | islPowerAverage (n : IslIx) (mw : Nat)
  /-- TEMP_COMMIT (R95). -/
  | tempCommit (r : Req)
  /-- RESET_CAUSE_CLEAR (R81). -/
  | resetCauseClear (r : Req) (mask : Half)
  /-- MAIN_LOCKSTEP_ERROR (R18). -/
  | mainLockstepError (p : MainPair)
  /-- HOT_RESTART_DONE (R42). -/
  | hotRestartDone (p : MainPair) (pass : Bool)
  /-- CONTROL_PERIOD_BOUNDARY (R249). -/
  | controlPeriodBoundary (bridge : Fin 2) (sample : BoundarySample)
  /-- FLE_START (R249). -/
  | fleStart (bridge : Fin 2)
  /-- FLE_COMPUTE_DONE (R250). -/
  | fleComputeDone (bridge : Fin 2) (errA errB differ : Bool)
  /-- DUTY_LOAD_DEADLINE (R252). -/
  | dutyLoadDeadline (bridge : Fin 2)
  /-- HEARTBEAT_LOST (R24). -/
  | heartbeatLost (n : IslIx)
  /-- HELMET_PRELOAD_EVAL (R353). -/
  | helmetPreloadEval
  /-- PRELOAD_WORD (R142). -/
  | preloadWord (n : IslIx) (w : Byte)
  /-- PRELOAD_STALE (R143). -/
  | preloadStale (n : IslIx)
  /-- HELMET_STEP (R355). -/
  | helmetStep (m : Fin 2) (mapCrcOk : Bool)
  /-- HELMET_COUNT_CHECK (R361). -/
  | helmetCountCheck
  /-- HELMET_LOCKSTEP_ERROR (R31). -/
  | helmetLockstepError
  /-- ASC_ESTABLISH_TIMEOUT (R354). -/
  | ascEstablishTimeout (onConfirmed : BitVec 12)
  /-- SAFETY_MAP_RELOAD (R363). -/
  | safetyMapReload (crcOk : Bool)
  /-- DRV_EN_FALL (R26). -/
  | drvEnFall (lowNs : Nat)
  /-- DRV_EN_RISE (R145). -/
  | drvEnRise (lowNs : Nat)
  /-- KEEP_OFF (R111). -/
  | keepOff (n : IslIx)
  /-- KEEP_ON (R111). -/
  | keepOn (n : IslIx)
  /-- OFF (R109). -/
  | off (n : IslIx) (gates : List Int)
  /-- ON (R115). -/
  | on (n : IslIx) (gates : List Int)
  /-- OFF_SOFT (R126). -/
  | offSoft (n : IslIx)
  /-- MARK (R141). -/
  | mark (n : IslIx) (shuntUv vdcUv : Int)
  /-- PROBE (R131). -/
  | probe (n : IslIx)
  /-- RESERVED_SYMBOL (R109). -/
  | reservedSymbol (n : IslIx)
  /-- PRE_PHASE_END (R101). -/
  | prePhaseEnd (n : IslIx) (k : OutIx) (byLevel : Bool)
  /-- SLOPE_PHASE_END (R101). -/
  | slopePhaseEnd (n : IslIx) (k : OutIx) (edgeTime : Nat)
  /-- SLOPE_TIMEOUT (R104). -/
  | slopeTimeout (n : IslIx) (k : OutIx)
  /-- EDGE_LOST (R111). -/
  | edgeLost (n : IslIx)
  /-- OFF_CONF_CHANGE (R114). -/
  | offConfChange (n : IslIx) (gates : List Int)
  /-- PARTNER_OFF_CONF (R115). -/
  | partnerOffConf (n p : IslIx) (v : Bool)
  /-- PARTNER_CLAIM (R116). -/
  | partnerClaim (n p : IslIx) (v : Bool)
  /-- CLAIM_WINDOW_CLOSE (R115). -/
  | claimWindowClose (n : IslIx)
  /-- ILK_TMO (R119). -/
  | ilkTmo (n : IslIx)
  /-- INTERLOCK_REFRESH_LOSS (R119). -/
  | interlockRefreshLoss (n p : IslIx)
  /-- ILK_LOST (R119). -/
  | ilkLost (n : IslIx)
  /-- GATE_STUCK (R120). -/
  | gateStuck (n : IslIx) (k : OutIx)
  /-- ISL_UVLO_FALL (R99). -/
  | islUvloFall (n : IslIx)
  /-- ISL_UVLO_RELEASE (R99). -/
  | islUvloRelease (n : IslIx)
  /-- ISL_RAIL_DEV (R100). -/
  | islRailDev (n : IslIx) (vpos vneg : Int)
  /-- VDDI_FAILURE (R100). -/
  | vddiFailure (n : IslIx)
  /-- BOOTSTRAP_CHANGEOVER (R121). -/
  | bootstrapChangeover (n : IslIx)
  /-- BOOTSTRAP_RETURN (R121). -/
  | bootstrapReturn (n : IslIx)
  /-- BST_LOW (R123). -/
  | bstLow (n : IslIx) (low : Bool)
  /-- DESAT_CONFIRM (R126). -/
  | desatConfirm (n : IslIx)
  /-- FAST_FAULT_CODE (R127). -/
  | fastFaultCode (n : IslIx) (code : BitVec 4)
  /-- KTI_WINDOW_END (R128). -/
  | ktiWindowEnd (n : IslIx) (k : OutIx) (on : Bool) (raw gateDrop : Int)
  /-- BALANCER_UPDATE (R130). -/
  | balancerUpdate (pos : Fin 12)
  /-- PROBE_INTERVAL (R131). -/
  | probeInterval (n : IslIx) (k : OutIx)
  /-- PROBE_DONE (R131). -/
  | probeDone (n : IslIx) (k : OutIx) (vpre v50 v150 : Int)
  /-- CAL_CMD_FIRST (R132). -/
  | calCmdFirst (r : Req) (n : IslIx) (rgMeans : List Nat) (ntc : Int)
  /-- CAL_CMD_SECOND (R132). -/
  | calCmdSecond (r : Req) (n : IslIx) (rgMeans : List Nat) (ntc : Int)
  /-- ISLAND_GLOBAL_COMMIT (R150). -/
  | islandGlobalCommit (r : Req)
  /-- ISLAND_COMMIT (R141). -/
  | islandCommit (r : Req) (n : IslIx)
  /-- CFG_FRAME (R141). -/
  | cfgFrame (n : IslIx) (h : RillysHdr)
  /-- CFG_ACK_FRAME (R141). -/
  | cfgAckFrame (n : IslIx) (h : RillysHdr) (crc : Word)
  /-- CMD_FRAME (R139). -/
  | cmdFrame (n : IslIx) (h : RillysHdr) (payload : CmdPayload)
  /-- RESULT_FRAME (R170). -/
  | resultFrame (n : IslIx) (h : RillysHdr) (result : DWord)
  /-- EVENT_FRAME (R127). -/
  | eventFrame (n : IslIx) (h : RillysHdr) (code : BitVec 4) (rec : List Byte)
  /-- TELEM_FRAME (R253). -/
  | telemFrame (n : IslIx) (h : RillysHdr) (edgeOn edgeOff : Nat) (vgOn : List Int)
  /-- IDLE_FRAME (R140). -/
  | idleFrame (n : IslIx) (h : RillysHdr) (toIsland : Bool)
  /-- RILLYS_SLOT (R140). -/
  | rillysSlot (n : IslIx) (fromIsland : Bool)
  /-- RETRANSMIT_TIMEOUT (R139). -/
  | retransmitTimeout (n : IslIx) (fromIsland : Bool)
  /-- RILLYS_LINK_LOST (R140). -/
  | rillysLinkLost (n : IslIx)
  /-- LINK_ERROR_RATE_WINDOW (R139). -/
  | linkErrorRateWindow (n : IslIx)
  /-- TRIGGER_FIRE (R156). -/
  | triggerFire (pt : Fin 16)
  /-- SARU_CONVERSION_DONE (R154). -/
  | saruConversionDone (u : Fin 4) (uv : Int)
  /-- REGULAR_SEQUENCE_START (R158). -/
  | regularSequenceStart (u : Fin 4)
  /-- ISLAND_SAMPLE_INSTANT (R169). -/
  | islandSampleInstant (n : IslIx) (inst : Nat) (shuntUv vdcUv : Int)
  /-- NTC_CONVERSION (R172). -/
  | ntcConversion (n : IslIx) (r1 r2 : Nat)
  /-- DC_LINK_WINDOW_CROSS (R173). -/
  | dcLinkWindowCross (n : IslIx) (upper trip : Bool)
  /-- ICU_WINDOW_END (R177). -/
  | icuWindowEnd (u : Fin 8) (sample : IcuSample)
  /-- ICU_WINDOW_TIMEOUT (R178). -/
  | icuWindowTimeout (u : Fin 8) (sample : IcuSample)
  /-- REF_SETTLED (R180). -/
  | refSettled (ref : RefSel)
  /-- REF_LOST (R180). -/
  | refLost (ref : RefSel) (inRange : Bool)
  /-- CAL_DUE (R181). -/
  | calDue (unit : CalUnit)
  /-- CAL_DONE (R184). -/
  | calDone (unit : CalUnit) (offset gain : Int)
  /-- CAL_REQUEST (R181). -/
  | calRequest (r : Req) (mask : Byte)
  /-- CMP_TRIP (R191). -/
  | cmpTrip (c : Fin 16)
  /-- CMP_RELEASE (R188). -/
  | cmpRelease (c : Fin 16)
  /-- SENSING_COMMIT (R199). -/
  | sensingCommit (r : Req)
  /-- ENCODER_EDGE (R207). -/
  | encoderEdge (a b : Bool)
  /-- INDEX_EVENT (R210). -/
  | indexEvent
  /-- ENC_WIRE_FAULT (R209). -/
  | encWireFault
  /-- HALL_CHANGE (R212). -/
  | hallChange (code : BitVec 3) (stable : Bool)
  /-- HALL_ILLEGAL_TIMEOUT (R213). -/
  | hallIllegalTimeout
  /-- RESOLVER_CHECK (R217). -/
  | resolverCheck (amp : Nat) (trackErr : Int) (excFault : Bool) (theta : Nat)
  /-- SENT_FRAME (R219). -/
  | sentFrame (s : Fin 2) (frame : SentFrame)
  /-- SENT_TIMEOUT (R219). -/
  | sentTimeout (s : Fin 2)
  /-- SSI_FRAME_DONE (R222). -/
  | ssiFrameDone (frame : SsiFrame)
  /-- STANDSTILL_START_DONE (R226). -/
  | standstillStartDone (ch : Fin 2) (meas : SsMeas)
  /-- OBS_RECOVERY (R230). -/
  | obsRecovery (ch : Fin 2)
  /-- CATCH_ATTEMPT (R233). -/
  | catchAttempt (ch : Fin 2)
  /-- CATCH_PULSE_END (R233). -/
  | catchPulseEnd (ch : Fin 2) (angle : Nat) (emfSpeed : Int)
  /-- CATCH_DONE (R233). -/
  | catchDone (ch : Fin 2) (ok : Bool)
  /-- ALIGN_CMD (R202). -/
  | alignCmd (r : Req) (ch : Fin 2)
  /-- ALIGN_DONE (R202). -/
  | alignDone (ch : Fin 2) (avg : Nat)
  /-- PCMP_VALUE_WRITE (R238). -/
  | pcmpValueWrite (r : Req) (p : Fin 4) (v : Int)
  /-- PCMP_MODE_WRITE (R237). -/
  | pcmpModeWrite (r : Req) (p : Fin 4) (mode : Byte)
  /-- POSITION_COMMIT (R242). -/
  | positionCommit (r : Req)
  /-- SOLVER_STEP (R294). -/
  | solverStep (m : Fin 2)
  /-- TORQUE_CMD (R274). -/
  | torqueCmd (r : Req) (m : Fin 2) (v : Word)
  /-- SPEED_CMD (R275). -/
  | speedCmd (r : Req) (m : Fin 2) (v : Word)
  /-- ASC_BRAKE_CMD (R278). -/
  | ascBrakeCmd (r : Req) (m : Fin 2) (v : Byte)
  /-- ASC_ALTERNATE (R278). -/
  | ascAlternate (m : Fin 2)
  /-- CMD_TIMEOUT (R281). -/
  | cmdTimeout
  /-- ACTIVATE (R290). -/
  | activate (r : Req)
  /-- MAP_VERIFY_DONE (R289). -/
  | mapVerifyDone (bank : Fin 2) (mapSet : MapSet) (checks : MapChecks)
  /-- ACTIVE_BANK_VERIFY_DONE (R291). -/
  | activeBankVerifyDone (ok : Bool)
  /-- CORR_LEARN (R297). -/
  | corrLearn (m : Fin 2) (ePsiD ePsiQ : Rat)
  /-- CORR_RESET (R299). -/
  | corrReset (r : Req)
  /-- CORR_SAVE (R299). -/
  | corrSave (r : Req)
  /-- CORR_DELETE (R299). -/
  | corrDelete (r : Req)
  /-- CORR_SAVE_DONE (R299). -/
  | corrSaveDone
  /-- TRACE_ARM (R303). -/
  | traceArm (r : Req)
  /-- TRACE_FORCE_TRIGGER (R303). -/
  | traceForceTrigger (r : Req)
  /-- TRACE_STOP (R303). -/
  | traceStop (r : Req)
  /-- LIMIT_COMMIT (R309). -/
  | limitCommit (r : Req)
  /-- FIELD_LOOP_COMMIT (R243). -/
  | fieldLoopCommit (r : Req)
  /-- SOLVER_COMMIT (R309). -/
  | solverCommit (r : Req)
  /-- TRACE_COMMIT (R306). -/
  | traceCommit (r : Req)
  /-- GRID_PLL_LOCK (R314). -/
  | gridPllLock
  /-- OUTER_LOOP_STEP (R318). -/
  | outerLoopStep
  /-- I_OUT_CMD (R326). -/
  | iOutCmd (r : Req) (v : Word)
  /-- RLY_CMD (R327). -/
  | rlyCmd (r : Req) (v : Byte)
  /-- RELAY_FEEDBACK_CHANGE (R328). -/
  | relayFeedbackChange (k : Fin 8) (contact : Bool)
  /-- RELAY_CHECK_TIMEOUT (R328). -/
  | relayCheckTimeout (k : Fin 8)
  /-- RELAY_DRIVER_SHORT (R329). -/
  | relayDriverShort (k : Fin 8)
  /-- GRID_CHECK_TIMEOUT (R331). -/
  | gridCheckTimeout
  /-- PRECHARGE_TIMEOUT (R331). -/
  | prechargeTimeout
  /-- RLY_OVERLAP_EXPIRY (R331). -/
  | rlyOverlapExpiry
  /-- DC_RAMP_DONE (R331). -/
  | dcRampDone
  /-- OUT_MATCH_DONE (R331). -/
  | outMatchDone
  /-- OUT_MATCH_TIMEOUT (R331). -/
  | outMatchTimeout
  /-- STOP_CURRENT_WAIT (R333). -/
  | stopCurrentWait
  /-- BLOCK_RELAY_OFF (R334). -/
  | blockRelayOff
  /-- GRID_OK_TIMER (R336). -/
  | gridOkTimer
  /-- ENERGY_CLEAR (R339). -/
  | energyClear (r : Req)
  /-- CHARGER_COMMIT (R341). -/
  | chargerCommit (r : Req)
  /-- FAULT_POST (R348). -/
  | faultPost (code : FaultCode) (detail : Nat)
  /-- FAULT_LEAVE (R349). -/
  | faultLeave (code : FaultCode) (detail : Nat)
  /-- FAULT_RESET (R344). -/
  | faultReset (r : Req) (w : Half)
  /-- RESET_HELD_TIMEOUT (R344). -/
  | resetHeldTimeout (src : ResetSrc)
  /-- DISCH_START (R368). -/
  | dischStart (r : Req)
  /-- DISCH_STOP (R368). -/
  | dischStop (r : Req)
  /-- DISCH_REQ (R368). -/
  | dischReq (r : Req) (w : Half)
  /-- DISCH_PATH_CHECK (R370). -/
  | dischPathCheck
  /-- DISCH_TIMEOUT (R371). -/
  | dischTimeout
  /-- LOG_WRITE (R376). -/
  | logWrite (ok : Bool)
  /-- LOG_CLEAR (R377). -/
  | logClear (r : Req)
  /-- PROTECTION_COMMIT (R379). -/
  | protectionCommit (r : Req) (crcOk : Bool)
  /-- SI_SAMPLE (R382). -/
  | siSample (levels : BitVec 6) (rst : Bool)
  /-- TEST_PULSE (R386). -/
  | testPulse (tpB : Bool)
  /-- TEST_PULSE_END (R386). -/
  | testPulseEnd (seen : BitVec 6)
  /-- HVIL_CYCLE (R384). -/
  | hvilCycle (iOut iRetOn iRetOff : Nat) (limit : Bool)
  /-- COMPLETE_TEST (R387). -/
  | completeTest (fails : List SiFail)
  /-- SAFE_RST_EDGE (R391). -/
  | safeRstEdge (widthMs : Nat)
  /-- HELMET_EVALUATOR_READ (R390). -/
  | helmetEvaluatorRead
  /-- SI_COMMIT (R397). -/
  | siCommit (r : Req) (crcOk : Bool)
  /-- SRAM_CE (R401). -/
  | sramCe (mac : Fin 48) (addr : Nat)
  /-- SRAM_UE (R402). -/
  | sramUe (mac : Fin 48) (addr : Nat) (who : Master)
  /-- MPU_VIOLATION (R400). -/
  | mpuViolation (who : Master) (addr : Nat)
  /-- SCRUB_STEP (R403). -/
  | scrubStep
  /-- NV_OPERATION_DONE (R407). -/
  | nvOperationDone (kind : NvKind) (result : NvResult)
  /-- PERSISTENT_WRITE_DONE (R409). -/
  | persistentWriteDone (readbackOk : Bool)
  /-- COMPACTION_DONE (R411). -/
  | compactionDone (keys : List Nat) (eraseMax : Nat)
  /-- OP_TIME_SAVE (R408). -/
  | opTimeSave
  /-- DMA_DESCRIPTOR_START (R414). -/
  | dmaDescriptorStart (ch : Fin 16) (desc : DmaDesc)
  /-- DMA_BEAT (R415). -/
  | dmaBeat (ch : Fin 16) (fault : Option (Fin 4))
  /-- ROTATION_SLOT (R420). -/
  | rotationSlot
  /-- SELFTEST_DONE (R417). -/
  | selftestDone (t : Nat) (sig cycles detail : Nat) (cut mismatch : Bool)
  /-- ST_OVERDUE (R421). -/
  | stOverdue (t : Nat)
  /-- ST_REQUEST (R425). -/
  | stRequest (r : Req) (t : Byte)
  /-- ST_ABORT (R425). -/
  | stAbort (r : Req)
  /-- MARCH_BLOCK (R425). -/
  | marchBlock
  /-- SELFTEST_COMMIT (R428). -/
  | selftestCommit (r : Req)
  /-- READ (R437). -/
  | read (r : Req) (idx : Half) (sub : Byte)
  /-- WRITE (R430). -/
  | write (r : Req) (idx : Half) (sub : Byte) (data : List Byte)
  /-- UNKNOWN_CMD (R435). -/
  | unknownCmd (r : Req) (cmd : Byte) (idx : Half) (sub : Byte)
  /-- BLOCK_W_START (R441). -/
  | blockWStart (r : Req) (idx : Half) (sub : Byte) (total window : Nat)
  /-- BLOCK_W_DATA (R442). -/
  | blockWData (r : Req) (idx : Half) (sub : Byte) (handle : Byte) (offset : Nat) (data : List Byte)
  /-- BLOCK_W_WINDOW (R442). -/
  | blockWWindow (r : Req) (idx : Half) (sub : Byte) (handle : Byte)
  /-- BLOCK_WINDOW_FREE (R442). -/
  | blockWindowFree
  /-- BLOCK_W_END (R442). -/
  | blockWEnd (r : Req) (idx : Half) (sub : Byte) (handle : Byte) (crc : Word)
  /-- BLOCK_R_START (R443). -/
  | blockRStart (r : Req) (idx : Half) (sub : Byte)
  /-- BLOCK_R_DATA (R443). -/
  | blockRData (r : Req) (idx : Half) (sub : Byte) (handle : Byte) (offset len : Nat)
  /-- BLOCK_ABORT (R444). -/
  | blockAbort (r : Req) (idx : Half) (sub : Byte) (handle : Byte)
  /-- BLOCK_IDLE_TIMEOUT (R444). -/
  | blockIdleTimeout (write : Bool)
  /-- BUSY_HOLD_EXPIRY (R440). -/
  | busyHoldExpiry
  /-- PROCESS_FRAME (R446). -/
  | processFrame (port : Port) (p : Fin 8) (data : List Byte)
  /-- TX_PROCESS_SAMPLE (R465). -/
  | txProcessSample (p : Fin 8)
  /-- MAPPING_COMMIT (R445). -/
  | mappingCommit (r : Req)
  /-- READY_REQ (R84). -/
  | readyReq (r : Req) (w : Half)
  /-- READY_REQ_CLEAR (R450). -/
  | readyReqClear (r : Req) (w : Half)
  /-- RUN_REQ (R449). -/
  | runReq (r : Req) (w : Half)
  /-- RUN_REQ_CLEAR (R450). -/
  | runReqClear (r : Req) (w : Half)
  /-- SERVICE_REQ (R450). -/
  | serviceReq (r : Req) (w : Half)
  /-- SERVICE_REQ_CLEAR (R450). -/
  | serviceReqClear (r : Req) (w : Half)
  /-- SLEEP_REQ (R87). -/
  | sleepReq (r : Req) (w : Half)
  /-- RESET_CMD (R449). -/
  | resetCmd (r : Req) (w : Half)
  /-- CAN_FRAME_RECEIVE (R469). -/
  | canFrameReceive (c : Fin 4) (frame : CanFrame) (full : Bool)
  /-- CAN_FRAME_SENT (R467). -/
  | canFrameSent (c : Fin 4) (lostArb : Bool)
  /-- CAN_BUS_OFF (R470). -/
  | canBusOff (c : Fin 4)
  /-- CAN_BUS_OFF_RECOVERY (R470). -/
  | canBusOffRecovery (c : Fin 4)
  /-- HOST_TMO_EXPIRY (R471). -/
  | hostTmoExpiry
  /-- ETH_LINK_CHANGE (R472). -/
  | ethLinkChange (speed : Fin 5)
  /-- ARP_REQUEST (R473). -/
  | arpRequest (target : Word) (senderIp : Word)
  /-- ICMP_ECHO (R473). -/
  | icmpEcho (dst src : Word) (payload : List Byte)
  /-- ARP_TIMEOUT (R473). -/
  | arpTimeout (ip : Word)
  /-- PTP_MESSAGE (R475). -/
  | ptpMessage (offsetNs : Int) (timeNs : Nat)
  /-- PTP_SYNC_LOSS (R475). -/
  | ptpSyncLoss
  /-- SPI_SERVICE_REQ (R478). -/
  | spiServiceReq (node : Fin 8) (data : List Byte) (crcOk : Bool)
  /-- SPI_SERVICE_RD (R478). -/
  | spiServiceRd
  /-- SPI_PROC_WR (R478). -/
  | spiProcWr (p : Fin 8) (data : List Byte)
  /-- SPI_PROC_RD (R478). -/
  | spiProcRd (p : Fin 8)
  /-- SPI_BAD_TRANSACTION (R479). -/
  | spiBadTransaction
  /-- ANNOUNCE (R484). -/
  | announce (h : SpanHdr) (serial : DWord) (nonce : DWord)
  /-- ANNOUNCE_TIMER (R484). -/
  | announceTimer
  /-- JOIN_REQ (R484). -/
  | joinReq (h : SpanHdr) (serial : DWord) (nonce : DWord)
  /-- JOIN_RETRY (R484). -/
  | joinRetry
  /-- JOIN_ACK (R484). -/
  | joinAck (h : SpanHdr) (nonceM nonceW : DWord)
  /-- CYCLIC (R487). -/
  | cyclic (h : SpanHdr) (data : CyclicData) (tFirst : Int) (mismatch : Bool)
  /-- SPAN_STATUS (R491). -/
  | spanStatus (h : SpanHdr) (data : SpanStatusData)
  /-- SPAN_SERVICE (R459). -/
  | spanService (h : SpanHdr) (frame : List Byte)
  /-- SPAN_SERVICE_REPLY (R459). -/
  | spanServiceReply (h : SpanHdr) (frame : List Byte)
  /-- DELAY_REQ (R483). -/
  | delayReq (h : SpanHdr)
  /-- DELAY_RESP (R483). -/
  | delayResp (h : SpanHdr) (rtt turn : Int)
  /-- DELAY_EXCHANGE_TIMER (R483). -/
  | delayExchangeTimer
  /-- SPAN_CYCLE (R487). -/
  | spanCycle
  /-- RELAY_REPLY_TIMEOUT (R460). -/
  | relayReplyTimeout (node : Fin 8)
  /-- SPAN_PORT_DOWN (R492). -/
  | spanPortDown (p : Fin 2)
  /-- QUARANTINE_END (R486). -/
  | quarantineEnd (p : Fin 2)
  /-- SPAN_MGR_TIMEOUT (R490). -/
  | spanMgrTimeout
  /-- SPAN_NODE_TIMEOUT (R491). -/
  | spanNodeTimeout (n : Fin 8)
  /-- NET_COMMIT (R496). -/
  | netCommit (r : Req)
  /-- SPAN_COMMIT (R496). -/
  | spanCommit (r : Req)
  /-- AUTH_CHALLENGE (R513). -/
  | authChallenge (r : Req) (sub : Byte)
  /-- AUTH_RESPONSE (R513). -/
  | authResponse (r : Req) (sub : Byte) (data : List Byte)
  /-- SESSION_CLOSE (R514). -/
  | sessionClose (r : Req) (handle : Byte)
  /-- SESSION_IDLE_TIMEOUT (R514). -/
  | sessionIdleTimeout
  /-- AUTH_LOCKOUT_END (R514). -/
  | authLockoutEnd
  /-- TRNG_HEALTH_FAIL (R514). -/
  | trngHealthFail
  /-- LC_REQUEST (R498). -/
  | lcRequest (r : Req) (v : Word)
  /-- OEM_KEY_REVOKE (R501). -/
  | oemKeyRevoke (r : Req) (slot : Byte)
  /-- FW_CONFIRM (R506). -/
  | fwConfirm (r : Req)
  /-- FW_PREFERRED (R509). -/
  | fwPreferred (r : Req) (v : Byte)
  /-- FW_SLOT_VERIFY_DONE (R509). -/
  | fwSlotVerifyDone (slot : FwSlot) (seen : FwSeen)
  /-- PARAM_VERIFY_DONE (R511). -/
  | paramVerifyDone (half : Bool) (set : ParamSet)
  /-- PARAM_ACTIVATE (R511). -/
  | paramActivate (r : Req)
  /-- SPAN_PORT_UP (R492). -/
  | spanPortUp (p : Fin 2)
  /-- VDDIO_BACK_IN_BAND (R72). -/
  | vddioBackInBand
  /-- TAP_INSTRUCTION (R515). -/
  | tapInstruction (instr : TapInstr)
  /-- DATAGRAM_DISCARDED (R474). -/
  | datagramDiscarded (tooLarge : Bool)
  deriving DecidableEq, Repr

end Sys2Proof
end

