-- ==== Sys2Proof/Config.lean ====
section
/-! DEFINITION. What the manual leaves open: free values (no body, so no proof sees a value), the exact real functions it names, cryptographic functions, and the per-part identity. -/

namespace Sys2Proof.Config

/-- Free value: which neighbour a value that is no whole number of its unit takes (assumption 3). -/
opaque up : Rat → Bool

/-- Free value: binary32 nearest to an exact value that no binary32 holds (assumption 4). -/
opaque roundF32 : Rat → BitVec 32

/-- Free value: what a division by zero gives (assumption 5). -/
opaque divByZero : Rat → Rat

/-- Free value: a counter counted past its largest value (assumption 6). -/
opaque countOver : Nat → Nat

/-- Free value: what a computed value that its object cannot hold reads as (assumption 6). -/
opaque noFit : Int → Nat

/-- Free value: the image over which the CRC-32 of a staged set is taken (R141 gives no layout). -/
opaque cfgImage : List (Nat × Int) → List (BitVec 8)

/-- Free value read at the step's own counter: an outcome the manual leaves open between two (assumption 7). -/
opaque freeBit : Nat → Bool

/-- Free value read at the step's own counter: a number the manual leaves open (assumption 7). -/
opaque freeNat : Nat → Nat

/-- Free value read at the step's own counter: a real the manual leaves open (assumption 7). -/
opaque freeRat : Nat → Rat

/-- The real functions the manual's formulas name; only their names are used (assumption 8). Angles in radians. -/
opaque sin : Rat → Rat
opaque cos : Rat → Rat
opaque atan2 : Rat → Rat → Rat
opaque asin : Rat → Rat
opaque sqrt : Rat → Rat
opaque exp : Rat → Rat
opaque ln : Rat → Rat
opaque pi : Rat

/-- Cryptographic functions and keys, as names only (assumption 9). The signature check of R500: hash of the signing key, message, r and s. -/
opaque ecdsaOk (hash msg sig : List Byte) : Bool
/-- Hashes of V0 and V1 in the ROMs (Table 14.3). -/
opaque vendorHash : Nat → List Byte
/-- The unwrap integrity check of a key blob (R502). -/
opaque unwrapOk : List Byte → Bool
/-- AES-CMAC of a message under K_PROC or K_RING of a generation (R466, R485), 4 bytes as a number. -/
opaque cmacProc (gen : Nat) (ctx msg : List Byte) : Word
opaque cmacRing (gen : Nat) (ctx msg : List Byte) : Word
/-- SESSION byte of a reply, for its command and sequence number: R435 states none (assumption 27). -/
opaque replySession (cmd seq : Byte) : Byte
/-- Addresses of the command-copy window within the Helmet macros (Table 11.1 gives none; assumption 26). -/
opaque copyWindow : Nat → Bool
/-- Signature that a test ends with when every response is right, for its number and seed (R417; assumption 28). -/
opaque expectedSig : Nat → Nat → Nat
/-- What the TRNG gives at a draw count (R513, R484). -/
opaque trng : Nat → Nat

/-- Voltages of the external reference and of VANA, V (Table 5.12; assumption 18). -/
opaque vrefIn : Rat
opaque vana : Rat

/-- Outcome of an operation whose measure no command brings, at the step's own counter (assumption 19). -/
opaque measured : Nat → Int

/-- Vector that overmodulation I and II apply for a demanded one and a DC-link voltage (R262 gives no gains; assumption 20). -/
opaque overmodI (va vb vdc : Rat) : Rat × Rat
opaque overmodII (va vb vdc : Rat) : Rat × Rat

/-- Rate per second at which k_v moves for a bandwidth in Hz (R265), and the zero-sequence PI of the open-end winding (Table 7.1); the manual names them without gains (assumption 20). -/
opaque vlimRate : Rat → Rat
opaque zeroSeq (bw i0 integral : Rat) : Rat

/-- Charger controls that the manual names without gains (assumption 24): the PLL-frequency notch of the energy error in single-phase mode (R318), the CV integrator's rate per second (R324), the output-match PI (Table 8.7), and the β current of single-phase mode (R317), at the step's own counter where they hold a state of their own. -/
opaque notch (freq e : Rat) (ix : Nat) : Rat
opaque cvRate (bw err : Rat) : Rat
opaque matchPi (bw err integral : Rat) : Rat
opaque betaOf (alpha : Rat) (ix : Nat) : Rat

/-- Entry of the Helmet's magnitude-only table: the largest torque of a machine at a current magnitude, Nm, for a set (R360 names the table without its grid; assumption 25). -/
opaque magTorque (setId m : Nat) (amps : Rat) : Rat

/-- Identity of the part (Table 12.12, "Per part"; assumption 10). -/
opaque siliconStep : BitVec 16
opaque serialNumber : BitVec 64
opaque lotCode : List Byte
opaque dateCode : BitVec 16
opaque bootRomVersion : BitVec 32
opaque macAddr : BitVec 48
opaque devPubkey : List Byte

end Sys2Proof.Config
end

