-- ==== Sys2Proof/Machine/Faults.lean ====
section
/-! DEFINITION. The fault tables of the chapters (Tables 3.12, 4.18, 5.19, 6.8, 7.12, 8.10, 9.10, 10.7, 11.12, 12.11, 13.6, 14.7 and their kin): each code's number, class and kind of leaving condition. -/

namespace Sys2Proof

/-- How a fault of each code leaves (last column of its fault table): edge is a bare reset edge; cond is the code's own condition (with a reset edge for class C4, R344); nextStart, the next start-up; restart, the control-die restart; pair, the restart of the Main pair; external, RESET_N asserted or VIN cycled. -/
inductive LeaveKind | edge | cond | nextStart | restart | pair | external
  deriving DecidableEq, Repr

/-- The 16-bit number of a fault code. -/
def FaultCode.num : FaultCode → Nat
  | .canBusOff => 0x1101
  | .canRxOverflow => 0x1102
  | .canAuthFail => 0x1103
  | .canHostLost => 0x1104
  | .canTakeover => 0x1105
  | .ethLinkDown => 0x1106
  | .spiFrameErr => 0x1107
  | .ptpUnsync => 0x1108
  | .procReject => 0x2001
  | .blockAborted => 0x2002
  | .groupRestoreFail => 0x2003
  | .cmdTimeout => 0x2101
  | .fleMismatch => 0x2201
  | .fleSingle => 0x2202
  | .fleOverrun => 0x2203
  | .vecDegraded => 0x2204
  | .vdcLost => 0x2205
  | .mapExtrap => 0x2301
  | .mapActiveInvalid => 0x2302
  | .mapVerifyFail => 0x2303
  | .mapReadErr => 0x2304
  | .solverLate => 0x2305
  | .mapCorrLimit => 0x2306
  | .encIllegal => 0x2401
  | .encFail => 0x2402
  | .encIndexDev => 0x2403
  | .encIndexMissing => 0x2404
  | .hallIllegal => 0x2405
  | .hallNoise => 0x2406
  | .hallFail => 0x2407
  | .resLos => 0x2408
  | .resLot => 0x2409
  | .resExcFail => 0x240A
  | .sentErr => 0x240B
  | .sentFail => 0x240C
  | .ssiErr => 0x240D
  | .ssiFail => 0x240E
  | .obsLost => 0x240F
  | .rotorLost => 0x2410
  | .posDisagree => 0x2411
  | .ssFail => 0x2412
  | .flyCatchFail => 0x2413
  | .encoOverrun => 0x2414
  | .snsOvr => 0x2501
  | .calStarved => 0x2502
  | .snsCalFail => 0x2503
  | .snsRefFail => 0x2504
  | .snsLate => 0x2505
  | .snsIlineLost => 0x2506
  | .snsShuntSum => 0x2507
  | .snsShuntWindow => 0x2508
  | .cmpNote => 0x2509
  | .cmpSafe => 0x250A
  | .cmpLatch => 0x250B
  | .cmpTestFail => 0x250C
  | .cmpShadowMismatch => 0x250D
  | .snsTrigOverrun => 0x250E
  | .icuUntracked => 0x250F
  | .islUvlo => 0x2601
  | .islRailDev => 0x2602
  | .islDesat => 0x2603
  | .shootConflict => 0x2604
  | .islIlkTmo => 0x2605
  | .islIlkLost => 0x2606
  | .islGateStuck => 0x2607
  | .islEdgeLost => 0x2608
  | .islLinkLost => 0x2609
  | .islLinkErrRate => 0x260A
  | .islCfgMismatch => 0x260B
  | .islOnBootstrap => 0x260C
  | .islBstLow => 0x260D
  | .islSlopeTmo => 0x260E
  | .islDieIsolated => 0x260F
  | .islDieShortage => 0x2610
  | .islTjHigh => 0x2611
  | .islNtcFail => 0x2612
  | .islPreloadStale => 0x2613
  | .islVerifyFail => 0x2614
  | .islBalLimit => 0x2615
  | .mainLockstep => 0x2701
  | .mainTakeover => 0x2702
  | .hlmLockstep => 0x2703
  | .hlmFault => 0x2704
  | .hlmMainSilent => 0x2705
  | .hlmTorque => 0x2706
  | .hlmOverspeed => 0x2707
  | .hlmDiverseNone => 0x2708
  | .safeReqDiff => 0x2709
  | .hlmVdcDisagree => 0x270A
  | .hlmMapFail => 0x270B
  | .collectorOverflow => 0x270C
  | .resetHeld => 0x270D
  | .dcOv1 => 0x270E
  | .clampFail => 0x270F
  | .dcOv2 => 0x2710
  | .ascFail => 0x2711
  | .dcUv => 0x2712
  | .dischFail => 0x2713
  | .siEoffDemand => 0x2801
  | .siHvilDemand => 0x2802
  | .siCoverDemand => 0x2803
  | .siAuxDemand => 0x2804
  | .siDiscrepancy => 0x2805
  | .siChatter => 0x2806
  | .siTestFail => 0x2807
  | .gridLoss => 0x2901
  | .gridVLow => 0x2902
  | .gridVHigh => 0x2903
  | .gridFRange => 0x2904
  | .gridPllUnlock => 0x2905
  | .gridPhaseOrder => 0x2906
  | .prechargeFail => 0x2907
  | .rlyCloseFail => 0x2908
  | .rlyWeld => 0x2909
  | .rlyFbUnexp => 0x290A
  | .rlyDrvFault => 0x290B
  | .outMatchFail => 0x290C
  | .outOv => 0x290D
  | .outOc => 0x290E
  | .outReverse => 0x290F
  | .dabPhiLimit => 0x2910
  | .gridILimit => 0x2911
  | .vinUv => 0x2A01
  | .vinWarnLow => 0x2A02
  | .vinHigh => 0x2A03
  | .vddioFail => 0x2A04
  | .railFail => 0x2A05
  | .safeRailFail => 0x2A06
  | .pllUnlock => 0x2A07
  | .clockMismatch => 0x2A08
  | .safeClockFail => 0x2A09
  | .xtalFail => 0x2A0A
  | .tempWarn => 0x2A0B
  | .tempDerate => 0x2A0C
  | .thermalShutdown => 0x2A0D
  | .tempSensorFail => 0x2A0E
  | .islPowerHigh => 0x2A0F
  | .processBand => 0x2A10
  | .sramCe => 0x2B01
  | .sramUe => 0x2B02
  | .sramMacroFail => 0x2B03
  | .sramFail => 0x2B04
  | .mpuViolation => 0x2B05
  | .dmaError => 0x2B06
  | .nvCe => 0x2B07
  | .nvUe => 0x2B08
  | .persWriteFail => 0x2B09
  | .persRestoreFail => 0x2B0A
  | .enduranceSpent => 0x2B0B
  | .stFail => 0x2B0C
  | .stOverdue => 0x2B0D
  | .stFailHold => 0x2B0E
  | .spanRoleStrap => 0x2C01
  | .spanRoleConflict => 0x2C02
  | .spanRingOpen => 0x2C03
  | .spanAuthFail => 0x2C04
  | .spanQuarantine => 0x2C05
  | .spanMgrLost => 0x2C06
  | .spanNodeLost => 0x2C07
  | .spanSyncLost => 0x2C08
  | .spanNodeConflict => 0x2C09
  | .spanNodeSafe => 0x2C0A
  | .fwSlotRejected => 0x2D01
  | .fwRecoveryRunning => 0x2D02
  | .paramInvalid => 0x2D03
  | .paramScope => 0x2D04
  | .authLockout => 0x2D05
  | .keyBlobFail => 0x2D06
  | .trngFail => 0x2D07
  | .traceOverrun => 0x2E01
  | .logWriteFail => 0x2F01

/-- The class 1..5 of a fault code in its owner's table. FLE_MISMATCH and the demand codes are C3 here; the rules that raise them as C4 (Table 9.3, R388) post them with class 4. -/
def FaultCode.cls : FaultCode → Nat
  | .canBusOff | .canRxOverflow | .canAuthFail | .ethLinkDown | .spiFrameErr | .ptpUnsync | .procReject | .blockAborted | .vecDegraded | .mapExtrap
  | .mapVerifyFail | .mapCorrLimit | .encIllegal | .encIndexDev | .encIndexMissing | .hallIllegal | .hallNoise | .sentErr | .ssiErr | .encoOverrun
  | .snsOvr | .snsShuntWindow | .cmpNote | .snsTrigOverrun | .icuUntracked | .islLinkErrRate | .islSlopeTmo | .islBalLimit | .hlmDiverseNone
  | .safeReqDiff | .resetHeld | .dcOv1 | .siChatter | .dabPhiLimit | .gridILimit | .vinWarnLow | .vinHigh | .tempWarn | .processBand | .sramCe
  | .sramUe | .dmaError | .nvCe | .nvUe | .enduranceSpent | .spanRoleStrap | .spanRingOpen | .spanAuthFail | .spanNodeSafe | .fwSlotRejected
  | .authLockout | .keyBlobFail | .traceOverrun | .logWriteFail => 1
  | .canHostLost | .canTakeover | .groupRestoreFail | .cmdTimeout | .fleSingle | .mapActiveInvalid | .solverLate | .encFail | .hallFail | .resLos
  | .resLot | .resExcFail | .sentFail | .ssiFail | .obsLost | .ssFail | .calStarved | .snsCalFail | .snsRefFail | .snsLate | .snsIlineLost
  | .snsShuntSum | .cmpTestFail | .cmpShadowMismatch | .islRailDev | .islOnBootstrap | .islBstLow | .islDieIsolated | .islTjHigh | .islNtcFail
  | .islPreloadStale | .mainTakeover | .tempDerate | .tempSensorFail | .islPowerHigh | .sramMacroFail | .persWriteFail | .persRestoreFail | .stFail
  | .stOverdue | .spanRoleConflict | .spanQuarantine | .spanMgrLost | .spanNodeLost | .spanSyncLost | .spanNodeConflict | .fwRecoveryRunning
  | .paramInvalid | .paramScope | .trngFail => 2
  | .mapReadErr | .flyCatchFail | .cmpLatch | .islDesat | .islGateStuck | .islDieShortage | .islVerifyFail | .hlmTorque | .hlmOverspeed | .hlmMapFail
  | .collectorOverflow | .clampFail | .dcOv2 | .ascFail | .dischFail | .siDiscrepancy | .siTestFail | .prechargeFail | .rlyCloseFail | .rlyWeld
  | .rlyDrvFault | .sramFail | .stFailHold => 4
  | .mainLockstep | .hlmLockstep | .hlmFault | .hlmMainSilent | .railFail | .safeRailFail | .pllUnlock | .clockMismatch | .safeClockFail | .xtalFail
  | .thermalShutdown | .mpuViolation => 5
  | _ => 3

def FaultCode.leave : FaultCode → LeaveKind
  | .flyCatchFail | .islDesat | .islGateStuck | .islVerifyFail | .hlmTorque | .collectorOverflow | .ascFail | .dischFail | .prechargeFail
  | .rlyCloseFail | .rlyDrvFault => .edge
  | .canHostLost | .canTakeover | .fleSingle | .encFail | .hallFail | .resLos | .resLot | .resExcFail | .sentFail | .ssiFail | .snsCalFail
  | .snsIlineLost | .cmpTestFail | .mainTakeover | .sramMacroFail | .persRestoreFail | .enduranceSpent | .stFail | .spanRoleStrap | .spanRoleConflict
  | .spanNodeConflict | .fwSlotRejected | .fwRecoveryRunning | .paramInvalid | .paramScope => .nextStart
  | .railFail | .pllUnlock | .clockMismatch | .xtalFail | .thermalShutdown => .restart
  | .mainLockstep | .hlmMainSilent | .mpuViolation => .pair
  | .hlmLockstep | .hlmFault | .safeRailFail | .safeClockFail => .external
  | _ => .cond

end Sys2Proof
end

