-- ==== Sys2Proof/Machine/SystemState.lean ====
section
/-! DEFINITION. The plain data of the module as a whole: pins, supplies and start-up, Main pairs and the drive token, the Helmet, the fault collector, the discharge and the event log (chapters Module architecture, Supplies, Protection, Object dictionary). -/

namespace Sys2Proof.Machine

/-- Device states (Table 12.7), in the order of their codes. -/
inductive DevState | off | boot | selftest | standby | ready | run | safeHold | faultLatched | discharge | service | sleep
  deriving DecidableEq, Repr

/-- The four safe states (R8), in the order of their preload codes (Table 4.15). -/
inductive SafeCode | freewheel | ascLow | ascHigh | block
  deriving DecidableEq, Repr

/-- Lands whose level the module follows. -/
structure Pins where
  resetN : Bool
  /-- DRV_EN after its filter (R145). -/
  drvEn : Bool
  /-- WAKE is high until this time, µs (R86, R87). -/
  wakeUntil : Nat
  /-- ROLE1, ROLE0 as the board straps them. -/
  straps : BitVec 2
  /-- SAFE_RST after its debounce (R391). -/
  safeRst : Bool
  /-- VDDIO outputs high impedance (R72). -/
  vddioHiZ : Bool
  deriving DecidableEq, Repr

/-- Reset sources in force together (R81); the control die leaves reset when all have ended. -/
structure ResetHold where
  por : Bool
  pin : Bool
  thermal : Bool
  fault : Bool
  deriving DecidableEq, Repr

/-- What a failed start-up attempt waits on (R83). -/
inductive AttemptCause | crystal | rails | plls
  deriving DecidableEq, Repr

/-- Steps of the STANDBY to READY transition (Table 3.8): the next island group to start, then the wait for training and verification. -/
inductive ReadyPhase | idle | group (k : Fin 4) | verify
  deriving DecidableEq, Repr

/-- Supplies, clocks, start-up and thermal shutdown. -/
structure Supply where
  /-- VIN above VIN_POR (R70). -/
  vinUp : Bool
  /-- VIN valid, and not below VIN_UV since (R70, R71). -/
  vinValid : Bool
  /-- VIN above VIN_HI+ and below VIN_WARN_LOW, as last crossed (R70, R71). -/
  vinHi : Bool
  vinWarn : Bool
  hold : ResetHold
  /-- A start-up attempt runs (R83). -/
  attempting : Bool
  attemptFailed : Option AttemptCause
  /-- An attempt failed for want of the crystal; XTAL_FAIL is reported at the next successful start-up (R83). -/
  xtalMissed : Bool
  /-- Time an attempt or wake began, µs (START_TIME). -/
  startAt : Nat
  /-- Domains whose last 10 µs window deviated (R79). -/
  clockDev : List ClockDomain
  /-- The hardware SRAM clearing runs (R85). -/
  clearing : Bool
  /-- M0 and the Helmet are released to their ROMs. -/
  romRunning : Bool
  m1Released : Bool
  /-- Firmware slots not yet tried in this start-up (R504). -/
  slotsLeft : List FwSlot
  selftestDone : Bool
  readyPhase : ReadyPhase
  /-- Time READY was asked for, µs (READY_TIME). -/
  readyFrom : Nat
  /-- STANDBY was entered after a control-die reset with the island supplies running (R452). -/
  keepSupplies : Bool
  /-- Since when the Helmet choice has been FREEWHEEL or BLOCK in that STANDBY, µs (R452). -/
  releaseFrom : Option Nat
  /-- SLEEP or OFF entry runs (R87); the depth accepted. -/
  entering : Option Nat
  /-- Depth of the power state: 0 awake, 1 SLEEP, 2 OFF (Table 3.9). -/
  asleep : Nat
  /-- Thermal shutdown in force (R91), and whether it latches (R92). -/
  thermal : Bool
  thermLatch : Bool
  /-- A shutdown whose THERMAL_SHUTDOWN record is still to be written (R92). -/
  thermLog : Bool
  /-- Time VIN last fell below VIN_POR−, µs (R92). -/
  fallAt : Nat
  /-- Failed temperature sensors that read plausibly again, and since when, µs. -/
  tempOk : List (Nat × Nat)
  /-- Temperature sensors that failed the plausibility check, 1..20 (R89). -/
  tempFailed : List Nat
  deriving DecidableEq, Repr

/-- One Main pair (R17, R18, R42). -/
structure PairState where
  inReset : Bool
  restarting : Bool
  /-- Faults that called for a hot restart since the last start-up. -/
  count : Nat
  /-- Not restarted again before the next start-up. -/
  lost : Bool
  /-- The fault that called for the restart in progress. -/
  cause : Option FaultCode
  deriving DecidableEq, Repr

/-- Device state machine, Main pairs and drive token (R17, R27, R529). -/
structure Sys where
  dev : DevState
  prev : DevState
  since : Nat
  /-- State that SAFE_HOLD and DISCHARGE return to (R343, R368). -/
  back : DevState
  m0 : PairState
  m1 : PairState
  supervisor : MainPair
  /-- Both Main pairs are lost: left only by RESET_N or a VIN cycle (R42). -/
  lastPairLost : Bool
  epoch : Byte
  tokenOn : Bool
  /-- RUN_REQ edge accepted and held while the active bank is verified (R291). -/
  runPending : Bool
  /-- First entry into STANDBY since the start of the control die: FAULT_N and SAFE_N driven (R396). -/
  standbySeen : Bool
  /-- DRIVE is re-entered by a flying restart that has still to catch the machine (R343). -/
  flying : Bool
  deriving DecidableEq, Repr

/-- A fault held in a collector slot (R348). -/
structure Slot where
  code : FaultCode
  cls : Nat
  detail : Nat
  deriving DecidableEq, Repr

/-- The fault collector and the lists around it (R347..R349). -/
structure Coll where
  active : Option Slot
  pend : Option Slot
  /-- COLLECTOR_OVERFLOW held. -/
  overflow : Bool
  /-- Held C1 and C2 codes, most recent last (0x2F01). -/
  reported : List FaultCode
  /-- Code and detail of every condition that has been reported and has not left. -/
  conds : List (FaultCode × Nat)
  /-- Times of C3 raises, µs (R343, fourth within 10 s). -/
  raises : List (FaultCode × Nat)
  /-- Time of the last raise record of each C1 code, µs (R375). -/
  noted : List (FaultCode × Nat)
  /-- Time FLE_MISMATCH last left, µs (Table 9.3). -/
  mismatchLeft : Option Nat
  deriving DecidableEq, Repr

/-- One event record (Table 9.9), before its CRC. -/
structure LogRec where
  opTime : Nat
  seq : Nat
  code : Nat
  /-- TYPE and class, Table 9.9. -/
  kind : Nat
  dev : Nat
  speed : Int
  vdc : Nat
  temp : Int
  torque : Int
  detail : Nat
  safe : Nat
  deriving DecidableEq, Repr

/-- The event log: records waiting to be written (R376) and the region of the NV die. -/
structure EventLog where
  waiting : List LogRec
  records : List LogRec
  /-- Next SEQ, never reused. -/
  seq : Nat
  deriving DecidableEq, Repr

/-- What the Helmet holds of one machine (R350..R360). -/
structure HlmMachine where
  /-- The present call of R351 is ASC. -/
  asc : Bool
  /-- Commands seen: time in µs and value clamped to the limits of that time (R357). -/
  cmds : List (Nat × Rat)
  /-- Limits seen: time, TQ_LIM_POS, TQ_LIM_NEG (R357). -/
  lims : List (Nat × Rat × Rat)
  /-- Time of the last command seen. -/
  lastCmd : Option Nat
  /-- Helmet copy of CMD_MODE and ASC_BRAKE_CMD (R356). -/
  speedMode : Bool
  brakeSeen : Bool
  th : Rat
  /-- The last step reused the previous T_H (R355). -/
  thReused : Bool
  /-- Filter counter of R358, µs. -/
  errAcc : Rat
  /-- Filtered diverse speed, rpm (R359). -/
  nH : Rat
  /-- Since when the speed has been above the limit, µs (R359). -/
  overFrom : Option Nat
  /-- Shunt current vector of the last step, A (R360). -/
  iVec : Rat × Rat
  deriving DecidableEq, Repr

/-- The Helmet and its Gauntlet (R23..R25, R350..R363). -/
structure Helmet where
  /-- Permit level driven to the islands. -/
  permit : Bool
  heartbeat : Bool
  /-- Lockstep error or rail failure: the last preload is held until RESET_N or a VIN cycle (R31). -/
  stopped : Bool
  choice : SafeCode
  forcedAsc : Bool
  /-- The Helmet has chosen since its start (R351). -/
  evaluated : Bool
  machines : List HlmMachine
  stepCount : Nat
  /-- Step count Main read last (R361). -/
  mainSaw : Nat
  /-- Main's mailbox: period count and TORQUE_REF; the count the Helmet read last and the periods it has not changed (R361). -/
  mailCount : Nat
  mailTorque : Rat
  mailSaw : Nat
  mailStale : Nat
  /-- Since when the two VDC inputs of each link have differed, µs (R362). -/
  vdcDiff : List (Option Nat)
  /-- An ASC preload was written or the permit withdrawn with ASC chosen, and the 50 µs check is open (R354). -/
  ascCheck : Bool
  /-- ASC was found not established; FREEWHEEL is kept. -/
  ascGivenUp : Bool
  /-- Valid safety maps in Helmet SRAM. -/
  mapsOk : Bool
  /-- The permit is asserted for catch pulses while ROTOR_LOST is held (R364). -/
  catchPermit : Bool
  /-- ψ_PM of each machine from the safety maps at zero current (R350). -/
  psiPM : List Rat
  /-- Preload write counter modulo 16 (R142). -/
  preCount : BitVec 4
  deriving DecidableEq, Repr

/-- The clamp of one bridge (R365, R366). -/
structure Clamp where
  on : Bool
  failed : Bool
  /-- The last comparison of R366 found a rise above the limit. -/
  rising : Bool
  /-- MARK samples of the open check window, newest first: time in µs and V_DC in volts. -/
  marks : List (Nat × Rat)
  deriving DecidableEq, Repr

/-- Active discharge (R368..R371). -/
structure Disch where
  running : Bool
  clampOn : Bool
  windings : Bool
  /-- The clamp path has failed in this discharge. -/
  clampBad : Bool
  windingsBad : Bool
  /-- A discharge asked for in RUN by an EOFF demand, started when SAFE_HOLD or FAULT_LATCHED is entered (R368). -/
  wanted : Bool
  /-- V_DC at the start of the path, and the start time, µs. -/
  v0 : Rat
  startAt : Nat
  pathAt : Nat
  /-- The discharge runs within SAFE_HOLD or FAULT_LATCHED. -/
  inSafe : Bool
  /-- A fault has moved it out of DISCHARGE: the module waits there for its end (R451). -/
  held : Bool
  deriving DecidableEq, Repr

end Sys2Proof.Machine
end

