-- ==== Sys2Proof/Machine/ChargerState.lean ====
section
/-! DEFINITION. The plain data of the charger: grid PLL and supervision, outer loops, dual active bridge, relay drivers and meter (chapter Charger configuration). CHG_PHASE, relay outputs and feedback, and the measured values stand in their objects. -/

namespace Sys2Proof.Machine

/-- Steps of a normal stop (R333). -/
inductive StopStep | none | ramp | waitCurrent | opening
  deriving DecidableEq, Repr

structure Charger where
  /-- Grid angle θg of the last boundary, 65,536 units. -/
  theta : Nat
  vd : Rat
  vq : Rat
  /-- Consecutive periods with a phase error above 10° (R314), with V̂ below the loss level, output over voltage and over current. -/
  errRun : Nat
  lossRun : Nat
  ovRun : Nat
  ocRun : Nat
  /-- Consecutive windows with a phase RMS below V_MIN, above V_MAX, U V W (R335). -/
  lowRun : List Nat
  highRun : List Nat
  /-- Since when f_g has been out of range, and the current reversed, µs. -/
  freqFrom : Option Nat
  revFrom : Option Nat
  /-- No grid condition has held for GRID_OK_TIME (R336). -/
  gridGood : Bool
  /-- Integrators: DC link (R318), DAB current (R323), CV (R324), output match (Table 8.7). -/
  x : Rat
  xi : Rat
  cv : Rat
  matchI : Rat
  iOutRef : Rat
  /-- Phase shift computed and in force, degrees (R322, R323). -/
  phi : Rat
  phiAct : Rat
  /-- Grid current references (R316). -/
  idRef : Rat
  iqRef : Rat
  /-- DC-link reference of the ramp, and its start (Table 8.7, phase 4). -/
  rampRef : Rat
  rampFrom : Nat
  /-- Per relay: the check that runs, closing or opening (R328). -/
  checks : List (Option Bool)
  stop : StopStep
  /-- A stop began in the phase given (R333). -/
  stopPhase : Nat
  /-- BLOCK applied in CONVERT; the module-owned relays switch off 5 ms later (R334). -/
  blockRelays : Bool
  /-- |V_OUT − V_BATT_HOST| has been within OUT_MATCH_TOL since, µs. -/
  matchFrom : Option Nat
  /-- Meter results per phase: v_rms, i_rms, p_out, o_v (R338). -/
  vRms : List Rat
  iRms : List Rat
  pOut : List Rat
  oV : List Rat
  /-- MEAN, RMS of the even unit of each pair since its last window, LSB. -/
  meanV : List Rat
  rmsV : List Rat
  /-- Energy counters restored and saved (R339), mWh. -/
  energyIn : Rat
  energyOut : Rat
  /-- The command-timeout ramp: reference at its start, and its start (R326). -/
  tmo : Option (Rat × Nat)
  deriving DecidableEq, Repr

/-- The command timer of 0x2100:01 (R281, R326). -/
structure CmdTimer where
  running : Bool
  since : Nat
  timedOut : Bool
  hold : Bool
  deriving DecidableEq, Repr

end Sys2Proof.Machine
end

