-- ==== Sys2Proof/Machine/Objects.lean ====
section
/-! DEFINITION. The object tables of the manual (Tables 3.13, 4.19, 4.20, 5.20, 6.9, 7.13..7.16, 8.11, 9.11, 9.12, 10.8, 11.13, 12.12, 12.13, 13.7, 13.8, 14.8): where each object stands, its type, access, level, default, range and COMMIT group. -/

namespace Sys2Proof.Machine

/-- Table 12.1. A string carries its length in bytes, a DOMAIN its largest size. -/
inductive Ty | bool | u8 | u16 | u32 | u64 | i8 | i16 | i32 | f32 | str (n : Nat) | domain (max : Nat)
  deriving DecidableEq, Repr

/-- Table 12.2. -/
inductive Acc | ro | rw | wo | rwp | w1c
  deriving DecidableEq, Repr

/-- Access levels OBS < OPR < SRV < VND (R432). -/
inductive Lvl | obs | opr | srv | vnd
  deriving DecidableEq, Repr

/-- A family of objects: cnt records at idx, idx + stride, …, each with subs objects from sub on. dflt is one value, one per record, or one per subindex (empty: the table gives none). rng lists the accepted intervals (empty: all of the type). grp is the COMMIT key of its group, 0 for none, 1 for the group of the island itself (R151). -/
structure Obj where
  idx : Nat
  cnt : Nat
  stride : Nat
  sub : Nat
  subs : Nat
  ty : Ty
  acc : Acc
  lvl : Lvl
  dflt : List Int
  rng : List (Int × Int)
  grp : Nat
  deriving DecidableEq, Repr

namespace O

/-! Chapter 03. -/
def VIN_MEAS : Obj := ⟨0x2A00, 1, 1, 1, 1, .u16, .ro, .obs, [], [], 0⟩
def VDDIO_MEAS : Obj := ⟨0x2A00, 1, 1, 2, 1, .u16, .ro, .obs, [], [], 0⟩
def VDDIO_LEVEL : Obj := ⟨0x2A00, 1, 1, 3, 1, .u8, .ro, .obs, [], [], 0⟩
def INPUT_POWER : Obj := ⟨0x2A00, 1, 1, 4, 1, .u16, .ro, .obs, [], [], 0⟩
def VIN_WARN_LOW : Obj := ⟨0x2A00, 1, 1, 5, 1, .u16, .rwp, .srv, [9000], [(7000, 12000)], 0⟩
def RAIL_MEAS : Obj := ⟨0x2A01, 1, 1, 1, 5, .u16, .ro, .obs, [], [], 0⟩
def ISL_POWER : Obj := ⟨0x2A02, 1, 1, 1, 12, .u16, .ro, .obs, [], [], 0⟩
def ISL_SUPPLY : Obj := ⟨0x2A03, 1, 1, 1, 1, .u16, .ro, .obs, [0], [], 0⟩
def CLOCK_STATUS : Obj := ⟨0x2A08, 1, 1, 1, 1, .u16, .ro, .obs, [], [], 0⟩
def RESET_CAUSE : Obj := ⟨0x2A10, 1, 1, 1, 1, .u16, .w1c, .opr, [], [], 0⟩
def START_TIME : Obj := ⟨0x2A10, 1, 1, 2, 1, .u16, .ro, .obs, [], [], 0⟩
def READY_TIME : Obj := ⟨0x2A10, 1, 1, 3, 1, .u16, .ro, .obs, [], [], 0⟩
def THERM_SHUTDOWN_COUNT : Obj := ⟨0x2A10, 1, 1, 4, 1, .u16, .ro, .obs, [0], [], 0⟩
def TEMP_MAX : Obj := ⟨0x2A20, 1, 1, 1, 1, .i16, .ro, .obs, [], [], 0⟩
def TEMP_MAX_SRC : Obj := ⟨0x2A20, 1, 1, 2, 1, .u8, .ro, .obs, [], [], 0⟩
def TEMP_WARN : Obj := ⟨0x2A20, 1, 1, 3, 1, .i16, .rwp, .srv, [1350], [(1000, 1500)], 0x2A2005⟩
def TEMP_DERATE : Obj := ⟨0x2A20, 1, 1, 4, 1, .i16, .rwp, .srv, [1450], [(1000, 1550)], 0x2A2005⟩
def COMMIT_2A20 : Obj := ⟨0x2A20, 1, 1, 5, 1, .u8, .wo, .srv, [], [(1, 1)], 0⟩
def TEMP_SENSOR : Obj := ⟨0x2A21, 1, 1, 1, 20, .i16, .ro, .obs, [], [], 0⟩
def THERM_MODE : Obj := ⟨0x2A22, 1, 1, 1, 1, .u8, .rwp, .srv, [0], [(0, 1)], 0⟩
def THERM_MODE_ACTIVE : Obj := ⟨0x2A22, 1, 1, 2, 1, .u8, .ro, .obs, [], [], 0⟩
def PROCESS_CODE : Obj := ⟨0x2A28, 1, 1, 1, 1, .u16, .ro, .obs, [], [], 0⟩
def PROCESS_STATE : Obj := ⟨0x2A28, 1, 1, 2, 1, .u8, .ro, .obs, [], [], 0⟩
def SLEEP_DEPTH : Obj := ⟨0x2A30, 1, 1, 1, 1, .u8, .rwp, .opr, [0], [(0, 1)], 0⟩
def WAKE_TIMER : Obj := ⟨0x2A30, 1, 1, 2, 1, .u32, .rwp, .opr, [0], [(0, 86400)], 0⟩
def WAKE_CAUSE : Obj := ⟨0x2A30, 1, 1, 3, 1, .u8, .ro, .obs, [], [], 0⟩

/-! Chapter 04. -/
def DRV_EN_LEVEL : Obj := ⟨0x2600, 1, 1, 1, 1, .bool, .ro, .obs, [], [], 0⟩
def ISL_VERIFIED : Obj := ⟨0x2600, 1, 1, 2, 1, .u16, .ro, .obs, [0], [], 0⟩
def ISL_BOOTSTRAP : Obj := ⟨0x2600, 1, 1, 3, 1, .u16, .ro, .obs, [0], [], 0⟩
def ISL_LATCHED : Obj := ⟨0x2600, 1, 1, 4, 1, .u16, .ro, .obs, [0], [], 0⟩
def DRV_EN_CLEARS : Obj := ⟨0x2600, 1, 1, 5, 1, .u32, .ro, .obs, [0], [], 0⟩
def DT_MIN_1 : Obj := ⟨0x2601, 1, 1, 1, 1, .u16, .rwp, .srv, [250], [(200, 5000)], 0x260F01⟩
def DT_MIN_2 : Obj := ⟨0x2601, 1, 1, 2, 1, .u16, .rwp, .srv, [250], [(200, 5000)], 0x260F01⟩
def ILK_TMO : Obj := ⟨0x2601, 1, 1, 3, 1, .u16, .rwp, .srv, [2000], [(500, 10000)], 0x260F01⟩
def VG_OFF_TH : Obj := ⟨0x2601, 1, 1, 4, 1, .i8, .rwp, .srv, [10], [((-20), 40)], 0x260F01⟩
def T_REFRESH : Obj := ⟨0x2602, 1, 1, 1, 1, .u16, .rwp, .srv, [500], [(200, 2000)], 0x260F01⟩
def SOFT_OFF_SLOPE : Obj := ⟨0x2603, 1, 1, 1, 1, .u8, .rwp, .srv, [8], [(0, 31)], 0x260F01⟩
def SOFT_OFF_TMAX : Obj := ⟨0x2603, 1, 1, 2, 1, .u16, .rwp, .srv, [1000], [(100, 2000)], 0x260F01⟩
def BAL_ENABLE : Obj := ⟨0x2604, 1, 1, 1, 1, .bool, .rwp, .opr, [1], [(0, 1)], 0x260F01⟩
def BAL_RATE : Obj := ⟨0x2604, 1, 1, 2, 1, .u16, .rwp, .opr, [1000], [(10, 1000)], 0x260F01⟩
def BAL_MODE : Obj := ⟨0x2604, 1, 1, 3, 1, .u8, .rwp, .opr, [0], [(0, 1)], 0x260F01⟩
def BAL_DEADBAND : Obj := ⟨0x2604, 1, 1, 4, 1, .u16, .rwp, .opr, [20], [(5, 100)], 0x260F01⟩
def BAL_TD_STEP : Obj := ⟨0x2604, 1, 1, 5, 1, .u8, .rwp, .opr, [5], [(1, 20)], 0x260F01⟩
def BAL_MIN_CURRENT : Obj := ⟨0x2604, 1, 1, 6, 1, .u16, .rwp, .opr, [100], [(10, 2000)], 0x260F01⟩
def PROBE_ENABLE : Obj := ⟨0x2605, 1, 1, 1, 1, .bool, .rwp, .srv, [1], [(0, 1)], 0x260F01⟩
def PROBE_INTERVAL : Obj := ⟨0x2605, 1, 1, 2, 1, .u16, .rwp, .srv, [10], [(1, 1000)], 0x260F01⟩
def TJ_HIGH : Obj := ⟨0x2605, 1, 1, 3, 1, .i16, .rwp, .srv, [1700], [(1000, 2000)], 0x260F01⟩
def NTC_RNOM : Obj := ⟨0x2605, 1, 1, 4, 1, .u32, .rwp, .srv, [10000], [(1000, 100000)], 0x260F01⟩
def NTC_BETA : Obj := ⟨0x2605, 1, 1, 5, 1, .u16, .rwp, .srv, [3435], [(2000, 5000)], 0x260F01⟩
def LINK_CRC_ERR : Obj := ⟨0x2606, 1, 1, 1, 1, .u32, .ro, .obs, [0], [], 0⟩
def LINK_RETRIES : Obj := ⟨0x2606, 1, 1, 2, 1, .u32, .ro, .obs, [0], [], 0⟩
def LINK_ABANDONED : Obj := ⟨0x2606, 1, 1, 3, 1, .u32, .ro, .obs, [0], [], 0⟩
def LINK_EPOCH_DISCARD : Obj := ⟨0x2606, 1, 1, 4, 1, .u32, .ro, .obs, [0], [], 0⟩
def LINK_LOSSES : Obj := ⟨0x2606, 1, 1, 5, 1, .u32, .ro, .obs, [0], [], 0⟩
def EDGE_CORRECTIONS : Obj := ⟨0x2606, 1, 1, 6, 1, .u32, .ro, .obs, [0], [], 0⟩
def POS_DIE_MIN : Obj := ⟨0x2607, 1, 1, 1, 1, .u8, .rwp, .srv, [1], [(1, 8)], 0x260F01⟩
def ISOLATE_ENABLE : Obj := ⟨0x2607, 1, 1, 2, 1, .bool, .rwp, .srv, [1], [(0, 1)], 0x260F01⟩
def COMMIT_260F : Obj := ⟨0x260F, 1, 1, 1, 1, .u8, .wo, .opr, [], [(1, 1)], 0⟩
def ISL_STATE : Obj := ⟨0x2610, 12, 8, 1, 1, .u8, .ro, .obs, [0], [], 0⟩
def ISL_FLAGS : Obj := ⟨0x2610, 12, 8, 2, 1, .u16, .ro, .obs, [0], [], 0⟩
def DIE_ACTIVE : Obj := ⟨0x2610, 12, 8, 3, 1, .u8, .ro, .obs, [0], [], 0⟩
def VPOS_MEAS : Obj := ⟨0x2610, 12, 8, 4, 1, .i16, .ro, .obs, [], [], 0⟩
def VNEG_MEAS : Obj := ⟨0x2610, 12, 8, 5, 1, .i16, .ro, .obs, [], [], 0⟩
def BST_MEAS : Obj := ⟨0x2610, 12, 8, 6, 1, .u16, .ro, .obs, [0], [], 0⟩
def NTC1_TEMP : Obj := ⟨0x2610, 12, 8, 7, 1, .i16, .ro, .obs, [], [], 0⟩
def NTC2_TEMP : Obj := ⟨0x2610, 12, 8, 8, 1, .i16, .ro, .obs, [], [], 0⟩
def PRELOAD_SEEN : Obj := ⟨0x2610, 12, 8, 9, 1, .u8, .ro, .obs, [0], [], 0⟩
def DIE_DECL : Obj := ⟨0x2611, 12, 8, 1, 1, .u8, .rwp, .srv, [0], [(0, 15)], 0⟩
def FUNC_DECL : Obj := ⟨0x2611, 12, 8, 2, 1, .u8, .rwp, .srv, [0], [(0, 255)], 0⟩
def VPOS_SET : Obj := ⟨0x2611, 12, 8, 3, 1, .u8, .rwp, .srv, [180], [(150, 210)], 0⟩
def VNEG_SET : Obj := ⟨0x2611, 12, 8, 4, 1, .i8, .rwp, .srv, [(-40)], [((-60), (-20))], 0⟩
def R_RETURN : Obj := ⟨0x2611, 12, 8, 5, 1, .u16, .rwp, .srv, [20], [(0, 1000)], 0⟩
def R_GATE_EXT : Obj := ⟨0x2611, 12, 8, 6, 1, .u16, .rwp, .srv, [0], [(0, 10000)], 0⟩
def PRE_I_ON : Obj := ⟨0x2612, 12, 8, 1, 4, .u8, .rw, .srv, [20], [(0, 36)], 1⟩
def SLOPE_I_ON : Obj := ⟨0x2612, 12, 8, 5, 4, .u8, .rw, .srv, [16], [(0, 31)], 1⟩
def PRE_END_ON : Obj := ⟨0x2612, 12, 8, 9, 1, .u8, .rw, .srv, [1], [(0, 1)], 1⟩
def PRE_TIME_ON : Obj := ⟨0x2612, 12, 8, 10, 1, .u8, .rw, .srv, [8], [(1, 80)], 1⟩
def PRE_LEVEL_ON : Obj := ⟨0x2612, 12, 8, 11, 1, .i16, .rw, .srv, [40], [((-20), 150)], 1⟩
def PLAT_EXIT_ON : Obj := ⟨0x2612, 12, 8, 12, 1, .i16, .rw, .srv, [120], [(40, 180)], 1⟩
def SLOPE_TMAX_ON : Obj := ⟨0x2612, 12, 8, 13, 1, .u16, .rw, .srv, [400], [(20, 2000)], 1⟩
def PRE_I_OFF : Obj := ⟨0x2613, 12, 8, 1, 4, .u8, .rw, .srv, [20], [(0, 36)], 1⟩
def SLOPE_I_OFF : Obj := ⟨0x2613, 12, 8, 5, 4, .u8, .rw, .srv, [16], [(0, 31)], 1⟩
def PRE_END_OFF : Obj := ⟨0x2613, 12, 8, 9, 1, .u8, .rw, .srv, [1], [(0, 1)], 1⟩
def PRE_TIME_OFF : Obj := ⟨0x2613, 12, 8, 10, 1, .u8, .rw, .srv, [8], [(1, 80)], 1⟩
def PRE_LEVEL_OFF : Obj := ⟨0x2613, 12, 8, 11, 1, .i16, .rw, .srv, [110], [((-20), 180)], 1⟩
def PLAT_EXIT_OFF : Obj := ⟨0x2613, 12, 8, 12, 1, .i16, .rw, .srv, [30], [((-20), 120)], 1⟩
def SLOPE_TMAX_OFF : Obj := ⟨0x2613, 12, 8, 13, 1, .u16, .rw, .srv, [400], [(20, 2000)], 1⟩
def TD_ON : Obj := ⟨0x2614, 12, 8, 1, 4, .i16, .rw, .srv, [0], [((-400), 400)], 1⟩
def TD_OFF : Obj := ⟨0x2614, 12, 8, 5, 4, .i16, .rw, .srv, [0], [((-400), 400)], 1⟩
def VG_TRIM : Obj := ⟨0x2614, 12, 8, 9, 4, .i8, .rw, .srv, [0], [((-10), 10)], 1⟩
def DESAT_TH : Obj := ⟨0x2615, 12, 8, 1, 1, .u8, .rw, .srv, [24], [(0, 36)], 1⟩
def DESAT_BLANK : Obj := ⟨0x2615, 12, 8, 2, 1, .u8, .rw, .srv, [16], [(0, 56)], 1⟩
def KTI_WIN : Obj := ⟨0x2615, 12, 8, 3, 1, .u16, .rw, .srv, [300], [(50, 1000)], 1⟩
def KTI_GAIN : Obj := ⟨0x2615, 12, 8, 4, 4, .u16, .rw, .srv, [32768], [(16384, 65535)], 1⟩
def KTI_ON : Obj := ⟨0x2616, 12, 8, 1, 4, .i16, .ro, .obs, [], [], 0⟩
def KTI_OFF : Obj := ⟨0x2616, 12, 8, 5, 4, .i16, .ro, .obs, [], [], 0⟩
def VG_ON_MEAS : Obj := ⟨0x2616, 12, 8, 9, 4, .i16, .ro, .obs, [], [], 0⟩
def RG_INT : Obj := ⟨0x2616, 12, 8, 13, 4, .u16, .ro, .obs, [], [], 0⟩
def TJ_EST : Obj := ⟨0x2616, 12, 8, 17, 4, .i16, .ro, .obs, [], [], 0⟩
def TD_ON_APPLIED : Obj := ⟨0x2616, 12, 8, 21, 4, .i16, .ro, .obs, [], [], 0⟩
def VG_TRIM_APPLIED : Obj := ⟨0x2616, 12, 8, 25, 4, .i8, .ro, .obs, [], [], 0⟩
def EDGE_ON_MEAS : Obj := ⟨0x2616, 12, 8, 29, 1, .u16, .ro, .obs, [], [], 0⟩
def EDGE_OFF_MEAS : Obj := ⟨0x2616, 12, 8, 30, 1, .u16, .ro, .obs, [], [], 0⟩
def RG_REF : Obj := ⟨0x2617, 12, 8, 1, 4, .u16, .rwp, .srv, [0], [], 1⟩
def RG_ALPHA : Obj := ⟨0x2617, 12, 8, 5, 4, .i16, .rwp, .srv, [0], [], 1⟩
def T_REF : Obj := ⟨0x2617, 12, 8, 9, 1, .i16, .rwp, .srv, [250], [], 1⟩
def CAL_CMD : Obj := ⟨0x2617, 12, 8, 10, 1, .u8, .wo, .srv, [], [(1, 2)], 0⟩
def COMMIT_ISL : Obj := ⟨0x2617, 12, 8, 11, 1, .u8, .wo, .srv, [], [(1, 1)], 0⟩

/-! Chapter 05. -/
def REF_SEL_SARU : Obj := ⟨0x2500, 1, 1, 1, 1, .u8, .rwp, .srv, [0], [(0, 2)], 0x25FF01⟩
def REF_SEL_ICU : Obj := ⟨0x2500, 1, 1, 2, 1, .u8, .rwp, .srv, [0], [(0, 2)], 0x25FF01⟩
def REF_SEL_CMP : Obj := ⟨0x2500, 1, 1, 3, 1, .u8, .rwp, .srv, [0], [(0, 2)], 0x25FF01⟩
def REF_STATUS : Obj := ⟨0x2500, 1, 1, 4, 1, .u8, .ro, .obs, [0], [], 0⟩
def VREF_OUT_EN : Obj := ⟨0x2500, 1, 1, 5, 1, .bool, .rwp, .srv, [1], [(0, 1)], 0x25FF01⟩
def SARU_STATE : Obj := ⟨0x2501, 1, 1, 1, 4, .u8, .ro, .obs, [0], [], 0⟩
def CAL_ABORTS : Obj := ⟨0x2501, 1, 1, 5, 4, .u8, .ro, .obs, [0], [], 0⟩
def CAL_INTERVAL : Obj := ⟨0x2501, 1, 1, 9, 1, .u16, .rwp, .srv, [1000], [(100, 10000)], 0x25FF01⟩
def CAL_REQUEST : Obj := ⟨0x2501, 1, 1, 10, 1, .u8, .wo, .srv, [], [], 0⟩
def ILINE_AIN : Obj := ⟨0x2502, 1, 1, 1, 6, .u8, .rwp, .srv, [255], [(0, 31), (255, 255)], 0x25FF01⟩
def ILINE_GAIN : Obj := ⟨0x2502, 1, 1, 7, 6, .f32, .rwp, .srv, [1137180672], [], 0x25FF01⟩
def ILINE_ZERO : Obj := ⟨0x2502, 1, 1, 13, 6, .u16, .rwp, .srv, [1250], [(0, 3000)], 0x25FF01⟩
def ILINE_OFFSET_MEAS : Obj := ⟨0x2502, 1, 1, 19, 6, .i16, .ro, .obs, [0], [], 0⟩
def SHUNT_MODE : Obj := ⟨0x2503, 1, 1, 1, 2, .u8, .rwp, .srv, [2], [(0, 2)], 0x25FF01⟩
def MIN_WINDOW : Obj := ⟨0x2503, 1, 1, 3, 1, .u16, .rwp, .srv, [100], [(100, 500)], 0x25FF01⟩
def SHIFT_MAX : Obj := ⟨0x2503, 1, 1, 4, 1, .u16, .rwp, .srv, [200], [(0, 500)], 0x25FF01⟩
def ILINE_TOL : Obj := ⟨0x2503, 1, 1, 5, 1, .u16, .rwp, .srv, [50], [(5, 1000)], 0x25FF01⟩
def SUM_TOL : Obj := ⟨0x2503, 1, 1, 6, 1, .u16, .rwp, .srv, [30], [(5, 1000)], 0x25FF01⟩
def I_SHUNT : Obj := ⟨0x2504, 1, 1, 1, 6, .i32, .ro, .obs, [0], [], 0⟩
def SHUNT_METHOD : Obj := ⟨0x2504, 1, 1, 7, 2, .u8, .ro, .obs, [0], [], 0⟩
def I_LINE : Obj := ⟨0x2505, 1, 1, 1, 6, .i32, .ro, .obs, [0], [], 0⟩
def INJ_TRIGGER : Obj := ⟨0x2508, 8, 1, 1, 1, .u8, .rwp, .srv, [255], [(0, 15), (255, 255)], 0x25FF01⟩
def INJ_COUNT : Obj := ⟨0x2508, 8, 1, 2, 1, .u8, .rwp, .srv, [1], [(1, 4)], 0x25FF01⟩
def INJ_ENTRY : Obj := ⟨0x2508, 8, 1, 3, 4, .u16, .rwp, .srv, [65280], [], 0x25FF01⟩
def INJ_RESULT : Obj := ⟨0x2508, 8, 1, 7, 4, .u32, .ro, .obs, [0], [], 0⟩
def REG_MODE : Obj := ⟨0x2510, 4, 1, 1, 1, .u8, .rwp, .srv, [0], [(0, 2)], 0x25FF01⟩
def REG_TRIGGER : Obj := ⟨0x2510, 4, 1, 2, 1, .u8, .rwp, .srv, [255], [(0, 15), (255, 255)], 0x25FF01⟩
def REG_INTERVAL : Obj := ⟨0x2510, 4, 1, 3, 1, .u16, .rwp, .srv, [100], [(10, 10000)], 0x25FF01⟩
def REG_LENGTH : Obj := ⟨0x2510, 4, 1, 4, 1, .u8, .rwp, .srv, [1], [(1, 16)], 0x25FF01⟩
def REG_ENTRY : Obj := ⟨0x2510, 4, 1, 5, 16, .u8, .rwp, .srv, [0], [(0, 15)], 0x25FF01⟩
def AIN_RESULT : Obj := ⟨0x2518, 1, 1, 1, 32, .u32, .ro, .obs, [0], [], 0⟩
def WINDOW : Obj := ⟨0x2520, 8, 1, 1, 1, .u8, .rwp, .srv, [0], [(0, 3)], 0x25FF01⟩
def CUSTOM_WIN : Obj := ⟨0x2520, 8, 1, 2, 1, .u16, .rwp, .srv, [200], [(10, 1000)], 0x25FF01⟩
def SEQ_LEN : Obj := ⟨0x2520, 8, 1, 3, 1, .u8, .rwp, .srv, [1], [(1, 4)], 0x25FF01⟩
def SEQ_CH : Obj := ⟨0x2520, 8, 1, 4, 4, .u8, .rwp, .srv, [0, 1, 2, 3], [(0, 3)], 0x25FF01⟩
def MIDPOINT : Obj := ⟨0x2520, 8, 1, 8, 1, .u8, .rwp, .srv, [0], [(0, 1)], 0x25FF01⟩
def ICU_MEAN : Obj := ⟨0x2528, 8, 1, 1, 4, .u32, .ro, .obs, [0], [], 0⟩
def ICU_RMS : Obj := ⟨0x2528, 8, 1, 5, 1, .u32, .ro, .obs, [0], [], 0⟩
def ICU_PRODUCT : Obj := ⟨0x2528, 8, 1, 6, 1, .i32, .ro, .obs, [(-2147483648)], [], 0⟩
def WIN_LEN : Obj := ⟨0x2528, 8, 1, 7, 1, .u32, .ro, .obs, [0], [], 0⟩
def WIN_COUNT : Obj := ⟨0x2528, 8, 1, 8, 1, .u32, .ro, .obs, [0], [], 0⟩
def INPUT : Obj := ⟨0x2530, 16, 1, 1, 1, .u8, .rwp, .srv, [0], [(0, 1)], 0x25FF01⟩
def THRESH : Obj := ⟨0x2530, 16, 1, 2, 1, .u16, .rwp, .srv, [1023], [(0, 1023)], 0x25FF01⟩
def HYS : Obj := ⟨0x2530, 16, 1, 3, 1, .u8, .rwp, .srv, [8], [(0, 63)], 0x25FF01⟩
def SENSE : Obj := ⟨0x2530, 16, 1, 4, 1, .u8, .rwp, .srv, [0], [(0, 1)], 0x25FF01⟩
def FILTER_2530 : Obj := ⟨0x2530, 16, 1, 5, 1, .u8, .rwp, .srv, [1], [(0, 3)], 0x25FF01⟩
def ACTION : Obj := ⟨0x2530, 16, 1, 6, 1, .u8, .rwp, .srv, [0], [(0, 3)], 0x25FF01⟩
def WIN_ENABLE : Obj := ⟨0x2540, 8, 1, 1, 1, .bool, .rwp, .srv, [0], [(0, 1)], 0x25FF01⟩
def WIN_MODE : Obj := ⟨0x2540, 8, 1, 2, 1, .u8, .rwp, .srv, [0], [(0, 1)], 0x25FF01⟩
def WIN_ACTION : Obj := ⟨0x2540, 8, 1, 3, 1, .u8, .rwp, .srv, [0], [(0, 3)], 0x25FF01⟩
def CMP_LEVEL : Obj := ⟨0x2548, 1, 1, 1, 1, .u16, .ro, .obs, [65535], [], 0⟩
def CMP_BAND_INIT : Obj := ⟨0x2548, 1, 1, 2, 1, .u16, .ro, .obs, [65535], [], 0⟩
def WIN_STATE : Obj := ⟨0x2548, 1, 1, 3, 1, .u16, .ro, .obs, [65535], [], 0⟩
def WIN_BAND_INIT : Obj := ⟨0x2548, 1, 1, 4, 1, .u8, .ro, .obs, [255], [], 0⟩
def CMP_SERVICE : Obj := ⟨0x2548, 1, 1, 5, 1, .u16, .ro, .obs, [0], [], 0⟩
def SHUNT_RANGE : Obj := ⟨0x2550, 6, 1, 1, 1, .u8, .rwp, .srv, [2], [(0, 2)], 0x25FF01⟩
def SHUNT_RES : Obj := ⟨0x2550, 6, 1, 2, 1, .u32, .rwp, .srv, [100000], [(10000, 10000000)], 0x25FF01⟩
def VDC_RATIO : Obj := ⟨0x2550, 6, 1, 3, 1, .u32, .rwp, .srv, [500000], [(1000, 2000000)], 0x25FF01⟩
def DCW_HIGH : Obj := ⟨0x2550, 6, 1, 4, 1, .u16, .rwp, .srv, [9000], [(0, 15000)], 0x25FF01⟩
def DCW_LOW : Obj := ⟨0x2550, 6, 1, 5, 1, .u16, .rwp, .srv, [0], [(0, 15000)], 0x25FF01⟩
def VDC_MEAS : Obj := ⟨0x2550, 6, 1, 6, 1, .u16, .ro, .obs, [0], [], 0⟩
def SHUNT_MEAS : Obj := ⟨0x2550, 6, 1, 7, 1, .i32, .ro, .obs, [0], [], 0⟩
def OVR_COUNT : Obj := ⟨0x2558, 1, 1, 1, 1, .u32, .ro, .obs, [0], [], 0⟩
def SUSPECT_COUNT : Obj := ⟨0x2558, 1, 1, 2, 1, .u32, .ro, .obs, [0], [], 0⟩
def CAL_STARVED_COUNT : Obj := ⟨0x2558, 1, 1, 3, 1, .u32, .ro, .obs, [0], [], 0⟩
def SHUNT_WINDOW_COUNT : Obj := ⟨0x2558, 1, 1, 4, 1, .u32, .ro, .obs, [0], [], 0⟩
def TRIG_OVERRUN : Obj := ⟨0x2558, 1, 1, 5, 1, .u32, .ro, .obs, [0], [], 0⟩
def COMMIT_25FF : Obj := ⟨0x25FF, 1, 1, 1, 1, .u8, .wo, .srv, [], [(1, 1)], 0⟩

/-! Chapter 06. -/
def SENSOR_SRC : Obj := ⟨0x2400, 2, 1, 1, 1, .u8, .rwp, .srv, [0], [(0, 6)], 0x24FF01⟩
def POS_MODE : Obj := ⟨0x2400, 2, 1, 2, 1, .u8, .rwp, .srv, [1], [(0, 1)], 0x24FF01⟩
def POLE_PAIRS : Obj := ⟨0x2400, 2, 1, 3, 1, .u8, .rwp, .srv, [4], [(1, 32)], 0x24FF01⟩
def ANGLE_OFFSET : Obj := ⟨0x2400, 2, 1, 4, 1, .u16, .rwp, .srv, [0], [], 0x24FF01⟩
def DIR_INVERT : Obj := ⟨0x2400, 2, 1, 5, 1, .bool, .rwp, .srv, [0], [(0, 1)], 0x24FF01⟩
def BASE_SPEED : Obj := ⟨0x2400, 2, 1, 6, 1, .u16, .rwp, .srv, [4000], [(100, 30000)], 0x24FF01⟩
def PLAUS_TOL : Obj := ⟨0x2400, 2, 1, 7, 1, .u16, .rwp, .srv, [100], [(20, 900)], 0x24FF01⟩
def ALIGN_CMD : Obj := ⟨0x2400, 2, 1, 8, 1, .u8, .wo, .srv, [], [(1, 1)], 0⟩
def THETA_E : Obj := ⟨0x2402, 2, 1, 1, 1, .u16, .ro, .obs, [0], [], 0⟩
def THETA_M : Obj := ⟨0x2402, 2, 1, 2, 1, .u16, .ro, .obs, [0], [], 0⟩
def SPEED : Obj := ⟨0x2402, 2, 1, 3, 1, .i32, .ro, .obs, [0], [], 0⟩
def FREQ_E : Obj := ⟨0x2402, 2, 1, 4, 1, .i32, .ro, .obs, [0], [], 0⟩
def POS_STATUS : Obj := ⟨0x2402, 2, 1, 5, 1, .u16, .ro, .obs, [4], [], 0⟩
def THETA_DIVERSE : Obj := ⟨0x2402, 2, 1, 6, 1, .u16, .ro, .obs, [0], [], 0⟩
def SPEED_DIVERSE : Obj := ⟨0x2402, 2, 1, 7, 1, .i32, .ro, .obs, [0], [], 0⟩
def SPEED_FILT : Obj := ⟨0x2402, 2, 1, 8, 1, .i32, .ro, .obs, [0], [], 0⟩
def POS_MULTI : Obj := ⟨0x2402, 2, 1, 9, 1, .i32, .ro, .obs, [0], [], 0⟩
def SPD_FILT : Obj := ⟨0x2404, 1, 1, 1, 1, .u16, .rwp, .opr, [10], [(1, 1000)], 0x24FF01⟩
def SPD_WIN : Obj := ⟨0x2404, 1, 1, 2, 1, .u16, .rwp, .srv, [10], [(1, 100)], 0x24FF01⟩
def ENC_LINES : Obj := ⟨0x2408, 1, 1, 1, 1, .u32, .rwp, .srv, [1024], [(16, 65536)], 0x24FF01⟩
def ENC_FILTER : Obj := ⟨0x2408, 1, 1, 2, 1, .u8, .rwp, .srv, [2], [(0, 7)], 0x24FF01⟩
def ENC_SWAP : Obj := ⟨0x2408, 1, 1, 3, 1, .bool, .rwp, .srv, [0], [(0, 1)], 0x24FF01⟩
def INDEX_MODE : Obj := ⟨0x2408, 1, 1, 4, 1, .u8, .rwp, .srv, [0], [(0, 1)], 0x24FF01⟩
def INDEX_POS : Obj := ⟨0x2408, 1, 1, 5, 1, .u32, .rwp, .srv, [0], [], 0x24FF01⟩
def ENC_RAW : Obj := ⟨0x2408, 1, 1, 6, 1, .u32, .ro, .obs, [0], [], 0⟩
def ENC_COUNT : Obj := ⟨0x2408, 1, 1, 7, 1, .u32, .ro, .obs, [0], [], 0⟩
def ENC_MULTI : Obj := ⟨0x2408, 1, 1, 8, 1, .i32, .ro, .obs, [0], [], 0⟩
def ENC_ILLEGAL_COUNT : Obj := ⟨0x2408, 1, 1, 9, 1, .u32, .ro, .obs, [0], [], 0⟩
def INDEX_CORR : Obj := ⟨0x2408, 1, 1, 10, 1, .i32, .ro, .obs, [0], [], 0⟩
def HALL_DEBOUNCE : Obj := ⟨0x2409, 1, 1, 1, 1, .u16, .rwp, .srv, [100], [(2, 1000)], 0x24FF01⟩
def HALL_OFFSET : Obj := ⟨0x2409, 1, 1, 2, 1, .u16, .rwp, .srv, [0], [(0, 3599)], 0x24FF01⟩
def HALL_STATE : Obj := ⟨0x2409, 1, 1, 3, 1, .u8, .ro, .obs, [0], [], 0⟩
def HALL_NOISE_COUNT : Obj := ⟨0x2409, 1, 1, 4, 1, .u32, .ro, .obs, [0], [], 0⟩
def HALL_ILLEGAL_COUNT : Obj := ⟨0x2409, 1, 1, 5, 1, .u32, .ro, .obs, [0], [], 0⟩
def EXC_FREQ : Obj := ⟨0x240A, 1, 1, 1, 1, .u16, .rwp, .srv, [100], [(40, 200)], 0x24FF01⟩
def EXC_AMP : Obj := ⟨0x240A, 1, 1, 2, 1, .u8, .rwp, .srv, [50], [(20, 70)], 0x24FF01⟩
def RES_POLE_PAIRS : Obj := ⟨0x240A, 1, 1, 3, 1, .u8, .rwp, .srv, [1], [(1, 8)], 0x24FF01⟩
def RES_BW : Obj := ⟨0x240A, 1, 1, 4, 1, .u16, .rwp, .srv, [2000], [(200, 4000)], 0x24FF01⟩
def RES_AMP_NOM : Obj := ⟨0x240A, 1, 1, 5, 1, .u16, .rwp, .srv, [1000], [(200, 2500)], 0x24FF01⟩
def RES_PHASE : Obj := ⟨0x240A, 1, 1, 6, 1, .i16, .ro, .obs, [0], [], 0⟩
def RES_AMP_MEAS : Obj := ⟨0x240A, 1, 1, 7, 1, .u16, .ro, .obs, [0], [], 0⟩
def RES_TRACK_ERR : Obj := ⟨0x240A, 1, 1, 8, 1, .i16, .ro, .obs, [0], [], 0⟩
def SENT_TICK : Obj := ⟨0x240B, 2, 1, 1, 1, .u16, .rwp, .srv, [30], [(30, 900)], 0x24FF01⟩
def SENT_NIBBLES : Obj := ⟨0x240B, 2, 1, 2, 1, .u8, .rwp, .srv, [6], [(3, 6)], 0x24FF01⟩
def SENT_CRC : Obj := ⟨0x240B, 2, 1, 3, 1, .u8, .rwp, .srv, [1], [(0, 1)], 0x24FF01⟩
def SENT_PAUSE : Obj := ⟨0x240B, 2, 1, 4, 1, .bool, .rwp, .srv, [0], [(0, 1)], 0x24FF01⟩
def SENT_POS_FIELD : Obj := ⟨0x240B, 2, 1, 5, 1, .u16, .rwp, .srv, [12], [], 0x24FF01⟩
def SENT_LATENCY : Obj := ⟨0x240B, 2, 1, 6, 1, .u16, .rwp, .srv, [0], [(0, 5000)], 0x24FF01⟩
def SENT_TMO : Obj := ⟨0x240B, 2, 1, 7, 1, .u16, .rwp, .srv, [5], [(1, 100)], 0x24FF01⟩
def SENT_DATA : Obj := ⟨0x240B, 2, 1, 8, 1, .u32, .ro, .obs, [0], [], 0⟩
def SENT_STATUS : Obj := ⟨0x240B, 2, 1, 9, 1, .u8, .ro, .obs, [0], [], 0⟩
def SENT_ERR_COUNT : Obj := ⟨0x240B, 2, 1, 10, 1, .u32, .ro, .obs, [0], [], 0⟩
def SENT_SLOW : Obj := ⟨0x240B, 2, 1, 11, 1, .u32, .ro, .obs, [0], [], 0⟩
def SSI_CLK : Obj := ⟨0x240D, 1, 1, 1, 1, .u16, .rwp, .srv, [1000], [(100, 4000)], 0x24FF01⟩
def SSI_BITS : Obj := ⟨0x240D, 1, 1, 2, 1, .u8, .rwp, .srv, [25], [(8, 32)], 0x24FF01⟩
def SSI_CODE : Obj := ⟨0x240D, 1, 1, 3, 1, .u8, .rwp, .srv, [1], [(0, 1)], 0x24FF01⟩
def SSI_POS_FIELD : Obj := ⟨0x240D, 1, 1, 4, 1, .u16, .rwp, .srv, [3085], [], 0x24FF01⟩
def SSI_ERR_BIT : Obj := ⟨0x240D, 1, 1, 5, 1, .u8, .rwp, .srv, [255], [(0, 31), (255, 255)], 0x24FF01⟩
def SSI_MONOFLOP : Obj := ⟨0x240D, 1, 1, 6, 1, .u16, .rwp, .srv, [20], [(5, 100)], 0x24FF01⟩
def SSI_DOUBLE : Obj := ⟨0x240D, 1, 1, 7, 1, .bool, .rwp, .srv, [0], [(0, 1)], 0x24FF01⟩
def SSI_DELAY : Obj := ⟨0x240D, 1, 1, 8, 1, .u16, .rwp, .srv, [0], [(0, 2000)], 0x24FF01⟩
def SSI_WORD : Obj := ⟨0x240D, 1, 1, 9, 1, .u32, .ro, .obs, [0], [], 0⟩
def SSI_ERR_COUNT : Obj := ⟨0x240D, 1, 1, 10, 1, .u32, .ro, .obs, [0], [], 0⟩
def ENCO_ENABLE : Obj := ⟨0x2410, 1, 1, 1, 1, .bool, .rwp, .srv, [0], [(0, 1)], 0x24FF01⟩
def ENCO_CH : Obj := ⟨0x2410, 1, 1, 2, 1, .u8, .rwp, .srv, [0], [(0, 1)], 0x24FF01⟩
def ENCO_N : Obj := ⟨0x2410, 1, 1, 3, 1, .u16, .rwp, .srv, [1], [(1, 65535)], 0x24FF01⟩
def ENCO_M : Obj := ⟨0x2410, 1, 1, 4, 1, .u16, .rwp, .srv, [1], [(1, 65535)], 0x24FF01⟩
def ENCO_Z_SRC : Obj := ⟨0x2410, 1, 1, 5, 1, .u8, .rwp, .srv, [0], [(0, 4)], 0x24FF01⟩
def ENCO_OVERRUN : Obj := ⟨0x2410, 1, 1, 6, 1, .u32, .ro, .obs, [0], [], 0⟩
def PCMP_VALUE : Obj := ⟨0x2411, 4, 1, 1, 1, .i32, .rw, .opr, [0], [], 0⟩
def PCMP_MODE : Obj := ⟨0x2411, 4, 1, 2, 1, .u8, .rw, .opr, [0], [(0, 63)], 0⟩
def PCMP_STATUS : Obj := ⟨0x2411, 4, 1, 3, 1, .u8, .ro, .obs, [0], [], 0⟩
def PCMP_FIRES : Obj := ⟨0x2411, 4, 1, 4, 1, .u32, .ro, .obs, [0], [], 0⟩
def SS_PULSE_V : Obj := ⟨0x2418, 1, 1, 1, 1, .u16, .rwp, .srv, [60], [(5, 400)], 0x24FF01⟩
def SS_PULSE_PER : Obj := ⟨0x2418, 1, 1, 2, 1, .u8, .rwp, .srv, [2], [(1, 20)], 0x24FF01⟩
def SS_POL_V : Obj := ⟨0x2418, 1, 1, 3, 1, .u16, .rwp, .srv, [120], [(5, 600)], 0x24FF01⟩
def SS_MIN_SAL : Obj := ⟨0x2418, 1, 1, 4, 1, .u16, .rwp, .srv, [30], [(5, 500)], 0x24FF01⟩
def SS_MIN_POL : Obj := ⟨0x2418, 1, 1, 5, 1, .u16, .rwp, .srv, [20], [(5, 200)], 0x24FF01⟩
def SS_ANGLE : Obj := ⟨0x2418, 1, 1, 6, 1, .u16, .ro, .obs, [0], [], 0⟩
def SS_SALIENCY : Obj := ⟨0x2418, 1, 1, 7, 1, .u16, .ro, .obs, [0], [], 0⟩
def SS_POL_MARGIN : Obj := ⟨0x2418, 1, 1, 8, 1, .i16, .ro, .obs, [0], [], 0⟩
def SS_SPEED : Obj := ⟨0x2418, 1, 1, 9, 1, .u16, .rwp, .srv, [10], [(2, 100)], 0x24FF01⟩
def INJ_FREQ : Obj := ⟨0x2419, 1, 1, 1, 1, .u16, .rwp, .srv, [10000], [(5000, 20000)], 0x24FF01⟩
def INJ_AMP : Obj := ⟨0x2419, 1, 1, 2, 1, .u16, .rwp, .srv, [30], [(1, 200)], 0x24FF01⟩
def INJ_BW : Obj := ⟨0x2419, 1, 1, 3, 1, .u16, .rwp, .srv, [100], [(10, 500)], 0x24FF01⟩
def SWITCH_SPEED : Obj := ⟨0x2419, 1, 1, 4, 1, .u16, .rwp, .srv, [60], [(10, 300)], 0x24FF01⟩
def BLEND_BAND : Obj := ⟨0x2419, 1, 1, 5, 1, .u16, .rwp, .srv, [20], [(5, 100)], 0x24FF01⟩
def INJ_DIVERSE : Obj := ⟨0x2419, 1, 1, 6, 1, .bool, .rwp, .srv, [1], [(0, 1)], 0x24FF01⟩
def OBS_BW : Obj := ⟨0x241A, 1, 1, 1, 1, .u16, .rwp, .srv, [200], [(20, 2000)], 0x24FF01⟩
def OBS_RES_LIM : Obj := ⟨0x241A, 1, 1, 2, 1, .u16, .rwp, .srv, [250], [(50, 1000)], 0x24FF01⟩
def OBS_PLL_LIM : Obj := ⟨0x241A, 1, 1, 3, 1, .u16, .rwp, .srv, [300], [(50, 900)], 0x24FF01⟩
def OBS_RESIDUAL : Obj := ⟨0x241A, 1, 1, 4, 1, .u16, .ro, .obs, [0], [], 0⟩
def CATCH_PULSE_T : Obj := ⟨0x241B, 1, 1, 1, 1, .u16, .rwp, .srv, [10], [(2, 100)], 0x24FF01⟩
def CATCH_COUNT : Obj := ⟨0x241B, 1, 1, 2, 1, .u8, .ro, .obs, [0], [], 0⟩
def CATCH_RESULT : Obj := ⟨0x241B, 1, 1, 3, 1, .u8, .ro, .obs, [0], [], 0⟩
def COMMIT_24FF : Obj := ⟨0x24FF, 1, 1, 1, 1, .u8, .wo, .srv, [], [(1, 1)], 0⟩

/-! Chapter 07. -/
def CMD_TIMEOUT : Obj := ⟨0x2100, 1, 1, 1, 1, .u16, .rwp, .srv, [100], [(0, 0), (10, 5000)], 0x21FF01⟩
def TIMEOUT_RAMP : Obj := ⟨0x2100, 1, 1, 2, 1, .u16, .rwp, .srv, [200], [(10, 5000)], 0x21FF01⟩
def CMD_STATUS : Obj := ⟨0x2100, 1, 1, 3, 1, .u8, .ro, .obs, [0], [], 0⟩
def CMD_MODE : Obj := ⟨0x2101, 2, 1, 1, 1, .u8, .rw, .opr, [0], [(0, 1)], 0⟩
def TORQUE_CMD : Obj := ⟨0x2101, 2, 1, 2, 1, .f32, .rw, .opr, [0], [], 0⟩
def SPEED_CMD : Obj := ⟨0x2101, 2, 1, 3, 1, .f32, .rw, .opr, [0], [], 0⟩
def ASC_BRAKE_CMD : Obj := ⟨0x2101, 2, 1, 4, 1, .bool, .rw, .opr, [0], [(0, 1)], 0⟩
def TQ_LIM_POS : Obj := ⟨0x2103, 2, 1, 1, 1, .f32, .rw, .opr, [0], [(0, 2 ^ 200)], 0⟩
def TQ_LIM_NEG : Obj := ⟨0x2103, 2, 1, 2, 1, .f32, .rw, .opr, [0], [(-2 ^ 200, 0)], 0⟩
def SPEED_LIM_POS : Obj := ⟨0x2103, 2, 1, 3, 1, .f32, .rw, .opr, [0], [(0, 2 ^ 200)], 0⟩
def SPEED_LIM_NEG : Obj := ⟨0x2103, 2, 1, 4, 1, .f32, .rw, .opr, [0], [(0, 2 ^ 200)], 0⟩
def SPEED_LIM_BAND : Obj := ⟨0x2103, 2, 1, 5, 1, .f32, .rwp, .srv, [1128792064], [(10, 5000)], 0x21FF01⟩
def I_MAX : Obj := ⟨0x2103, 2, 1, 6, 1, .f32, .rwp, .srv, [0], [(0, 5000)], 0x21FF01⟩
def BAT_SHARE : Obj := ⟨0x2103, 2, 1, 7, 1, .u8, .rwp, .srv, [50], [(0, 100)], 0x21FF01⟩
def P_DIS_MAX : Obj := ⟨0x2105, 1, 1, 1, 1, .f32, .rw, .opr, [0], [], 0⟩
def P_CHG_MAX : Obj := ⟨0x2105, 1, 1, 2, 1, .f32, .rw, .opr, [0], [], 0⟩
def I_DIS_MAX : Obj := ⟨0x2105, 1, 1, 3, 1, .f32, .rw, .opr, [0], [], 0⟩
def I_CHG_MAX : Obj := ⟨0x2105, 1, 1, 4, 1, .f32, .rw, .opr, [0], [], 0⟩
def VDC_MAX : Obj := ⟨0x2105, 1, 1, 5, 1, .f32, .rwp, .srv, [1146716160], [], 0x21FF01⟩
def VDC_MIN : Obj := ⟨0x2105, 1, 1, 6, 1, .f32, .rwp, .srv, [1138819072], [], 0x21FF01⟩
def VDC_BAND : Obj := ⟨0x2105, 1, 1, 7, 1, .f32, .rwp, .srv, [1101004800], [(1, 200)], 0x21FF01⟩
def ETA_DEFAULT : Obj := ⟨0x2105, 1, 1, 8, 1, .u16, .rwp, .srv, [900], [(500, 1000)], 0x21FF01⟩
def TJ_DERATE : Obj := ⟨0x2106, 1, 1, 1, 1, .i16, .rwp, .srv, [1500], [(1000, 2000)], 0x21FF01⟩
def TEMP_SRC : Obj := ⟨0x2106, 1, 1, 2, 1, .u8, .rwp, .srv, [0], [(0, 0), (16, 27), (32, 43)], 0x21FF01⟩
def MACHINE_TEMP : Obj := ⟨0x2106, 1, 1, 3, 1, .i16, .rw, .opr, [(-32768)], [], 0⟩
def K_TEMP : Obj := ⟨0x2106, 1, 1, 4, 1, .u16, .ro, .obs, [1000], [], 0⟩
def K_TJ : Obj := ⟨0x2106, 1, 1, 5, 1, .u16, .ro, .obs, [1000], [], 0⟩
def K_DIE : Obj := ⟨0x2106, 1, 1, 6, 1, .u16, .ro, .obs, [1000], [], 0⟩
def K_DEG : Obj := ⟨0x2106, 1, 1, 7, 1, .u16, .ro, .obs, [1000], [], 0⟩
def TQ_RATE : Obj := ⟨0x2107, 2, 1, 1, 1, .u32, .rwp, .srv, [100000], [(10, 10000000)], 0x21FF01⟩
def TQ_JERK : Obj := ⟨0x2107, 2, 1, 2, 1, .u32, .rwp, .srv, [20000000], [(1000, 4000000000)], 0x21FF01⟩
def SPD_ACC : Obj := ⟨0x2107, 2, 1, 3, 1, .u32, .rwp, .srv, [5000], [(1, 1000000)], 0x21FF01⟩
def SPD_JERK : Obj := ⟨0x2107, 2, 1, 4, 1, .u32, .rwp, .srv, [50000], [(10, 100000000)], 0x21FF01⟩
def SPD_KP : Obj := ⟨0x2107, 2, 1, 5, 1, .f32, .rwp, .srv, [1028443341], [], 0x21FF01⟩
def SPD_KI : Obj := ⟨0x2107, 2, 1, 6, 1, .f32, .rwp, .srv, [1065353216], [], 0x21FF01⟩
def TORQUE_TARGET : Obj := ⟨0x2109, 2, 1, 1, 1, .f32, .ro, .obs, [0], [], 0⟩
def TORQUE_REF : Obj := ⟨0x2109, 2, 1, 2, 1, .f32, .ro, .obs, [0], [], 0⟩
def TORQUE_EST : Obj := ⟨0x2109, 2, 1, 3, 1, .f32, .ro, .obs, [0], [], 0⟩
def T_AVAIL_POS : Obj := ⟨0x2109, 2, 1, 4, 1, .f32, .ro, .obs, [0], [], 0⟩
def T_AVAIL_NEG : Obj := ⟨0x2109, 2, 1, 5, 1, .f32, .ro, .obs, [0], [], 0⟩
def LIMIT_CAUSE : Obj := ⟨0x2109, 2, 1, 6, 1, .u16, .ro, .obs, [0], [], 0⟩
def P_DC_EST : Obj := ⟨0x2109, 2, 1, 7, 1, .f32, .ro, .obs, [0], [], 0⟩
def ASC_PATTERN : Obj := ⟨0x210B, 1, 1, 1, 1, .u8, .rwp, .srv, [0], [(0, 2)], 0x21FF01⟩
def ASC_ALT_T : Obj := ⟨0x210B, 1, 1, 2, 1, .u16, .rwp, .srv, [10], [(1, 1000)], 0x21FF01⟩
def ASC_BRAKE_MIN : Obj := ⟨0x210B, 1, 1, 3, 1, .f32, .rwp, .srv, [1140457472], [], 0x21FF01⟩
def ASC_ENTRY_T : Obj := ⟨0x210B, 1, 1, 4, 1, .u16, .rwp, .srv, [5], [(1, 100)], 0x21FF01⟩
def COMMIT_21FF : Obj := ⟨0x21FF, 1, 1, 1, 1, .u8, .wo, .srv, [], [(1, 1)], 0⟩
def CARRIER_FREQ : Obj := ⟨0x2200, 1, 1, 1, 1, .u32, .rwp, .srv, [10000], [(2000, 100000)], 0x22FF01⟩
def UPDATE_MODE : Obj := ⟨0x2200, 1, 1, 2, 1, .u8, .rwp, .srv, [0], [(0, 1)], 0x22FF01⟩
def CARRIER_PERIOD : Obj := ⟨0x2200, 1, 1, 3, 1, .u32, .ro, .obs, [], [], 0⟩
def CTRL_RATE : Obj := ⟨0x2200, 1, 1, 4, 1, .u32, .ro, .obs, [], [], 0⟩
def B1_PHASE : Obj := ⟨0x2200, 1, 1, 5, 1, .u16, .rwp, .srv, [0], [(0, 3599)], 0x22FF01⟩
def ARRANGEMENT : Obj := ⟨0x2200, 1, 1, 6, 1, .u8, .rwp, .srv, [0], [(0, 2)], 0x22FF01⟩
def WINDING_SHIFT : Obj := ⟨0x2200, 1, 1, 7, 1, .u16, .rwp, .srv, [300], [(0, 3599)], 0x22FF01⟩
def MIN_PULSE : Obj := ⟨0x2200, 1, 1, 8, 1, .u16, .rwp, .srv, [100], [(0, 2000)], 0x22FF01⟩
def PT_INSTANT_0 : Obj := ⟨0x2201, 1, 1, 1, 1, .u32, .ro, .obs, [0], [], 0⟩
def PT_INSTANT : Obj := ⟨0x2201, 1, 1, 2, 15, .u32, .rwp, .srv, [4294967295], [], 0x22FF01⟩
def CC_BW : Obj := ⟨0x2202, 2, 1, 1, 1, .u16, .rwp, .srv, [1000], [(50, 10000)], 0x22FF01⟩
def R_S : Obj := ⟨0x2202, 2, 1, 2, 1, .f32, .rwp, .srv, [1008981770], [], 0x22FF01⟩
def DECOUPLE_EN : Obj := ⟨0x2202, 2, 1, 3, 1, .bool, .rwp, .srv, [1], [(0, 1)], 0x22FF01⟩
def DELAY_COMP : Obj := ⟨0x2202, 2, 1, 4, 1, .bool, .rwp, .srv, [1], [(0, 1)], 0x22FF01⟩
def VEC_MODE : Obj := ⟨0x2202, 2, 1, 5, 1, .u8, .rwp, .srv, [1], [(0, 2)], 0x22FF01⟩
def VEC_GAIN : Obj := ⟨0x2202, 2, 1, 6, 1, .u16, .rwp, .srv, [1000], [(0, 1000)], 0x22FF01⟩
def VEC_I_THR : Obj := ⟨0x2202, 2, 1, 7, 1, .f32, .rwp, .srv, [1084227584], [], 0x22FF01⟩
def VEC_T_FIXED : Obj := ⟨0x2202, 2, 1, 8, 1, .u16, .rwp, .srv, [100], [(0, 5000)], 0x22FF01⟩
def MOD_MODE : Obj := ⟨0x2204, 1, 1, 1, 1, .u8, .rwp, .srv, [1], [(0, 2)], 0x22FF01⟩
def DPWM_ON : Obj := ⟨0x2204, 1, 1, 2, 1, .u16, .rwp, .srv, [600], [(100, 906)], 0x22FF01⟩
def DPWM_HYS : Obj := ⟨0x2204, 1, 1, 3, 1, .u16, .rwp, .srv, [50], [(10, 200)], 0x22FF01⟩
def M_MAX : Obj := ⟨0x2204, 1, 1, 4, 1, .u16, .rwp, .srv, [907], [(500, 1000)], 0x22FF01⟩
def OVM_EN : Obj := ⟨0x2204, 1, 1, 5, 1, .bool, .rwp, .srv, [1], [(0, 1)], 0x22FF01⟩
def SIX_STEP_EN : Obj := ⟨0x2204, 1, 1, 6, 1, .bool, .rwp, .srv, [0], [(0, 1)], 0x22FF01⟩
def VLIM_MARGIN : Obj := ⟨0x2204, 1, 1, 7, 1, .u16, .rwp, .srv, [20], [(0, 100)], 0x22FF01⟩
def VLIM_BW : Obj := ⟨0x2204, 1, 1, 8, 1, .u16, .rwp, .srv, [50], [(5, 500)], 0x22FF01⟩
def I_D : Obj := ⟨0x2205, 2, 1, 1, 1, .f32, .ro, .obs, [0], [], 0⟩
def I_Q : Obj := ⟨0x2205, 2, 1, 2, 1, .f32, .ro, .obs, [0], [], 0⟩
def V_D : Obj := ⟨0x2205, 2, 1, 3, 1, .f32, .ro, .obs, [0], [], 0⟩
def V_Q : Obj := ⟨0x2205, 2, 1, 4, 1, .f32, .ro, .obs, [0], [], 0⟩
def M_DEM : Obj := ⟨0x2205, 2, 1, 5, 1, .u16, .ro, .obs, [0], [], 0⟩
def MOD_STATE : Obj := ⟨0x2205, 2, 1, 6, 1, .u8, .ro, .obs, [5], [], 0⟩
def VDC_USED : Obj := ⟨0x2205, 2, 1, 7, 1, .f32, .ro, .obs, [0], [], 0⟩
def FLE_STATE : Obj := ⟨0x2205, 2, 1, 8, 1, .u8, .ro, .obs, [3], [], 0⟩
def PERIOD_COUNT : Obj := ⟨0x2205, 2, 1, 9, 1, .u32, .ro, .obs, [0], [], 0⟩
def LATE_COUNT : Obj := ⟨0x2205, 2, 1, 10, 1, .u32, .ro, .obs, [0], [], 0⟩
def OVERRUN_COUNT : Obj := ⟨0x2205, 2, 1, 11, 1, .u32, .ro, .obs, [0], [], 0⟩
def COMMIT_22FF : Obj := ⟨0x22FF, 1, 1, 1, 1, .u8, .wo, .srv, [], [(1, 1)], 0⟩
def ACTIVE_BANK : Obj := ⟨0x2300, 1, 1, 1, 1, .u8, .ro, .obs, [255], [], 0⟩
def BANK_STATE : Obj := ⟨0x2300, 1, 1, 2, 2, .u8, .ro, .obs, [0], [], 0⟩
def ACTIVATE : Obj := ⟨0x2300, 1, 1, 4, 1, .u8, .wo, .srv, [], [(1, 1)], 0⟩
def MIN_SET_VERSION : Obj := ⟨0x2300, 1, 1, 5, 1, .u32, .rwp, .srv, [0], [], 0⟩
def SET_ID : Obj := ⟨0x2300, 1, 1, 6, 2, .u32, .ro, .obs, [0], [], 0⟩
def SET_VERSION : Obj := ⟨0x2300, 1, 1, 8, 2, .u32, .ro, .obs, [0], [], 0⟩
def VERIFY_RESULT : Obj := ⟨0x2300, 1, 1, 10, 2, .u8, .ro, .obs, [0], [], 0⟩
def SET_DATA : Obj := ⟨0x2301, 1, 1, 1, 1, (.domain 67108864), .wo, .srv, [], [], 0⟩
def SET_HEADER : Obj := ⟨0x2301, 1, 1, 2, 1, (.domain 67108864), .ro, .obs, [], [], 0⟩
def SET_DESC : Obj := ⟨0x2301, 1, 1, 3, 1, (.domain 67108864), .ro, .obs, [], [], 0⟩
def SOLVER_RATE : Obj := ⟨0x2302, 1, 1, 1, 1, .u16, .rwp, .srv, [10000], [(1000, 10000)], 0x23FF01⟩
def SOLVER_RATE_ACT : Obj := ⟨0x2302, 1, 1, 2, 1, .u16, .ro, .obs, [], [], 0⟩
def REF_RAMP : Obj := ⟨0x2302, 1, 1, 3, 1, .bool, .rwp, .srv, [1], [(0, 1)], 0x23FF01⟩
def MAP_STATUS : Obj := ⟨0x2302, 1, 1, 4, 1, .u16, .ro, .obs, [0], [], 0⟩
def EXTRAP_AXES : Obj := ⟨0x2302, 1, 1, 5, 1, .u8, .ro, .obs, [0], [], 0⟩
def EXTRAP_COUNT : Obj := ⟨0x2302, 1, 1, 6, 1, .u32, .ro, .obs, [0], [], 0⟩
def CORR_ENABLE : Obj := ⟨0x2303, 1, 1, 1, 1, .bool, .rwp, .srv, [0], [(0, 1)], 0x23FF01⟩
def CORR_GAIN : Obj := ⟨0x2303, 1, 1, 2, 1, .u16, .rwp, .srv, [50], [(1, 1000)], 0x23FF01⟩
def CORR_LSB : Obj := ⟨0x2303, 1, 1, 3, 1, .u16, .rwp, .srv, [100], [(10, 1000)], 0x23FF01⟩
def CORR_CMD : Obj := ⟨0x2303, 1, 1, 4, 1, .u8, .wo, .srv, [], [(1, 3)], 0⟩
def CORR_STATE : Obj := ⟨0x2303, 1, 1, 5, 1, .u8, .ro, .obs, [0], [], 0⟩
def CORR_AVAIL : Obj := ⟨0x2303, 1, 1, 6, 1, .u8, .ro, .obs, [0], [], 0⟩
def CORR_DATA : Obj := ⟨0x2303, 1, 1, 7, 1, (.domain 67108864), .ro, .srv, [], [], 0⟩
def CORR_SAVED_ID : Obj := ⟨0x2303, 1, 1, 8, 1, .u32, .ro, .obs, [0], [], 0⟩
def CORR_LIMITED : Obj := ⟨0x2303, 1, 1, 9, 1, .u32, .ro, .obs, [0], [], 0⟩
def COMMIT_23FF : Obj := ⟨0x23FF, 1, 1, 1, 1, .u8, .wo, .srv, [], [(1, 1)], 0⟩
def TRACE_MODE : Obj := ⟨0x2E00, 1, 1, 1, 1, .u8, .rw, .opr, [0], [(0, 3)], 0x2EFF01⟩
def TRACE_CMD : Obj := ⟨0x2E00, 1, 1, 2, 1, .u8, .wo, .opr, [], [(1, 3)], 0⟩
def TRACE_STATE : Obj := ⟨0x2E00, 1, 1, 3, 1, .u8, .ro, .obs, [0], [], 0⟩
def TRIG_SRC : Obj := ⟨0x2E00, 1, 1, 4, 1, .u8, .rw, .opr, [0], [(0, 6)], 0x2EFF01⟩
def TRIG_SLOT : Obj := ⟨0x2E00, 1, 1, 5, 1, .u8, .rw, .opr, [1], [(1, 64)], 0x2EFF01⟩
def TRIG_LEVEL : Obj := ⟨0x2E00, 1, 1, 6, 1, .f32, .rw, .opr, [0], [], 0x2EFF01⟩
def TRIG_EDGE : Obj := ⟨0x2E00, 1, 1, 7, 1, .u8, .rw, .opr, [0], [(0, 2)], 0x2EFF01⟩
def TRIG_CLASS : Obj := ⟨0x2E00, 1, 1, 8, 1, .u8, .rw, .opr, [3], [(1, 5)], 0x2EFF01⟩
def PRE_TRIG : Obj := ⟨0x2E00, 1, 1, 9, 1, .u8, .rw, .opr, [25], [(0, 100)], 0x2EFF01⟩
def DECIM : Obj := ⟨0x2E00, 1, 1, 10, 1, .u16, .rw, .opr, [1], [(1, 65535)], 0x2EFF01⟩
def TRACE_BRIDGE : Obj := ⟨0x2E00, 1, 1, 11, 1, .u8, .rw, .opr, [0], [(0, 1)], 0x2EFF01⟩
def RECORD_LEN : Obj := ⟨0x2E00, 1, 1, 12, 1, .u16, .ro, .obs, [8], [], 0⟩
def CAPACITY : Obj := ⟨0x2E00, 1, 1, 13, 1, .u32, .ro, .obs, [262144], [], 0⟩
def LOST_COUNT : Obj := ⟨0x2E00, 1, 1, 14, 1, .u32, .ro, .obs, [0], [], 0⟩
def PROBE_SRC : Obj := ⟨0x2E01, 1, 1, 1, 64, .u32, .rw, .opr, [0], [], 0x2EFF01⟩
def TRACE_DATA : Obj := ⟨0x2E02, 1, 1, 1, 1, (.domain 67108864), .ro, .opr, [], [], 0⟩
def COMMIT_2EFF : Obj := ⟨0x2EFF, 1, 1, 1, 1, .u8, .wo, .opr, [], [(1, 1)], 0⟩

/-! Chapter 08. -/
def GRID_MODE : Obj := ⟨0x2900, 1, 1, 1, 1, .u8, .rwp, .srv, [0], [(0, 2)], 0x29FF01⟩
def F_NOM : Obj := ⟨0x2900, 1, 1, 2, 1, .u8, .rwp, .srv, [50], [(50, 50), (60, 60)], 0x29FF01⟩
def V_NOM : Obj := ⟨0x2900, 1, 1, 3, 1, .u16, .rwp, .srv, [2300], [(1000, 3000)], 0x29FF01⟩
def GRID_V_GROUP : Obj := ⟨0x2900, 1, 1, 4, 1, .u8, .rwp, .srv, [2], [(1, 7)], 0x29FF01⟩
def GRID_V_GAIN : Obj := ⟨0x2900, 1, 1, 5, 1, .f32, .rwp, .srv, [1137180672], [], 0x29FF01⟩
def GRID_I_GAIN : Obj := ⟨0x2900, 1, 1, 6, 1, .f32, .rwp, .srv, [1137180672], [], 0x29FF01⟩
def V_MIN : Obj := ⟨0x2900, 1, 1, 7, 1, .u16, .rwp, .srv, [1840], [], 0x29FF01⟩
def V_MAX : Obj := ⟨0x2900, 1, 1, 8, 1, .u16, .rwp, .srv, [2640], [], 0x29FF01⟩
def F_MIN : Obj := ⟨0x2900, 1, 1, 9, 1, .u16, .rwp, .srv, [4500], [(4500, 6500)], 0x29FF01⟩
def F_MAX : Obj := ⟨0x2900, 1, 1, 10, 1, .u16, .rwp, .srv, [6500], [(4500, 6500)], 0x29FF01⟩
def LOSS_LEVEL : Obj := ⟨0x2900, 1, 1, 11, 1, .u16, .rwp, .srv, [500], [(200, 900)], 0x29FF01⟩
def GRID_OK_TIME : Obj := ⟨0x2900, 1, 1, 12, 1, .u16, .rwp, .srv, [1000], [(100, 60000)], 0x29FF01⟩
def SP_PARALLEL : Obj := ⟨0x2900, 1, 1, 15, 1, .bool, .rwp, .srv, [0], [(0, 1)], 0x29FF01⟩
def L_GRID : Obj := ⟨0x2900, 1, 1, 16, 1, .u32, .rwp, .srv, [500], [(10, 100000)], 0x29FF01⟩
def PLL_BW : Obj := ⟨0x2902, 1, 1, 1, 1, .u16, .rwp, .srv, [30], [(5, 100)], 0x29FF01⟩
def PLL_STATE : Obj := ⟨0x2902, 1, 1, 2, 1, .u8, .ro, .obs, [0], [], 0⟩
def GRID_FREQ : Obj := ⟨0x2902, 1, 1, 3, 1, .u32, .ro, .obs, [0], [], 0⟩
def GRID_VD : Obj := ⟨0x2902, 1, 1, 4, 1, .f32, .ro, .obs, [0], [], 0⟩
def NEG_SEQ : Obj := ⟨0x2902, 1, 1, 5, 1, .u16, .ro, .obs, [0], [], 0⟩
def VDC_REF : Obj := ⟨0x2903, 1, 1, 1, 1, .f32, .rwp, .srv, [1145569280], [(300, 950)], 0x29FF01⟩
def VDC_HEADROOM : Obj := ⟨0x2903, 1, 1, 2, 1, .u16, .rwp, .srv, [1150], [(1050, 1500)], 0x29FF01⟩
def VDC_BW : Obj := ⟨0x2903, 1, 1, 3, 1, .u16, .rwp, .srv, [20], [(2, 100)], 0x29FF01⟩
def C_DC : Obj := ⟨0x2903, 1, 1, 4, 1, .u32, .rwp, .srv, [500], [(10, 20000)], 0x29FF01⟩
def VDC_RAMP_T : Obj := ⟨0x2903, 1, 1, 5, 1, .u16, .rwp, .srv, [200], [(20, 2000)], 0x29FF01⟩
def SAG_BAND : Obj := ⟨0x2903, 1, 1, 6, 1, .f32, .rwp, .srv, [1106247680], [(5, 200)], 0x29FF01⟩
def Q_CMD : Obj := ⟨0x2903, 1, 1, 7, 1, .f32, .rw, .opr, [0], [], 0⟩
def P_AC_REF : Obj := ⟨0x2903, 1, 1, 8, 1, .f32, .ro, .obs, [0], [], 0⟩
def VDC_REF_EFF : Obj := ⟨0x2903, 1, 1, 9, 1, .f32, .ro, .obs, [0], [], 0⟩
def DAB_FREQ : Obj := ⟨0x2904, 1, 1, 1, 1, .u32, .rwp, .srv, [100000], [(2000, 500000)], 0x29FF01⟩
def L_DAB : Obj := ⟨0x2904, 1, 1, 2, 1, .u32, .rwp, .srv, [3500], [(10, 100000)], 0x29FF01⟩
def N_RATIO : Obj := ⟨0x2904, 1, 1, 3, 1, .u16, .rwp, .srv, [4000], [(100, 20000)], 0x29FF01⟩
def DAB_PHI_MAX : Obj := ⟨0x2904, 1, 1, 4, 1, .u16, .rwp, .srv, [9000], [(1000, 9000)], 0x29FF01⟩
def DAB_PHI_STEP : Obj := ⟨0x2904, 1, 1, 5, 1, .u16, .rwp, .srv, [200], [(10, 2000)], 0x29FF01⟩
def DAB_I_BW : Obj := ⟨0x2904, 1, 1, 6, 1, .u16, .rwp, .srv, [500], [(10, 5000)], 0x29FF01⟩
def ETA_DAB : Obj := ⟨0x2904, 1, 1, 7, 1, .u16, .rwp, .srv, [970], [(800, 1000)], 0x29FF01⟩
def CV_BW : Obj := ⟨0x2904, 1, 1, 8, 1, .u16, .rwp, .srv, [10], [(1, 200)], 0x29FF01⟩
def MATCH_PHI_MAX : Obj := ⟨0x2904, 1, 1, 9, 1, .u16, .rwp, .srv, [500], [(50, 2000)], 0x29FF01⟩
def CHG_LOOP_RATE : Obj := ⟨0x2904, 1, 1, 10, 1, .u16, .rwp, .srv, [5000], [(1000, 10000)], 0x29FF01⟩
def I_OUT_RATED : Obj := ⟨0x2904, 1, 1, 11, 1, .f32, .rwp, .srv, [1114636288], [], 0x29FF01⟩
def OUT_OV_MARGIN : Obj := ⟨0x2904, 1, 1, 12, 1, .f32, .rwp, .srv, [1101004800], [(5, 100)], 0x29FF01⟩
def OUT_MATCH_TOL : Obj := ⟨0x2904, 1, 1, 13, 1, .f32, .rwp, .srv, [1084227584], [(1, 50)], 0x29FF01⟩
def TJ_DERATE_CHG : Obj := ⟨0x2904, 1, 1, 14, 1, .i16, .rwp, .srv, [1500], [(1000, 2000)], 0x29FF01⟩
def I_OUT_CMD : Obj := ⟨0x2905, 1, 1, 1, 1, .f32, .rw, .opr, [0], [], 0⟩
def I_OUT_MAX : Obj := ⟨0x2905, 1, 1, 2, 1, .f32, .rw, .opr, [0], [], 0⟩
def V_OUT_MAX : Obj := ⟨0x2905, 1, 1, 3, 1, .f32, .rw, .opr, [0], [], 0⟩
def P_OUT_MAX : Obj := ⟨0x2905, 1, 1, 4, 1, .f32, .rw, .opr, [0], [], 0⟩
def I_GRID_MAX : Obj := ⟨0x2905, 1, 1, 5, 1, .f32, .rw, .opr, [0], [], 0⟩
def P_GRID_MAX : Obj := ⟨0x2905, 1, 1, 6, 1, .f32, .rw, .opr, [0], [], 0⟩
def V_BATT_HOST : Obj := ⟨0x2905, 1, 1, 7, 1, .f32, .rw, .opr, [0], [], 0⟩
def I_OUT_RAMP : Obj := ⟨0x2905, 1, 1, 8, 1, .f32, .rwp, .srv, [1120403456], [(1, 10000)], 0x29FF01⟩
def RLY_FITTED : Obj := ⟨0x2906, 1, 1, 1, 1, .u8, .rwp, .srv, [0], [], 0x29FF01⟩
def FB_SENSE : Obj := ⟨0x2906, 1, 1, 2, 1, .u8, .rwp, .srv, [0], [], 0x29FF01⟩
def RLY_CMD : Obj := ⟨0x2906, 1, 1, 3, 1, .u8, .rw, .opr, [0], [], 0⟩
def RLY_OUT : Obj := ⟨0x2906, 1, 1, 4, 1, .u8, .ro, .obs, [0], [], 0⟩
def RLY_FB : Obj := ⟨0x2906, 1, 1, 5, 1, .u8, .ro, .obs, [0], [], 0⟩
def RLY_T_CLOSE : Obj := ⟨0x2906, 1, 1, 6, 1, .u16, .rwp, .srv, [50], [(10, 500)], 0x29FF01⟩
def RLY_T_OPEN : Obj := ⟨0x2906, 1, 1, 7, 1, .u16, .rwp, .srv, [30], [(10, 500)], 0x29FF01⟩
def RLY_OVERLAP : Obj := ⟨0x2906, 1, 1, 8, 1, .u16, .rwp, .srv, [20], [(5, 500)], 0x29FF01⟩
def PRE_LEVEL : Obj := ⟨0x2906, 1, 1, 9, 1, .u16, .rwp, .srv, [900], [(500, 980)], 0x29FF01⟩
def PRE_TMAX : Obj := ⟨0x2906, 1, 1, 10, 1, .u16, .rwp, .srv, [2000], [(100, 10000)], 0x29FF01⟩
def RLY_OPS : Obj := ⟨0x2906, 1, 1, 11, 8, .u32, .ro, .obs, [0], [], 0⟩
def GRID_V_RMS : Obj := ⟨0x2908, 1, 1, 1, 3, .u16, .ro, .obs, [0], [], 0⟩
def GRID_I_RMS : Obj := ⟨0x2908, 1, 1, 4, 3, .u16, .ro, .obs, [0], [], 0⟩
def GRID_P : Obj := ⟨0x2908, 1, 1, 7, 3, .i32, .ro, .obs, [0], [], 0⟩
def P_GRID : Obj := ⟨0x2908, 1, 1, 10, 1, .i32, .ro, .obs, [0], [], 0⟩
def PF : Obj := ⟨0x2908, 1, 1, 11, 1, .i16, .ro, .obs, [0], [], 0⟩
def ENERGY_IMPORT : Obj := ⟨0x2908, 1, 1, 12, 1, .u64, .ro, .obs, [0], [], 0⟩
def ENERGY_EXPORT : Obj := ⟨0x2908, 1, 1, 13, 1, .u64, .ro, .obs, [0], [], 0⟩
def METER_FLAGS : Obj := ⟨0x2908, 1, 1, 14, 1, .u8, .ro, .obs, [0], [], 0⟩
def ENERGY_CLEAR : Obj := ⟨0x2908, 1, 1, 15, 1, .u8, .wo, .srv, [], [(1, 1)], 0⟩
def CHG_PHASE : Obj := ⟨0x2909, 1, 1, 1, 1, .u8, .ro, .obs, [0], [], 0⟩
def V_OUT : Obj := ⟨0x2909, 1, 1, 2, 1, .f32, .ro, .obs, [0], [], 0⟩
def I_OUT : Obj := ⟨0x2909, 1, 1, 3, 1, .f32, .ro, .obs, [0], [], 0⟩
def DAB_PHI : Obj := ⟨0x2909, 1, 1, 4, 1, .u16, .ro, .obs, [0], [], 0⟩
def I_OUT_REF : Obj := ⟨0x2909, 1, 1, 5, 1, .f32, .ro, .obs, [0], [], 0⟩
def CHG_LIMIT_CAUSE : Obj := ⟨0x2909, 1, 1, 6, 1, .u16, .ro, .obs, [0], [], 0⟩
def I_PRI : Obj := ⟨0x2909, 1, 1, 7, 2, .f32, .ro, .obs, [0], [], 0⟩
def GRID_STATUS : Obj := ⟨0x2909, 1, 1, 9, 1, .u8, .ro, .obs, [0], [], 0⟩
def COMMIT_29FF : Obj := ⟨0x29FF, 1, 1, 1, 1, .u8, .wo, .srv, [], [(1, 1)], 0⟩

/-! Chapter 09. -/
def AUTO_RESUME : Obj := ⟨0x2700, 1, 1, 1, 1, .bool, .rwp, .srv, [1], [(0, 1)], 0x27FF01⟩
def SAFE_STATE_ACT : Obj := ⟨0x2700, 1, 1, 2, 1, .u8, .ro, .obs, [255], [], 0⟩
def PRELOAD_CHOICE : Obj := ⟨0x2700, 1, 1, 3, 1, .u8, .ro, .obs, [0], [], 0⟩
def SAFE_CAUSE : Obj := ⟨0x2700, 1, 1, 4, 1, .u16, .ro, .obs, [0], [], 0⟩
def SS_N_ASC : Obj := ⟨0x2710, 1, 1, 1, 1, .u16, .rwp, .srv, [6000], [(100, 45000)], 0x27FF01⟩
def SS_N_FW : Obj := ⟨0x2710, 1, 1, 2, 1, .u16, .rwp, .srv, [4500], [(50, 45000)], 0x27FF01⟩
def ASC_SIDE : Obj := ⟨0x2710, 1, 1, 3, 1, .u8, .rwp, .srv, [0], [(0, 1)], 0x27FF01⟩
def N_ASC_EFF : Obj := ⟨0x2710, 1, 1, 4, 2, .u16, .ro, .obs, [0], [], 0⟩
def N_FW_EFF : Obj := ⟨0x2710, 1, 1, 6, 2, .u16, .ro, .obs, [0], [], 0⟩
def E_RATIO : Obj := ⟨0x2710, 1, 1, 8, 2, .u16, .ro, .obs, [0], [], 0⟩
def TQ_TOL_ABS : Obj := ⟨0x2718, 1, 1, 1, 1, .f32, .rwp, .srv, [1101004800], [(1, 1000)], 0x27FF01⟩
def TQ_TOL_REL : Obj := ⟨0x2718, 1, 1, 2, 1, .u16, .rwp, .srv, [100], [(0, 500)], 0x27FF01⟩
def TQ_FILT : Obj := ⟨0x2718, 1, 1, 3, 1, .u16, .rwp, .srv, [20], [(5, 200)], 0x27FF01⟩
def ENV_HOLD : Obj := ⟨0x2718, 1, 1, 4, 1, .u16, .rwp, .srv, [200], [(0, 2000)], 0x27FF01⟩
def ENV_ASC_TQ : Obj := ⟨0x2718, 1, 1, 5, 1, .f32, .rwp, .srv, [0], [(0, 5000)], 0x27FF01⟩
def N_MAX_SAFE : Obj := ⟨0x2718, 1, 1, 6, 1, .u16, .rwp, .srv, [16000], [(100, 45000)], 0x27FF01⟩
def N_FILT_H : Obj := ⟨0x2718, 1, 1, 7, 1, .u16, .rwp, .srv, [5], [(1, 100)], 0x27FF01⟩
def T_HELMET : Obj := ⟨0x271A, 2, 1, 1, 1, .f32, .ro, .obs, [0], [], 0⟩
def T_BAND_HI : Obj := ⟨0x271A, 2, 1, 2, 1, .f32, .ro, .obs, [0], [], 0⟩
def T_BAND_LO : Obj := ⟨0x271A, 2, 1, 3, 1, .f32, .ro, .obs, [0], [], 0⟩
def N_HELMET : Obj := ⟨0x271A, 2, 1, 4, 1, .i32, .ro, .obs, [0], [], 0⟩
def HLM_STATUS : Obj := ⟨0x271A, 2, 1, 5, 1, .u16, .ro, .obs, [0], [], 0⟩
def TQ_ERR_ACC : Obj := ⟨0x271A, 2, 1, 6, 1, .u16, .ro, .obs, [0], [], 0⟩
def CLAMP_ON : Obj := ⟨0x2720, 1, 1, 1, 1, .u16, .rwp, .srv, [8500], [(0, 15000)], 0x27FF01⟩
def CLAMP_OFF : Obj := ⟨0x2720, 1, 1, 2, 1, .u16, .rwp, .srv, [8300], [(0, 15000)], 0x27FF01⟩
def OV2 : Obj := ⟨0x2720, 1, 1, 3, 1, .u16, .rwp, .srv, [9500], [(0, 15000)], 0x27FF01⟩
def CLAMP_RISE_MAX : Obj := ⟨0x2720, 1, 1, 4, 1, .u16, .rwp, .srv, [200], [(10, 5000)], 0x27FF01⟩
def CLAMP_CHECK_T : Obj := ⟨0x2720, 1, 1, 5, 1, .u16, .rwp, .srv, [200], [(50, 5000)], 0x27FF01⟩
def CLAMP_STATE : Obj := ⟨0x2720, 1, 1, 6, 1, .u8, .ro, .obs, [0], [], 0⟩
def CLAMP_ON_COUNT : Obj := ⟨0x2720, 1, 1, 7, 1, .u32, .ro, .obs, [0], [], 0⟩
def DISCH_CMD : Obj := ⟨0x2730, 1, 1, 1, 1, .u8, .wo, .opr, [], [(1, 2)], 0⟩
def DISCH_PATH : Obj := ⟨0x2730, 1, 1, 2, 1, .u8, .rwp, .srv, [2], [(0, 3)], 0x27FF01⟩
def DISCH_C : Obj := ⟨0x2730, 1, 1, 3, 1, .u32, .rwp, .srv, [500], [(10, 20000)], 0x27FF01⟩
def CLAMP_R : Obj := ⟨0x2730, 1, 1, 4, 1, .u32, .rwp, .srv, [1200], [(1, 100000)], 0x27FF01⟩
def DISCH_TARGET : Obj := ⟨0x2730, 1, 1, 5, 1, .u16, .rwp, .srv, [600], [(100, 1200)], 0x27FF01⟩
def DISCH_T_MAX : Obj := ⟨0x2730, 1, 1, 6, 1, .u16, .rwp, .srv, [2000], [(100, 10000)], 0x27FF01⟩
def DISCH_I : Obj := ⟨0x2730, 1, 1, 7, 1, .f32, .rwp, .srv, [1120403456], [(1, 2000)], 0x27FF01⟩
def DISCH_N_MAX : Obj := ⟨0x2730, 1, 1, 8, 1, .u16, .rwp, .srv, [50], [(0, 1000)], 0x27FF01⟩
def DISCH_ON_EOFF : Obj := ⟨0x2730, 1, 1, 9, 1, .bool, .rwp, .srv, [1], [(0, 1)], 0x27FF01⟩
def DISCH_STATE : Obj := ⟨0x2730, 1, 1, 10, 1, .u8, .ro, .obs, [0], [], 0⟩
def DISCH_TIME : Obj := ⟨0x2730, 1, 1, 11, 1, .u16, .ro, .obs, [0], [], 0⟩
def DEG_MODES : Obj := ⟨0x2740, 1, 1, 1, 1, .u16, .ro, .obs, [0], [], 0⟩
def DEG_SENSORLESS_K : Obj := ⟨0x2740, 1, 1, 2, 1, .u16, .rwp, .srv, [700], [(100, 1000)], 0x27FF01⟩
def DEG_ILINE1_K : Obj := ⟨0x2740, 1, 1, 3, 1, .u16, .rwp, .srv, [900], [(100, 1000)], 0x27FF01⟩
def COMMIT_27FF : Obj := ⟨0x27FF, 1, 1, 1, 1, .u8, .wo, .srv, [], [(1, 1)], 0⟩
def ACTIVE_CODE : Obj := ⟨0x2F00, 1, 1, 1, 1, .u16, .ro, .obs, [0], [], 0⟩
def ACTIVE_CLASS : Obj := ⟨0x2F00, 1, 1, 2, 1, .u8, .ro, .obs, [0], [], 0⟩
def PENDING_CODE : Obj := ⟨0x2F00, 1, 1, 3, 1, .u16, .ro, .obs, [0], [], 0⟩
def PENDING_CLASS : Obj := ⟨0x2F00, 1, 1, 4, 1, .u8, .ro, .obs, [0], [], 0⟩
def ESCALATIONS : Obj := ⟨0x2F00, 1, 1, 5, 1, .u32, .ro, .obs, [0], [], 0⟩
def RESET_EDGES : Obj := ⟨0x2F00, 1, 1, 6, 1, .u32, .ro, .obs, [0], [], 0⟩
def RESET_RESULT : Obj := ⟨0x2F00, 1, 1, 7, 1, .u8, .ro, .obs, [0], [], 0⟩
def REPORTED : Obj := ⟨0x2F01, 1, 1, 1, 32, .u16, .ro, .obs, [0], [], 0⟩
def LOG_FIRST : Obj := ⟨0x2F10, 1, 1, 1, 1, .u32, .ro, .obs, [0], [], 0⟩
def LOG_LAST : Obj := ⟨0x2F10, 1, 1, 2, 1, .u32, .ro, .obs, [0], [], 0⟩
def LOG_READ_SEQ : Obj := ⟨0x2F10, 1, 1, 3, 1, .u32, .rw, .opr, [0], [], 0⟩
def LOG_READ_COUNT : Obj := ⟨0x2F10, 1, 1, 4, 1, .u16, .rw, .opr, [256], [(1, 8192)], 0⟩
def LOG_DATA : Obj := ⟨0x2F10, 1, 1, 5, 1, (.domain 67108864), .ro, .opr, [], [], 0⟩
def LOG_SUPPRESSED : Obj := ⟨0x2F10, 1, 1, 6, 1, .u32, .ro, .obs, [0], [], 0⟩
def LOG_CLEAR : Obj := ⟨0x2F10, 1, 1, 7, 1, .u8, .wo, .vnd, [], [(1, 1)], 0⟩

/-! Chapter 10. -/
def SI_STATUS : Obj := ⟨0x2800, 1, 1, 1, 1, .u16, .ro, .obs, [15], [], 0⟩
def SI_READY : Obj := ⟨0x2800, 1, 1, 2, 1, .bool, .ro, .obs, [0], [], 0⟩
def TP_PERIOD : Obj := ⟨0x2800, 1, 1, 3, 1, .u16, .rwp, .srv, [1000], [(0, 0), (100, 10000)], 0x28FF01⟩
def ENABLE : Obj := ⟨0x2801, 4, 1, 1, 1, .bool, .rwp, .srv, [1, 1, 0, 0], [(0, 1)], 0x28FF01⟩
def FILTER_2801 : Obj := ⟨0x2801, 4, 1, 2, 1, .u16, .rwp, .srv, [10], [(5, 100)], 0x28FF01⟩
def DISC_T : Obj := ⟨0x2801, 4, 1, 3, 1, .u16, .rwp, .srv, [50], [(10, 500)], 0x28FF01⟩
def RESTART : Obj := ⟨0x2801, 4, 1, 4, 1, .u8, .rwp, .srv, [1, 0, 1, 0], [(0, 1)], 0x28FF01⟩
def SENSE_FIXED : Obj := ⟨0x2801, 3, 1, 5, 1, .u8, .ro, .srv, [0, 2, 1], [], 0⟩
def SENSE_AUX : Obj := ⟨0x2804, 1, 1, 5, 1, .u8, .rwp, .srv, [0], [(0, 1)], 0x28FF01⟩
def SI_STATE : Obj := ⟨0x2801, 4, 1, 6, 1, .u8, .ro, .obs, [1], [], 0⟩
def CH_LEVEL : Obj := ⟨0x2801, 4, 1, 7, 1, .u8, .ro, .obs, [0], [], 0⟩
def DEMAND_COUNT : Obj := ⟨0x2801, 4, 1, 8, 1, .u32, .ro, .obs, [0], [], 0⟩
def CHATTER_COUNT : Obj := ⟨0x2801, 4, 1, 9, 1, .u32, .ro, .obs, [0], [], 0⟩
def HVIL_I_SET : Obj := ⟨0x2805, 1, 1, 1, 1, .u8, .rwp, .srv, [10], [(5, 20)], 0x28FF01⟩
def HVIL_I_OUT : Obj := ⟨0x2805, 1, 1, 2, 1, .u16, .ro, .obs, [0], [], 0⟩
def HVIL_I_RET : Obj := ⟨0x2805, 1, 1, 3, 1, .u16, .ro, .obs, [0], [], 0⟩
def HVIL_CAUSE : Obj := ⟨0x2805, 1, 1, 4, 1, .u8, .ro, .obs, [0], [], 0⟩
def RST_LEVEL : Obj := ⟨0x2806, 1, 1, 1, 1, .bool, .ro, .obs, [0], [], 0⟩
def RST_LAST_WIDTH : Obj := ⟨0x2806, 1, 1, 2, 1, .u16, .ro, .obs, [0], [], 0⟩
def RST_ACCEPTED : Obj := ⟨0x2806, 1, 1, 3, 1, .u32, .ro, .obs, [0], [], 0⟩
def COMMIT_28FF : Obj := ⟨0x28FF, 1, 1, 1, 1, .u8, .wo, .srv, [], [(1, 1)], 0⟩

/-! Chapter 11. -/
def SRAM_CE_COUNT : Obj := ⟨0x2B00, 1, 1, 1, 1, .u32, .ro, .obs, [0], [], 0⟩
def SRAM_UE_COUNT : Obj := ⟨0x2B00, 1, 1, 2, 1, .u32, .ro, .obs, [0], [], 0⟩
def SCRUB_PASS_TIME : Obj := ⟨0x2B00, 1, 1, 3, 1, .u16, .ro, .obs, [0], [], 0⟩
def SCRUB_PASSES : Obj := ⟨0x2B00, 1, 1, 4, 1, .u32, .ro, .obs, [0], [], 0⟩
def MACRO_UNUSABLE : Obj := ⟨0x2B00, 1, 1, 5, 1, .u64, .ro, .obs, [0], [], 0⟩
def MAIN_SPARES_USED : Obj := ⟨0x2B00, 1, 1, 6, 1, .u8, .ro, .obs, [0], [], 0⟩
def LAST_CE_ADDR : Obj := ⟨0x2B00, 1, 1, 7, 1, .u32, .ro, .obs, [0], [], 0⟩
def LAST_UE_ADDR : Obj := ⟨0x2B00, 1, 1, 8, 1, .u32, .ro, .obs, [0], [], 0⟩
def NV_CE_COUNT : Obj := ⟨0x2B08, 1, 1, 1, 1, .u32, .ro, .obs, [0], [], 0⟩
def NV_UE_COUNT : Obj := ⟨0x2B08, 1, 1, 2, 1, .u32, .ro, .obs, [0], [], 0⟩
def NV_ERASE_MAX : Obj := ⟨0x2B08, 1, 1, 3, 1, .u32, .ro, .obs, [0], [], 0⟩
def PERS_KEYS : Obj := ⟨0x2B10, 1, 1, 1, 1, .u16, .ro, .obs, [0], [], 0⟩
def PERS_LOG_FREE : Obj := ⟨0x2B10, 1, 1, 2, 1, .u32, .ro, .obs, [], [], 0⟩
def PERS_COMPACTIONS : Obj := ⟨0x2B10, 1, 1, 3, 1, .u32, .ro, .obs, [0], [], 0⟩
def SPENT_COUNT : Obj := ⟨0x2B10, 1, 1, 4, 1, .u16, .ro, .obs, [0], [], 0⟩
def PERS_SELECT : Obj := ⟨0x2B10, 1, 1, 5, 1, .u32, .rw, .opr, [0], [], 0⟩
def PERS_WRITES : Obj := ⟨0x2B10, 1, 1, 6, 1, .u32, .ro, .obs, [0], [], 0⟩
def PERS_TIME_MAX : Obj := ⟨0x2B10, 1, 1, 7, 1, .u16, .ro, .obs, [0], [], 0⟩
def DMA_ERRORS : Obj := ⟨0x2B18, 1, 1, 1, 1, .u32, .ro, .obs, [0], [], 0⟩
def MPU_VIOLATIONS : Obj := ⟨0x2B18, 1, 1, 2, 1, .u32, .ro, .obs, [0], [], 0⟩
def DMA_LAST_STOP : Obj := ⟨0x2B18, 1, 1, 3, 1, .u16, .ro, .obs, [0], [], 0⟩
def ST_STATE : Obj := ⟨0x2B20, 1, 1, 1, 1, .u8, .ro, .obs, [0], [], 0⟩
def ST_REQUEST : Obj := ⟨0x2B20, 1, 1, 2, 1, .u8, .wo, .srv, [], [], 0⟩
def ST_ABORT : Obj := ⟨0x2B20, 1, 1, 3, 1, .u8, .wo, .srv, [], [(1, 1)], 0⟩
def ROT_ENABLE : Obj := ⟨0x2B20, 1, 1, 4, 1, .bool, .rwp, .vnd, [1], [(0, 1)], 0x2BFF01⟩
def ROT_NEXT : Obj := ⟨0x2B20, 1, 1, 5, 1, .u8, .ro, .obs, [4], [], 0⟩
def ROT_SKIPPED : Obj := ⟨0x2B20, 1, 1, 6, 1, .u32, .ro, .obs, [0], [], 0⟩
def RESULT : Obj := ⟨0x2B40, 49, 1, 1, 1, .u8, .ro, .obs, [0], [], 0⟩
def SIGNATURE : Obj := ⟨0x2B40, 49, 1, 2, 1, .u32, .ro, .obs, [0], [], 0⟩
def CYCLES : Obj := ⟨0x2B40, 49, 1, 3, 1, .u32, .ro, .obs, [0], [], 0⟩
def EXPECTED_CYCLES : Obj := ⟨0x2B40, 49, 1, 4, 1, .u32, .ro, .obs, [15728640, 15728640, 96, 9, 3145728, 3145728, 0, 0, 1024, 1024, 1024, 1024, 0, 0, 0, 0, 3, 3, 3, 3, 3, 3, 3, 3, 3, 3, 3, 3, 3, 3, 3, 3, 262144, 262144, 262144, 262144, 262144, 262144, 262144, 262144, 262144, 262144, 262144, 262144, 0, 0, 0, 0, 163840], [], 0⟩
def RUN_COUNT : Obj := ⟨0x2B40, 49, 1, 5, 1, .u32, .ro, .obs, [0], [], 0⟩
def FAIL_COUNT : Obj := ⟨0x2B40, 49, 1, 6, 1, .u32, .ro, .obs, [0], [], 0⟩
def LAST_TIME : Obj := ⟨0x2B40, 49, 1, 7, 1, .u64, .ro, .obs, [0], [], 0⟩
def DETAIL : Obj := ⟨0x2B40, 49, 1, 8, 1, .u32, .ro, .obs, [0], [], 0⟩
def COMMIT_2BFF : Obj := ⟨0x2BFF, 1, 1, 1, 1, .u8, .wo, .vnd, [], [(1, 1)], 0⟩

/-! Chapter 12. -/
def DEVICE_TYPE : Obj := ⟨0x1000, 1, 1, 1, 1, .u32, .ro, .obs, [18448], [], 0⟩
def VENDOR_ID : Obj := ⟨0x1000, 1, 1, 2, 1, .u32, .ro, .obs, [7173], [], 0⟩
def VENDOR_NAME : Obj := ⟨0x1001, 1, 1, 1, 1, (.str 32), .ro, .obs, [], [], 0⟩
def PART_NUMBER : Obj := ⟨0x1001, 1, 1, 2, 1, (.str 16), .ro, .obs, [], [], 0⟩
def PRODUCT_NAME : Obj := ⟨0x1001, 1, 1, 3, 1, (.str 16), .ro, .obs, [], [], 0⟩
def SILICON_STEP : Obj := ⟨0x1002, 1, 1, 1, 1, .u16, .ro, .obs, [], [], 0⟩
def SERIAL_NUMBER : Obj := ⟨0x1002, 1, 1, 2, 1, .u64, .ro, .obs, [], [], 0⟩
def LOT_CODE : Obj := ⟨0x1002, 1, 1, 3, 1, (.str 16), .ro, .obs, [], [], 0⟩
def DATE_CODE : Obj := ⟨0x1002, 1, 1, 4, 1, .u16, .ro, .obs, [], [], 0⟩
def FW_VERSION : Obj := ⟨0x1003, 1, 1, 1, 1, .u32, .ro, .obs, [], [], 0⟩
def FW_SLOT : Obj := ⟨0x1003, 1, 1, 2, 1, .u8, .ro, .obs, [], [], 0⟩
def BOOT_ROM_VERSION : Obj := ⟨0x1003, 1, 1, 3, 1, .u32, .ro, .obs, [], [], 0⟩
def HELMET_FW_VERSION : Obj := ⟨0x1003, 1, 1, 4, 1, .u32, .ro, .obs, [], [], 0⟩
def DICT_VERSION : Obj := ⟨0x1004, 1, 1, 1, 1, .u16, .ro, .obs, [256], [], 0⟩
def OP_TIME : Obj := ⟨0x1006, 1, 1, 1, 1, .u64, .ro, .obs, [], [], 0⟩
def START_COUNT : Obj := ⟨0x1006, 1, 1, 2, 1, .u32, .ro, .obs, [], [], 0⟩
def MAX_REQUEST : Obj := ⟨0x1010, 1, 1, 1, 1, .u16, .ro, .obs, [8192], [], 0⟩
def MAX_PROC_DATA : Obj := ⟨0x1010, 1, 1, 2, 1, .u8, .ro, .obs, [64], [], 0⟩
def RX_PROC_FRAMES : Obj := ⟨0x1010, 1, 1, 3, 1, .u8, .ro, .obs, [8], [], 0⟩
def TX_PROC_FRAMES : Obj := ⟨0x1010, 1, 1, 4, 1, .u8, .ro, .obs, [8], [], 0⟩
def CONTROL_WORD : Obj := ⟨0x2000, 1, 1, 1, 1, .u16, .rw, .opr, [0], [], 0⟩
def CMD_SOURCE : Obj := ⟨0x2000, 1, 1, 2, 1, .u8, .rwp, .srv, [0], [(0, 4)], 0x20FF01⟩
def CONFIG : Obj := ⟨0x2000, 1, 1, 10, 1, .u8, .rwp, .srv, [255], [(0, 2), (255, 255)], 0⟩
def CONFIG_ACTIVE : Obj := ⟨0x2000, 1, 1, 11, 1, .u8, .ro, .obs, [255], [], 0⟩
def STATUS_WORD : Obj := ⟨0x2001, 1, 1, 1, 1, .u32, .ro, .obs, [], [], 0⟩
def DEV_STATE : Obj := ⟨0x2001, 1, 1, 2, 1, .u8, .ro, .obs, [], [], 0⟩
def PREV_STATE : Obj := ⟨0x2001, 1, 1, 3, 1, .u8, .ro, .obs, [], [], 0⟩
def STATE_TIME : Obj := ⟨0x2001, 1, 1, 4, 1, .u32, .ro, .obs, [0], [], 0⟩
def LAST_REFUSAL : Obj := ⟨0x2001, 1, 1, 5, 1, .u16, .ro, .obs, [0], [], 0⟩
def REQ_ACCEPTED : Obj := ⟨0x2008, 1, 1, 1, 1, .u32, .ro, .obs, [0], [], 0⟩
def REQ_BUSY : Obj := ⟨0x2008, 1, 1, 2, 1, .u32, .ro, .obs, [0], [], 0⟩
def REQ_ABORTED : Obj := ⟨0x2008, 1, 1, 3, 1, .u32, .ro, .obs, [0], [], 0⟩
def REQ_DUPLICATE : Obj := ⟨0x2008, 1, 1, 4, 1, .u32, .ro, .obs, [0], [], 0⟩
def PROC_REJECTED : Obj := ⟨0x2008, 1, 1, 5, 1, .u32, .ro, .obs, [0], [], 0⟩
def BLOCK_ABORTS : Obj := ⟨0x2008, 1, 1, 6, 1, .u32, .ro, .obs, [0], [], 0⟩
def BLOCK_W_KEY : Obj := ⟨0x2010, 1, 1, 1, 1, .u32, .ro, .obs, [0], [], 0⟩
def BLOCK_W_DONE : Obj := ⟨0x2010, 1, 1, 2, 1, .u32, .ro, .obs, [0], [], 0⟩
def BLOCK_W_TOTAL : Obj := ⟨0x2010, 1, 1, 3, 1, .u32, .ro, .obs, [0], [], 0⟩
def BLOCK_R_KEY : Obj := ⟨0x2010, 1, 1, 4, 1, .u32, .ro, .obs, [0], [], 0⟩
def BLOCK_IDLE_TMO : Obj := ⟨0x2010, 1, 1, 5, 1, .u16, .rwp, .srv, [5000], [(1000, 60000)], 0⟩
def RX_COUNT : Obj := ⟨0x2040, 8, 1, 1, 1, .u8, .rwp, .srv, [0], [(0, 16)], 0x20FF01⟩
def RX_ENTRY : Obj := ⟨0x2040, 8, 1, 2, 16, .u32, .rwp, .srv, [0], [], 0x20FF01⟩
def TX_COUNT : Obj := ⟨0x2048, 8, 1, 1, 1, .u8, .rwp, .srv, [0], [(0, 16)], 0x20FF01⟩
def TX_ENTRY : Obj := ⟨0x2048, 8, 1, 2, 16, .u32, .rwp, .srv, [0], [], 0x20FF01⟩
def COMMIT_20FF : Obj := ⟨0x20FF, 1, 1, 1, 1, .u8, .wo, .srv, [], [(1, 1)], 0⟩

/-! Chapter 13. -/
def RX_BUF_SIZE : Obj := ⟨0x1100, 1, 1, 1, 1, .u8, .rwp, .srv, [2], [(2, 2), (4, 4), (8, 8)], 0x11FF01⟩
def RX_BUF_COUNT : Obj := ⟨0x1100, 1, 1, 2, 1, .u8, .rwp, .srv, [16], [(4, 64)], 0x11FF01⟩
def STAGING_SIZE : Obj := ⟨0x1100, 1, 1, 3, 4, .u16, .rwp, .srv, [4, 256, 64, 4], [(4, 256)], 0x11FF01⟩
def CAN_ROLE : Obj := ⟨0x1101, 4, 1, 1, 1, .u8, .rwp, .srv, [1, 0, 0, 0], [(0, 3)], 0x11FF01⟩
def NOM_BRP : Obj := ⟨0x1101, 4, 1, 2, 1, .u16, .rwp, .srv, [1], [(1, 512)], 0x11FF01⟩
def NOM_TSEG1 : Obj := ⟨0x1101, 4, 1, 3, 1, .u16, .rwp, .srv, [127], [(2, 256)], 0x11FF01⟩
def NOM_TSEG2 : Obj := ⟨0x1101, 4, 1, 4, 1, .u16, .rwp, .srv, [32], [(2, 128)], 0x11FF01⟩
def NOM_SJW : Obj := ⟨0x1101, 4, 1, 5, 1, .u16, .rwp, .srv, [32], [(1, 128)], 0x11FF01⟩
def DATA_BRP : Obj := ⟨0x1101, 4, 1, 6, 1, .u8, .rwp, .srv, [1], [(1, 32)], 0x11FF01⟩
def DATA_TSEG1 : Obj := ⟨0x1101, 4, 1, 7, 1, .u8, .rwp, .srv, [31], [(1, 32)], 0x11FF01⟩
def DATA_TSEG2 : Obj := ⟨0x1101, 4, 1, 8, 1, .u8, .rwp, .srv, [8], [(1, 16)], 0x11FF01⟩
def DATA_SJW : Obj := ⟨0x1101, 4, 1, 9, 1, .u8, .rwp, .srv, [8], [(1, 16)], 0x11FF01⟩
def BRS_ENABLE : Obj := ⟨0x1101, 4, 1, 10, 1, .bool, .rwp, .srv, [1], [(0, 1)], 0x11FF01⟩
def TDC_OFFSET : Obj := ⟨0x1101, 4, 1, 11, 1, .u8, .rwp, .srv, [0], [(0, 127)], 0x11FF01⟩
def SRV_RX_ID : Obj := ⟨0x1101, 4, 1, 12, 1, .u32, .rwp, .srv, [1536], [(0, 0x1FFFFFF8), (0x80000000, 0x9FFFFFF8)], 0x11FF01⟩
def SRV_TX_ID : Obj := ⟨0x1101, 4, 1, 18, 1, .u32, .rwp, .srv, [1408], [(0, 0x1FFFFFF8), (0x80000000, 0x9FFFFFF8)], 0x11FF01⟩
def TEC : Obj := ⟨0x1101, 4, 1, 13, 1, .u32, .ro, .obs, [0], [], 0⟩
def REC : Obj := ⟨0x1101, 4, 1, 14, 1, .u32, .ro, .obs, [0], [], 0⟩
def BUSOFF_COUNT : Obj := ⟨0x1101, 4, 1, 15, 1, .u32, .ro, .obs, [0], [], 0⟩
def RX_OVERFLOW : Obj := ⟨0x1101, 4, 1, 16, 1, .u32, .ro, .obs, [0], [], 0⟩
def AUTH_FAIL : Obj := ⟨0x1101, 4, 1, 17, 1, .u32, .ro, .obs, [0], [], 0⟩
def HOST_CH : Obj := ⟨0x1108, 1, 1, 1, 1, .u8, .ro, .obs, [0], [], 0⟩
def REDUNDANT_CH : Obj := ⟨0x1108, 1, 1, 2, 1, .u8, .rwp, .srv, [255], [(0, 3), (255, 255)], 0x11FF01⟩
def HOST_TMO : Obj := ⟨0x1108, 1, 1, 3, 1, .u16, .rwp, .srv, [100], [(10, 5000)], 0x11FF01⟩
def HOST_CH_ACTIVE : Obj := ⟨0x1108, 1, 1, 4, 1, .u8, .ro, .obs, [0], [], 0⟩
def PROC_PORT : Obj := ⟨0x1110, 8, 1, 1, 1, .u8, .rwp, .srv, [1], [(1, 3)], 0x11FF01⟩
def PROC_ID : Obj := ⟨0x1110, 8, 1, 2, 1, .u32, .rwp, .srv, [512, 513, 514, 515, 516, 517, 518, 519], [], 0x11FF01⟩
def PROC_AUTH : Obj := ⟨0x1110, 8, 1, 3, 1, .bool, .rwp, .srv, [0], [(0, 1)], 0x11FF01⟩
def TX_PORT : Obj := ⟨0x1118, 8, 1, 1, 1, .u8, .rwp, .srv, [1], [(1, 3)], 0x11FF01⟩
def TX_ID : Obj := ⟨0x1118, 8, 1, 2, 1, .u32, .rwp, .srv, [384, 385, 386, 387, 388, 389, 390, 391], [], 0x11FF01⟩
def TX_CYCLE : Obj := ⟨0x1118, 8, 1, 3, 1, .u32, .rwp, .srv, [0], [(0, 0), (100, 1000000)], 0x11FF01⟩
def TX_QUEUE : Obj := ⟨0x1118, 8, 1, 4, 1, .u8, .rwp, .srv, [1], [(0, 1)], 0x11FF01⟩
def TX_AUTH : Obj := ⟨0x1118, 8, 1, 5, 1, .bool, .rwp, .srv, [0], [(0, 1)], 0x11FF01⟩
def TX_REPLACED : Obj := ⟨0x1118, 8, 1, 6, 1, .u32, .ro, .obs, [0], [], 0⟩
def ETH_ENABLE : Obj := ⟨0x1120, 1, 1, 1, 1, .bool, .rwp, .srv, [0], [(0, 1)], 0x11FF01⟩
def ETH_IF : Obj := ⟨0x1120, 1, 1, 2, 1, .u8, .rwp, .srv, [0], [(0, 1)], 0x11FF01⟩
def IP_ADDR : Obj := ⟨0x1120, 1, 1, 3, 1, .u32, .rwp, .srv, [3232238090], [], 0x11FF01⟩
def NETMASK : Obj := ⟨0x1120, 1, 1, 4, 1, .u32, .rwp, .srv, [4294967040], [], 0x11FF01⟩
def GATEWAY : Obj := ⟨0x1120, 1, 1, 5, 1, .u32, .rwp, .srv, [0], [], 0x11FF01⟩
def MAC_ADDR : Obj := ⟨0x1120, 1, 1, 6, 1, .u64, .ro, .obs, [], [], 0⟩
def JUMBO : Obj := ⟨0x1120, 1, 1, 7, 1, .bool, .rwp, .srv, [0], [(0, 1)], 0x11FF01⟩
def VLAN : Obj := ⟨0x1120, 1, 1, 8, 1, .u16, .rwp, .srv, [0], [], 0x11FF01⟩
def LINK_STATE : Obj := ⟨0x1120, 1, 1, 9, 1, .u8, .ro, .obs, [0], [], 0⟩
def PROC_DEST : Obj := ⟨0x1120, 1, 1, 10, 1, .u32, .rwp, .srv, [0], [], 0x11FF01⟩
def RX_DISCARDED : Obj := ⟨0x1120, 1, 1, 11, 1, .u32, .ro, .obs, [0], [], 0⟩
def TRACE_DEST_IP : Obj := ⟨0x1128, 1, 1, 1, 1, .u32, .rwp, .srv, [0], [], 0x11FF01⟩
def TRACE_DEST_PORT : Obj := ⟨0x1128, 1, 1, 2, 1, .u16, .rwp, .srv, [47830], [(1, 65535)], 0x11FF01⟩
def TRACE_DATAGRAMS : Obj := ⟨0x1128, 1, 1, 3, 1, .u32, .ro, .obs, [0], [], 0⟩
def PTP_ENABLE : Obj := ⟨0x1130, 1, 1, 1, 1, .bool, .rwp, .srv, [0], [(0, 1)], 0x11FF01⟩
def PTP_STATE : Obj := ⟨0x1130, 1, 1, 2, 1, .u8, .ro, .obs, [0], [], 0⟩
def PTP_OFFSET : Obj := ⟨0x1130, 1, 1, 3, 1, .i32, .ro, .obs, [0], [], 0⟩
def PTP_TIME : Obj := ⟨0x1130, 1, 1, 4, 1, .u64, .ro, .obs, [0], [], 0⟩
def SPI_ENABLE : Obj := ⟨0x1138, 1, 1, 1, 1, .bool, .rwp, .srv, [0], [(0, 1)], 0x11FF01⟩
def SPI_ERRORS : Obj := ⟨0x1138, 1, 1, 2, 1, .u32, .ro, .obs, [0], [], 0⟩
def COMMIT_11FF : Obj := ⟨0x11FF, 1, 1, 1, 1, .u8, .wo, .srv, [], [(1, 1)], 0⟩
def SPAN_NODE : Obj := ⟨0x2C00, 1, 1, 1, 1, .u8, .rwp, .srv, [1], [(1, 7)], 0x2CFF01⟩
def SPAN_ROLE : Obj := ⟨0x2C00, 1, 1, 2, 1, .u8, .ro, .obs, [0], [], 0⟩
def NODES_EXPECTED : Obj := ⟨0x2C00, 1, 1, 3, 1, .u8, .rwp, .srv, [0], [], 0x2CFF01⟩
def SPAN_RATE : Obj := ⟨0x2C00, 1, 1, 4, 1, .u16, .rwp, .srv, [10000], [(1000, 20000)], 0x2CFF01⟩
def SPAN_TMO : Obj := ⟨0x2C00, 1, 1, 5, 1, .u16, .rwp, .srv, [10], [(2, 100)], 0x2CFF01⟩
def SPAN_PHASE : Obj := ⟨0x2C00, 1, 1, 6, 1, .u16, .rwp, .srv, [0], [(0, 3599)], 0x2CFF01⟩
def SYNC_STATE : Obj := ⟨0x2C00, 1, 1, 7, 1, .u8, .ro, .obs, [0], [], 0⟩
def SYNC_ERR : Obj := ⟨0x2C00, 1, 1, 8, 1, .i16, .ro, .obs, [0], [], 0⟩
def DIST_MODE : Obj := ⟨0x2C01, 1, 1, 1, 1, .u8, .rwp, .srv, [0], [(0, 1)], 0x2CFF01⟩
def SHARE : Obj := ⟨0x2C01, 1, 1, 2, 8, .u8, .rwp, .srv, [100, 0, 0, 0, 0, 0, 0, 0], [(0, 100)], 0x2CFF01⟩
def WORKER_SAFE_ACT : Obj := ⟨0x2C01, 1, 1, 10, 1, .u8, .rwp, .srv, [0], [(0, 1)], 0x2CFF01⟩
def PORT_STATE : Obj := ⟨0x2C08, 1, 1, 1, 2, .u8, .ro, .obs, [0], [], 0⟩
def PORT_AUTH_FAIL : Obj := ⟨0x2C08, 1, 1, 3, 2, .u32, .ro, .obs, [0], [], 0⟩
def LINK_DELAY : Obj := ⟨0x2C08, 1, 1, 5, 2, .u16, .ro, .obs, [0], [], 0⟩
def RING_STATE : Obj := ⟨0x2C08, 1, 1, 7, 1, .u8, .ro, .obs, [0], [], 0⟩
def W_CMD_MODE : Obj := ⟨0x2C11, 7, 1, 1, 1, .u8, .rw, .opr, [0], [(0, 1)], 0⟩
def W_TORQUE_CMD : Obj := ⟨0x2C11, 7, 1, 2, 1, .f32, .rw, .opr, [0], [], 0⟩
def W_SPEED_CMD : Obj := ⟨0x2C11, 7, 1, 3, 1, .f32, .rw, .opr, [0], [], 0⟩
def W_ASC_BRAKE_CMD : Obj := ⟨0x2C11, 7, 1, 4, 1, .bool, .rw, .opr, [0], [(0, 1)], 0⟩
def W_TQ_LIM_POS : Obj := ⟨0x2C11, 7, 1, 5, 1, .f32, .rw, .opr, [0], [], 0⟩
def W_TQ_LIM_NEG : Obj := ⟨0x2C11, 7, 1, 6, 1, .f32, .rw, .opr, [0], [], 0⟩
def W_CONTROL_WORD : Obj := ⟨0x2C11, 7, 1, 7, 1, .u16, .rw, .opr, [0], [], 0⟩
def W_SPEED_LIM_POS : Obj := ⟨0x2C11, 7, 1, 8, 1, .f32, .rw, .opr, [0], [(0, 2 ^ 200)], 0⟩
def W_SPEED_LIM_NEG : Obj := ⟨0x2C11, 7, 1, 9, 1, .f32, .rw, .opr, [0], [(0, 2 ^ 200)], 0⟩
def NODE_STATE : Obj := ⟨0x2C21, 7, 1, 1, 1, .u8, .ro, .obs, [0], [], 0⟩
def N_STATUS_WORD : Obj := ⟨0x2C21, 7, 1, 2, 1, .u32, .ro, .obs, [0], [], 0⟩
def N_TORQUE_EST : Obj := ⟨0x2C21, 7, 1, 3, 1, .f32, .ro, .obs, [0], [], 0⟩
def N_T_AVAIL_POS : Obj := ⟨0x2C21, 7, 1, 4, 1, .f32, .ro, .obs, [0], [], 0⟩
def N_T_AVAIL_NEG : Obj := ⟨0x2C21, 7, 1, 5, 1, .f32, .ro, .obs, [0], [], 0⟩
def N_SPEED : Obj := ⟨0x2C21, 7, 1, 6, 1, .i32, .ro, .obs, [0], [], 0⟩
def N_SAFE_STATE : Obj := ⟨0x2C21, 7, 1, 7, 1, .u8, .ro, .obs, [255], [], 0⟩
def N_ACTIVE_CODE : Obj := ⟨0x2C21, 7, 1, 8, 1, .u16, .ro, .obs, [0], [], 0⟩
def N_SERIAL : Obj := ⟨0x2C21, 7, 1, 9, 1, .u64, .ro, .obs, [0], [], 0⟩
def COMMIT_2CFF : Obj := ⟨0x2CFF, 1, 1, 1, 1, .u8, .wo, .srv, [], [(1, 1)], 0⟩

/-! Chapter 14. -/
def LC_STATE : Obj := ⟨0x2D00, 1, 1, 1, 1, .u8, .ro, .obs, [], [], 0⟩
def LC_REQUEST : Obj := ⟨0x2D00, 1, 1, 2, 1, .u32, .wo, .srv, [], [(1279459329, 1279459332)], 0⟩
def DEBUG_STATE : Obj := ⟨0x2D00, 1, 1, 3, 1, .u8, .ro, .obs, [], [], 0⟩
def DEV_PUBKEY : Obj := ⟨0x2D01, 1, 1, 1, 1, (.domain 67108864), .ro, .obs, [], [], 0⟩
def OEM_KEY_STATE : Obj := ⟨0x2D02, 1, 1, 1, 4, .u8, .ro, .obs, [0], [], 0⟩
def OEM_KEY_WRITE : Obj := ⟨0x2D02, 1, 1, 5, 1, (.domain 33), .wo, .opr, [], [], 0⟩
def OEM_KEY_REVOKE : Obj := ⟨0x2D02, 1, 1, 6, 1, .u8, .wo, .srv, [], [(0, 3)], 0⟩
def VENDOR_REVOKED : Obj := ⟨0x2D03, 1, 1, 1, 1, .u8, .ro, .obs, [0], [], 0⟩
def KEY_BLOB : Obj := ⟨0x2D08, 1, 1, 1, 1, (.domain 192), .wo, .srv, [], [], 0⟩
def KEY_GEN : Obj := ⟨0x2D08, 1, 1, 2, 2, .u8, .ro, .obs, [0], [], 0⟩
def FW_PREFERRED : Obj := ⟨0x2D10, 1, 1, 1, 1, .u8, .rwp, .srv, [0], [(0, 1)], 0⟩
def SLOT_STATE : Obj := ⟨0x2D10, 1, 1, 2, 3, .u8, .ro, .obs, [], [], 0⟩
def SLOT_VERSION : Obj := ⟨0x2D10, 1, 1, 5, 3, .u32, .ro, .obs, [], [], 0⟩
def SLOT_ROLLBACK : Obj := ⟨0x2D10, 1, 1, 8, 3, .u8, .ro, .obs, [], [], 0⟩
def ROLLBACK_CTR : Obj := ⟨0x2D10, 1, 1, 11, 1, .u8, .ro, .obs, [], [], 0⟩
def FW_CONFIRM : Obj := ⟨0x2D10, 1, 1, 12, 1, .u8, .wo, .srv, [], [(1, 1)], 0⟩
def REJECT_REASON : Obj := ⟨0x2D10, 1, 1, 13, 3, .u8, .ro, .obs, [0], [], 0⟩
def FW_DATA : Obj := ⟨0x2D11, 1, 1, 1, 1, (.domain 16777216), .wo, .srv, [], [], 0⟩
def RECOVERY_DATA : Obj := ⟨0x2D11, 1, 1, 2, 1, (.domain 15728640), .wo, .vnd, [], [], 0⟩
def PARAM_DATA : Obj := ⟨0x2D20, 1, 1, 1, 1, (.domain 520192), .wo, .srv, [], [], 0⟩
def PARAM_STATE : Obj := ⟨0x2D20, 1, 1, 2, 2, .u8, .ro, .obs, [0], [], 0⟩
def PARAM_ACTIVATE : Obj := ⟨0x2D20, 1, 1, 4, 1, .u8, .wo, .srv, [], [(1, 1)], 0⟩
def PARAM_SET_ID : Obj := ⟨0x2D20, 1, 1, 5, 1, .u32, .ro, .obs, [0], [], 0⟩
def PARAM_VERSION : Obj := ⟨0x2D20, 1, 1, 6, 1, .u32, .ro, .obs, [0], [], 0⟩
def MIN_PARAM_VERSION : Obj := ⟨0x2D20, 1, 1, 7, 1, .u32, .rwp, .srv, [0], [], 0⟩
def PARAM_RESULT : Obj := ⟨0x2D20, 1, 1, 8, 1, .u8, .ro, .obs, [0], [], 0⟩
def SESSION_IDLE : Obj := ⟨0x2D30, 1, 1, 1, 1, .u16, .rwp, .srv, [60], [(10, 3600)], 0⟩
def AUTH_FAILS : Obj := ⟨0x2D30, 1, 1, 2, 1, .u32, .ro, .obs, [0], [], 0⟩
def SESSIONS_OPEN : Obj := ⟨0x2D30, 1, 1, 3, 1, .u8, .ro, .obs, [0], [], 0⟩
def SESSION_CLOSE : Obj := ⟨0x2D30, 1, 1, 4, 1, .u8, .wo, .opr, [], [(1, 255)], 0⟩

end O

def objs03a : List Obj :=
  [O.VIN_MEAS, O.VDDIO_MEAS, O.VDDIO_LEVEL, O.INPUT_POWER, O.VIN_WARN_LOW, O.RAIL_MEAS, O.ISL_POWER, O.ISL_SUPPLY, O.CLOCK_STATUS, O.RESET_CAUSE,
   O.START_TIME, O.READY_TIME, O.THERM_SHUTDOWN_COUNT, O.TEMP_MAX, O.TEMP_MAX_SRC, O.TEMP_WARN, O.TEMP_DERATE, O.COMMIT_2A20, O.TEMP_SENSOR,
   O.THERM_MODE, O.THERM_MODE_ACTIVE, O.PROCESS_CODE, O.PROCESS_STATE, O.SLEEP_DEPTH, O.WAKE_TIMER, O.WAKE_CAUSE]

def objs04a : List Obj :=
  [O.DRV_EN_LEVEL, O.ISL_VERIFIED, O.ISL_BOOTSTRAP, O.ISL_LATCHED, O.DRV_EN_CLEARS, O.DT_MIN_1, O.DT_MIN_2, O.ILK_TMO, O.VG_OFF_TH, O.T_REFRESH,
   O.SOFT_OFF_SLOPE, O.SOFT_OFF_TMAX, O.BAL_ENABLE, O.BAL_RATE, O.BAL_MODE, O.BAL_DEADBAND, O.BAL_TD_STEP, O.BAL_MIN_CURRENT, O.PROBE_ENABLE,
   O.PROBE_INTERVAL, O.TJ_HIGH, O.NTC_RNOM, O.NTC_BETA, O.LINK_CRC_ERR, O.LINK_RETRIES, O.LINK_ABANDONED, O.LINK_EPOCH_DISCARD, O.LINK_LOSSES,
   O.EDGE_CORRECTIONS, O.POS_DIE_MIN, O.ISOLATE_ENABLE, O.COMMIT_260F, O.ISL_STATE, O.ISL_FLAGS, O.DIE_ACTIVE, O.VPOS_MEAS, O.VNEG_MEAS, O.BST_MEAS,
   O.NTC1_TEMP, O.NTC2_TEMP, O.PRELOAD_SEEN, O.DIE_DECL, O.FUNC_DECL, O.VPOS_SET, O.VNEG_SET, O.R_RETURN, O.R_GATE_EXT, O.PRE_I_ON, O.SLOPE_I_ON,
   O.PRE_END_ON, O.PRE_TIME_ON, O.PRE_LEVEL_ON, O.PLAT_EXIT_ON, O.SLOPE_TMAX_ON, O.PRE_I_OFF, O.SLOPE_I_OFF, O.PRE_END_OFF, O.PRE_TIME_OFF,
   O.PRE_LEVEL_OFF, O.PLAT_EXIT_OFF]

def objs04b : List Obj :=
  [O.SLOPE_TMAX_OFF, O.TD_ON, O.TD_OFF, O.VG_TRIM, O.DESAT_TH, O.DESAT_BLANK, O.KTI_WIN, O.KTI_GAIN, O.KTI_ON, O.KTI_OFF, O.VG_ON_MEAS, O.RG_INT,
   O.TJ_EST, O.TD_ON_APPLIED, O.VG_TRIM_APPLIED, O.EDGE_ON_MEAS, O.EDGE_OFF_MEAS, O.RG_REF, O.RG_ALPHA, O.T_REF, O.CAL_CMD, O.COMMIT_ISL]

def objs05a : List Obj :=
  [O.REF_SEL_SARU, O.REF_SEL_ICU, O.REF_SEL_CMP, O.REF_STATUS, O.VREF_OUT_EN, O.SARU_STATE, O.CAL_ABORTS, O.CAL_INTERVAL, O.CAL_REQUEST, O.ILINE_AIN,
   O.ILINE_GAIN, O.ILINE_ZERO, O.ILINE_OFFSET_MEAS, O.SHUNT_MODE, O.MIN_WINDOW, O.SHIFT_MAX, O.ILINE_TOL, O.SUM_TOL, O.I_SHUNT, O.SHUNT_METHOD,
   O.I_LINE, O.INJ_TRIGGER, O.INJ_COUNT, O.INJ_ENTRY, O.INJ_RESULT, O.REG_MODE, O.REG_TRIGGER, O.REG_INTERVAL, O.REG_LENGTH, O.REG_ENTRY,
   O.AIN_RESULT, O.WINDOW, O.CUSTOM_WIN, O.SEQ_LEN, O.SEQ_CH, O.MIDPOINT, O.ICU_MEAN, O.ICU_RMS, O.ICU_PRODUCT, O.WIN_LEN, O.WIN_COUNT, O.INPUT,
   O.THRESH, O.HYS, O.SENSE, O.FILTER_2530, O.ACTION, O.WIN_ENABLE, O.WIN_MODE, O.WIN_ACTION, O.CMP_LEVEL, O.CMP_BAND_INIT, O.WIN_STATE,
   O.WIN_BAND_INIT, O.CMP_SERVICE, O.SHUNT_RANGE, O.SHUNT_RES, O.VDC_RATIO, O.DCW_HIGH, O.DCW_LOW]

def objs05b : List Obj :=
  [O.VDC_MEAS, O.SHUNT_MEAS, O.OVR_COUNT, O.SUSPECT_COUNT, O.CAL_STARVED_COUNT, O.SHUNT_WINDOW_COUNT, O.TRIG_OVERRUN, O.COMMIT_25FF]

def objs06a : List Obj :=
  [O.SENSOR_SRC, O.POS_MODE, O.POLE_PAIRS, O.ANGLE_OFFSET, O.DIR_INVERT, O.BASE_SPEED, O.PLAUS_TOL, O.ALIGN_CMD, O.THETA_E, O.THETA_M, O.SPEED,
   O.FREQ_E, O.POS_STATUS, O.THETA_DIVERSE, O.SPEED_DIVERSE, O.SPEED_FILT, O.POS_MULTI, O.SPD_FILT, O.SPD_WIN, O.ENC_LINES, O.ENC_FILTER, O.ENC_SWAP,
   O.INDEX_MODE, O.INDEX_POS, O.ENC_RAW, O.ENC_COUNT, O.ENC_MULTI, O.ENC_ILLEGAL_COUNT, O.INDEX_CORR, O.HALL_DEBOUNCE, O.HALL_OFFSET, O.HALL_STATE,
   O.HALL_NOISE_COUNT, O.HALL_ILLEGAL_COUNT, O.EXC_FREQ, O.EXC_AMP, O.RES_POLE_PAIRS, O.RES_BW, O.RES_AMP_NOM, O.RES_PHASE, O.RES_AMP_MEAS,
   O.RES_TRACK_ERR, O.SENT_TICK, O.SENT_NIBBLES, O.SENT_CRC, O.SENT_PAUSE, O.SENT_POS_FIELD, O.SENT_LATENCY, O.SENT_TMO, O.SENT_DATA, O.SENT_STATUS,
   O.SENT_ERR_COUNT, O.SENT_SLOW, O.SSI_CLK, O.SSI_BITS, O.SSI_CODE, O.SSI_POS_FIELD, O.SSI_ERR_BIT, O.SSI_MONOFLOP, O.SSI_DOUBLE]

def objs06b : List Obj :=
  [O.SSI_DELAY, O.SSI_WORD, O.SSI_ERR_COUNT, O.ENCO_ENABLE, O.ENCO_CH, O.ENCO_N, O.ENCO_M, O.ENCO_Z_SRC, O.ENCO_OVERRUN, O.PCMP_VALUE, O.PCMP_MODE,
   O.PCMP_STATUS, O.PCMP_FIRES, O.SS_PULSE_V, O.SS_PULSE_PER, O.SS_POL_V, O.SS_MIN_SAL, O.SS_MIN_POL, O.SS_ANGLE, O.SS_SALIENCY, O.SS_POL_MARGIN,
   O.SS_SPEED, O.INJ_FREQ, O.INJ_AMP, O.INJ_BW, O.SWITCH_SPEED, O.BLEND_BAND, O.INJ_DIVERSE, O.OBS_BW, O.OBS_RES_LIM, O.OBS_PLL_LIM, O.OBS_RESIDUAL,
   O.CATCH_PULSE_T, O.CATCH_COUNT, O.CATCH_RESULT, O.COMMIT_24FF]

def objs07a : List Obj :=
  [O.CMD_TIMEOUT, O.TIMEOUT_RAMP, O.CMD_STATUS, O.CMD_MODE, O.TORQUE_CMD, O.SPEED_CMD, O.ASC_BRAKE_CMD, O.TQ_LIM_POS, O.TQ_LIM_NEG, O.SPEED_LIM_POS,
   O.SPEED_LIM_NEG, O.SPEED_LIM_BAND, O.I_MAX, O.BAT_SHARE, O.P_DIS_MAX, O.P_CHG_MAX, O.I_DIS_MAX, O.I_CHG_MAX, O.VDC_MAX, O.VDC_MIN, O.VDC_BAND,
   O.ETA_DEFAULT, O.TJ_DERATE, O.TEMP_SRC, O.MACHINE_TEMP, O.K_TEMP, O.K_TJ, O.K_DIE, O.K_DEG, O.TQ_RATE, O.TQ_JERK, O.SPD_ACC, O.SPD_JERK, O.SPD_KP,
   O.SPD_KI, O.TORQUE_TARGET, O.TORQUE_REF, O.TORQUE_EST, O.T_AVAIL_POS, O.T_AVAIL_NEG, O.LIMIT_CAUSE, O.P_DC_EST, O.ASC_PATTERN, O.ASC_ALT_T,
   O.ASC_BRAKE_MIN, O.ASC_ENTRY_T, O.COMMIT_21FF, O.CARRIER_FREQ, O.UPDATE_MODE, O.CARRIER_PERIOD, O.CTRL_RATE, O.B1_PHASE, O.ARRANGEMENT,
   O.WINDING_SHIFT, O.MIN_PULSE, O.PT_INSTANT_0, O.PT_INSTANT, O.CC_BW, O.R_S, O.DECOUPLE_EN]

def objs07b : List Obj :=
  [O.DELAY_COMP, O.VEC_MODE, O.VEC_GAIN, O.VEC_I_THR, O.VEC_T_FIXED, O.MOD_MODE, O.DPWM_ON, O.DPWM_HYS, O.M_MAX, O.OVM_EN, O.SIX_STEP_EN,
   O.VLIM_MARGIN, O.VLIM_BW, O.I_D, O.I_Q, O.V_D, O.V_Q, O.M_DEM, O.MOD_STATE, O.VDC_USED, O.FLE_STATE, O.PERIOD_COUNT, O.LATE_COUNT,
   O.OVERRUN_COUNT, O.COMMIT_22FF, O.ACTIVE_BANK, O.BANK_STATE, O.ACTIVATE, O.MIN_SET_VERSION, O.SET_ID, O.SET_VERSION, O.VERIFY_RESULT, O.SET_DATA,
   O.SET_HEADER, O.SET_DESC, O.SOLVER_RATE, O.SOLVER_RATE_ACT, O.REF_RAMP, O.MAP_STATUS, O.EXTRAP_AXES, O.EXTRAP_COUNT, O.CORR_ENABLE, O.CORR_GAIN,
   O.CORR_LSB, O.CORR_CMD, O.CORR_STATE, O.CORR_AVAIL, O.CORR_DATA, O.CORR_SAVED_ID, O.CORR_LIMITED, O.COMMIT_23FF, O.TRACE_MODE, O.TRACE_CMD,
   O.TRACE_STATE, O.TRIG_SRC, O.TRIG_SLOT, O.TRIG_LEVEL, O.TRIG_EDGE, O.TRIG_CLASS, O.PRE_TRIG]

def objs07c : List Obj :=
  [O.DECIM, O.TRACE_BRIDGE, O.RECORD_LEN, O.CAPACITY, O.LOST_COUNT, O.PROBE_SRC, O.TRACE_DATA, O.COMMIT_2EFF]

def objs08a : List Obj :=
  [O.GRID_MODE, O.F_NOM, O.V_NOM, O.GRID_V_GROUP, O.GRID_V_GAIN, O.GRID_I_GAIN, O.V_MIN, O.V_MAX, O.F_MIN, O.F_MAX, O.LOSS_LEVEL, O.GRID_OK_TIME,
   O.SP_PARALLEL, O.L_GRID, O.PLL_BW, O.PLL_STATE, O.GRID_FREQ, O.GRID_VD, O.NEG_SEQ, O.VDC_REF, O.VDC_HEADROOM, O.VDC_BW, O.C_DC, O.VDC_RAMP_T,
   O.SAG_BAND, O.Q_CMD, O.P_AC_REF, O.VDC_REF_EFF, O.DAB_FREQ, O.L_DAB, O.N_RATIO, O.DAB_PHI_MAX, O.DAB_PHI_STEP, O.DAB_I_BW, O.ETA_DAB, O.CV_BW,
   O.MATCH_PHI_MAX, O.CHG_LOOP_RATE, O.I_OUT_RATED, O.OUT_OV_MARGIN, O.OUT_MATCH_TOL, O.TJ_DERATE_CHG, O.I_OUT_CMD, O.I_OUT_MAX, O.V_OUT_MAX,
   O.P_OUT_MAX, O.I_GRID_MAX, O.P_GRID_MAX, O.V_BATT_HOST, O.I_OUT_RAMP, O.RLY_FITTED, O.FB_SENSE, O.RLY_CMD, O.RLY_OUT, O.RLY_FB, O.RLY_T_CLOSE,
   O.RLY_T_OPEN, O.RLY_OVERLAP, O.PRE_LEVEL, O.PRE_TMAX]

def objs08b : List Obj :=
  [O.RLY_OPS, O.GRID_V_RMS, O.GRID_I_RMS, O.GRID_P, O.P_GRID, O.PF, O.ENERGY_IMPORT, O.ENERGY_EXPORT, O.METER_FLAGS, O.ENERGY_CLEAR, O.CHG_PHASE,
   O.V_OUT, O.I_OUT, O.DAB_PHI, O.I_OUT_REF, O.CHG_LIMIT_CAUSE, O.I_PRI, O.GRID_STATUS, O.COMMIT_29FF]

def objs09a : List Obj :=
  [O.AUTO_RESUME, O.SAFE_STATE_ACT, O.PRELOAD_CHOICE, O.SAFE_CAUSE, O.SS_N_ASC, O.SS_N_FW, O.ASC_SIDE, O.N_ASC_EFF, O.N_FW_EFF, O.E_RATIO,
   O.TQ_TOL_ABS, O.TQ_TOL_REL, O.TQ_FILT, O.ENV_HOLD, O.ENV_ASC_TQ, O.N_MAX_SAFE, O.N_FILT_H, O.T_HELMET, O.T_BAND_HI, O.T_BAND_LO, O.N_HELMET,
   O.HLM_STATUS, O.TQ_ERR_ACC, O.CLAMP_ON, O.CLAMP_OFF, O.OV2, O.CLAMP_RISE_MAX, O.CLAMP_CHECK_T, O.CLAMP_STATE, O.CLAMP_ON_COUNT, O.DISCH_CMD,
   O.DISCH_PATH, O.DISCH_C, O.CLAMP_R, O.DISCH_TARGET, O.DISCH_T_MAX, O.DISCH_I, O.DISCH_N_MAX, O.DISCH_ON_EOFF, O.DISCH_STATE, O.DISCH_TIME,
   O.DEG_MODES, O.DEG_SENSORLESS_K, O.DEG_ILINE1_K, O.COMMIT_27FF, O.ACTIVE_CODE, O.ACTIVE_CLASS, O.PENDING_CODE, O.PENDING_CLASS, O.ESCALATIONS,
   O.RESET_EDGES, O.RESET_RESULT, O.REPORTED, O.LOG_FIRST, O.LOG_LAST, O.LOG_READ_SEQ, O.LOG_READ_COUNT, O.LOG_DATA, O.LOG_SUPPRESSED, O.LOG_CLEAR]

def objs10a : List Obj :=
  [O.SI_STATUS, O.SI_READY, O.TP_PERIOD, O.ENABLE, O.FILTER_2801, O.DISC_T, O.RESTART, O.SENSE_FIXED, O.SENSE_AUX, O.SI_STATE, O.CH_LEVEL,
   O.DEMAND_COUNT, O.CHATTER_COUNT, O.HVIL_I_SET, O.HVIL_I_OUT, O.HVIL_I_RET, O.HVIL_CAUSE, O.RST_LEVEL, O.RST_LAST_WIDTH, O.RST_ACCEPTED,
   O.COMMIT_28FF]

def objs11a : List Obj :=
  [O.SRAM_CE_COUNT, O.SRAM_UE_COUNT, O.SCRUB_PASS_TIME, O.SCRUB_PASSES, O.MACRO_UNUSABLE, O.MAIN_SPARES_USED, O.LAST_CE_ADDR, O.LAST_UE_ADDR,
   O.NV_CE_COUNT, O.NV_UE_COUNT, O.NV_ERASE_MAX, O.PERS_KEYS, O.PERS_LOG_FREE, O.PERS_COMPACTIONS, O.SPENT_COUNT, O.PERS_SELECT, O.PERS_WRITES,
   O.PERS_TIME_MAX, O.DMA_ERRORS, O.MPU_VIOLATIONS, O.DMA_LAST_STOP, O.ST_STATE, O.ST_REQUEST, O.ST_ABORT, O.ROT_ENABLE, O.ROT_NEXT, O.ROT_SKIPPED,
   O.RESULT, O.SIGNATURE, O.CYCLES, O.EXPECTED_CYCLES, O.RUN_COUNT, O.FAIL_COUNT, O.LAST_TIME, O.DETAIL, O.COMMIT_2BFF]

def objs12a : List Obj :=
  [O.DEVICE_TYPE, O.VENDOR_ID, O.VENDOR_NAME, O.PART_NUMBER, O.PRODUCT_NAME, O.SILICON_STEP, O.SERIAL_NUMBER, O.LOT_CODE, O.DATE_CODE, O.FW_VERSION,
   O.FW_SLOT, O.BOOT_ROM_VERSION, O.HELMET_FW_VERSION, O.DICT_VERSION, O.OP_TIME, O.START_COUNT, O.MAX_REQUEST, O.MAX_PROC_DATA, O.RX_PROC_FRAMES,
   O.TX_PROC_FRAMES, O.CONTROL_WORD, O.CMD_SOURCE, O.CONFIG, O.CONFIG_ACTIVE, O.STATUS_WORD, O.DEV_STATE, O.PREV_STATE, O.STATE_TIME, O.LAST_REFUSAL,
   O.REQ_ACCEPTED, O.REQ_BUSY, O.REQ_ABORTED, O.REQ_DUPLICATE, O.PROC_REJECTED, O.BLOCK_ABORTS, O.BLOCK_W_KEY, O.BLOCK_W_DONE, O.BLOCK_W_TOTAL,
   O.BLOCK_R_KEY, O.BLOCK_IDLE_TMO, O.RX_COUNT, O.RX_ENTRY, O.TX_COUNT, O.TX_ENTRY, O.COMMIT_20FF]

def objs13a : List Obj :=
  [O.RX_BUF_SIZE, O.RX_BUF_COUNT, O.STAGING_SIZE, O.CAN_ROLE, O.NOM_BRP, O.NOM_TSEG1, O.NOM_TSEG2, O.NOM_SJW, O.DATA_BRP, O.DATA_TSEG1, O.DATA_TSEG2,
   O.DATA_SJW, O.BRS_ENABLE, O.TDC_OFFSET, O.SRV_RX_ID, O.SRV_TX_ID, O.TEC, O.REC, O.BUSOFF_COUNT, O.RX_OVERFLOW, O.AUTH_FAIL, O.HOST_CH,
   O.REDUNDANT_CH, O.HOST_TMO, O.HOST_CH_ACTIVE, O.PROC_PORT, O.PROC_ID, O.PROC_AUTH, O.TX_PORT, O.TX_ID, O.TX_CYCLE, O.TX_QUEUE, O.TX_AUTH,
   O.TX_REPLACED, O.ETH_ENABLE, O.ETH_IF, O.IP_ADDR, O.NETMASK, O.GATEWAY, O.MAC_ADDR, O.JUMBO, O.VLAN, O.LINK_STATE, O.PROC_DEST, O.RX_DISCARDED,
   O.TRACE_DEST_IP, O.TRACE_DEST_PORT, O.TRACE_DATAGRAMS, O.PTP_ENABLE, O.PTP_STATE, O.PTP_OFFSET, O.PTP_TIME, O.SPI_ENABLE, O.SPI_ERRORS,
   O.COMMIT_11FF, O.SPAN_NODE, O.SPAN_ROLE, O.NODES_EXPECTED, O.SPAN_RATE, O.SPAN_TMO]

def objs13b : List Obj :=
  [O.SPAN_PHASE, O.SYNC_STATE, O.SYNC_ERR, O.DIST_MODE, O.SHARE, O.WORKER_SAFE_ACT, O.PORT_STATE, O.PORT_AUTH_FAIL, O.LINK_DELAY, O.RING_STATE,
   O.W_CMD_MODE, O.W_TORQUE_CMD, O.W_SPEED_CMD, O.W_ASC_BRAKE_CMD, O.W_TQ_LIM_POS, O.W_TQ_LIM_NEG, O.W_CONTROL_WORD, O.W_SPEED_LIM_POS,
   O.W_SPEED_LIM_NEG, O.NODE_STATE, O.N_STATUS_WORD, O.N_TORQUE_EST, O.N_T_AVAIL_POS, O.N_T_AVAIL_NEG, O.N_SPEED, O.N_SAFE_STATE, O.N_ACTIVE_CODE,
   O.N_SERIAL, O.COMMIT_2CFF]

def objs14a : List Obj :=
  [O.LC_STATE, O.LC_REQUEST, O.DEBUG_STATE, O.DEV_PUBKEY, O.OEM_KEY_STATE, O.OEM_KEY_WRITE, O.OEM_KEY_REVOKE, O.VENDOR_REVOKED, O.KEY_BLOB,
   O.KEY_GEN, O.FW_PREFERRED, O.SLOT_STATE, O.SLOT_VERSION, O.SLOT_ROLLBACK, O.ROLLBACK_CTR, O.FW_CONFIRM, O.REJECT_REASON, O.FW_DATA,
   O.RECOVERY_DATA, O.PARAM_DATA, O.PARAM_STATE, O.PARAM_ACTIVATE, O.PARAM_SET_ID, O.PARAM_VERSION, O.MIN_PARAM_VERSION, O.PARAM_RESULT,
   O.SESSION_IDLE, O.AUTH_FAILS, O.SESSIONS_OPEN, O.SESSION_CLOSE]

/-- Every object the manual defines (R13: no other exists), by chapter. -/
def allObjs : List Obj :=
  objs03a ++ objs04a ++ objs04b ++ objs05a ++ objs05b ++ objs06a ++ objs06b ++ objs07a ++ objs07b ++ objs07c ++ objs08a ++ objs08b ++ objs09a ++ objs10a ++ objs11a ++ objs12a ++ objs13a ++ objs13b ++ objs14a

end Sys2Proof.Machine
end

