-- ==== Sys2Proof/Machine/DictState.lean ====
section
/-! DEFINITION. The plain data of the object dictionary, the service ports and the persistent-object log (chapters Object dictionary, Memories). -/

namespace Sys2Proof.Machine

/-- Values by key (index × 0x100 + subindex); an F32 is held as its 32 bits. Keys strictly rising. -/
abbrev Store := List (Nat × Int)

/-- Reply to a service request (R435): the reply data, or an abort code (Table 12.5). -/
inductive Reply | ok (data : List Byte) | abort (code : Nat)
  deriving DecidableEq, Repr

/-- Where a service request is answered to, and which. -/
structure ReqId where
  port : Port
  node : Fin 8
  cmd : Byte
  seq : Byte
  idx : Half
  sub : Byte
  /-- Receive-pool buffers the request holds until its reply (R439). -/
  bufs : Nat
  deriving DecidableEq, Repr

/-- Last request of a port and the reply it got (R436); none while the reply is outstanding. -/
structure LastReq where
  id : ReqId
  time : Nat
  reply : Option Reply
  deriving DecidableEq, Repr

/-- A COMMIT accepted and waiting for its boundary (R433): the values staged at its acceptance. -/
structure PendCommit where
  group : Nat
  req : ReqId
  vals : Store
  /-- Islands concerned (R141), those whose CFG_ACK is still to match, and those sent the set a second time. -/
  isls : List IslIx
  wait : List IslIx
  retried : List IslIx
  deriving DecidableEq, Repr

/-- A persistent write waiting to become durable (R409). -/
structure PendPersist where
  key : Nat
  val : Int
  /-- Replied to at durability; none for a write of the module's own. -/
  req : Option ReqId
  retried : Bool
  /-- Time of its acceptance, µs. -/
  since : Nat
  deriving DecidableEq, Repr

/-- The write transfer in progress (R441, R442). -/
structure BlockW where
  key : Nat
  port : Port
  handle : Byte
  total : Nat
  window : Nat
  /-- Bytes received, in order. -/
  data : List Byte
  /-- Bytes passed to the owner. -/
  done : Nat
  /-- BLOCK_W_WINDOW replies that wait for a free window buffer, oldest first. -/
  waiting : List ReqId
  /-- Window buffers in use, at most two. -/
  full : Nat
  /-- A BLOCK_W_END that waits until every byte has been passed on, with its CRC. -/
  ending : Option (ReqId × Word)
  /-- Segments discarded (R442). -/
  dropped : Nat
  deriving DecidableEq, Repr

/-- The read transfer in progress (R443). -/
structure BlockR where
  key : Nat
  port : Port
  handle : Byte
  /-- The content, fixed at the start. -/
  data : List Byte
  deriving DecidableEq, Repr

/-- One key of the persistent-object log (R408): the values of its committed records, newest first, its WRITES and the SEQ of the newest. -/
structure PersRec where
  key : Nat
  vals : List Int
  writes : Nat
  seq : Nat
  deriving DecidableEq, Repr

/-- Dictionary services. -/
structure Dict where
  last : List LastReq
  poolUsed : Nat
  /-- Port whose refused request holds freed buffers back (R440). -/
  busyHold : Option Port
  blockW : Option BlockW
  blockR : Option BlockR
  /-- Next transfer handle. -/
  nextHandle : Byte
  /-- Handles of transfers that ended as aborted (R444). -/
  deadHandles : List Byte
  commits : List PendCommit
  persist : List PendPersist
  /-- Receive process frames whose values take effect at the next solver step (R446). -/
  procVals : Store
  /-- Groups whose restored values failed the checks of their COMMIT (R434). -/
  badGroups : List Nat
  deriving DecidableEq, Repr

/-- What the module sends in answer to a command or on its own. -/
inductive Sent
  | reply (id : ReqId) (r : Reply)
  | rillys (n : IslIx) (type : BitVec 4) (seq : Half) (epoch : Byte) (token retry : Bool)
  | symbol (n : IslIx) (code : BitVec 3)
  | fastFault (n : IslIx) (code : BitVec 4)
  | relay (node : Fin 8) (id : ReqId)
  | can (c : Fin 4) (frame : CanFrame)
  | eth (kind : Nat) (ip : Word) (data : List Byte)
  | spi (data : List Byte)
  | span (port : Fin 2) (type dst fresh : Nat) (data : List Byte)
  | spanFwd (port : Fin 2) (type : Nat) (h : SpanHdr) (data : List Byte)
  | proc (p : Fin 8) (data : List Byte)
  | pulse (line : Nat)
  deriving DecidableEq, Repr

end Sys2Proof.Machine
end

