-- ==== Sys2Proof/Machine/FieldState.lean ====
section
/-! DEFINITION. The plain data of the field loop, solver, map store, correction layer and trace (chapter Field loop). -/

namespace Sys2Proof.Machine

/-- A reference set of the solver (R35): currents in A, inductances in µH, fluxes in Vs. -/
structure RefSet where
  id : Rat
  iq : Rat
  ldd : Rat
  lqq : Rat
  ldq : Rat
  psid : Rat
  psiq : Rat
  deriving DecidableEq, Repr

/-- Commanded high side of one leg within a control period: rise and fall, µs from its start. -/
structure Pulse where
  rise : Rat
  fall : Rat
  deriving DecidableEq, Repr

/-- One bridge of the Field Loop Engine and of the PWM timer unit. -/
structure Bridge where
  /-- Duties computed, loaded, and in force, U V W. -/
  next : Option (List Rat)
  shadow : Option (List Rat)
  duties : List Rat
  pulses : List Pulse
  last : List Pulse
  /-- The boundary that comes next is a carrier peak (double update). -/
  peak : Bool
  /-- The computation of the period runs. -/
  busy : Bool
  /-- Integrators, V (R255). -/
  xd : Rat
  xq : Rat
  id : Rat
  iq : Rat
  /-- Set before and after the last change, and control periods since (R256). -/
  from' : RefSet
  upTo : RefSet
  k : Nat
  /-- V_DC: periods without an input, since when both are usable, and the last 1 ms of values with their times (R258). -/
  vdcBad : Nat
  vdcFrom : Option Nat
  vdcHist : List (Nat × Rat)
  /-- Angle latched for the period, and its source's speed, 0.1 rpm (R203, R254). -/
  theta : Nat
  speed : Int
  valid : Bool
  /-- Overruns in succession, and periods loaded in time since FLE_OVERRUN (R252). -/
  overrun : Nat
  inTime : Nat
  /-- Differing results in succession (R20). -/
  differ : Nat
  /-- DPWM in force in MOD_MODE 1 (R262). -/
  dpwm : Bool
  /-- Zero vector of ASC braking: all high sides on when true. -/
  brake : Option Bool
  /-- LATE mark of the period (R36). -/
  late : Bool
  /-- Vector applied, V; integral of the zero-sequence current (Table 7.1). -/
  v : Rat × Rat
  z : Rat
  /-- Equal results in succession, for the leaving of FLE_MISMATCH (Table 9.3). -/
  equal : Nat
  /-- The control period has changed: no additional instants in this one (R169). -/
  newPeriod : Bool
  /-- Time that each leg's high side has been on without a refresh of its bootstrap supply, µs (R122). -/
  refresh : List Rat
  deriving DecidableEq, Repr

/-- ASC braking of a machine (R278, R279). -/
inductive Brake
  | off
  /-- The references move from (id, iq) towards (isc, 0) since a time, µs. -/
  | entry (since : Nat) (id iq isc : Rat)
  | on (high : Bool)
  /-- Ended on speed: waits for the command to be written 0. -/
  | spent
  deriving DecidableEq, Repr

/-- Solver and profile generator of one machine (R265..R282, R294). -/
structure Solver where
  /-- Torque generator output and rate; speed reference and its rate; PI integrator. -/
  x : Rat
  r : Rat
  n : Rat
  nr : Rat
  pi : Rat
  speedMode : Bool
  kv : Rat
  brake : Brake
  /-- Torque reference at the start of the timeout ramp and its start (R281). -/
  ramp : Option (Rat × Nat)
  /-- Set published and not yet taken by the FLE. -/
  pub : Option RefSet
  /-- Control periods since the last step, steps skipped and steps in time (R294). -/
  age : Nat
  skipped : Nat
  inTime : Nat
  extrapFrom : Option Nat
  /-- References of the last 10 ms began to hold at this time (R297). -/
  steadyFrom : Nat
  steady : Rat × Rat
  deriving DecidableEq, Repr

/-- One map bank of the NV die (R283, R289). -/
structure Bank where
  /-- BANK_STATE 0 empty, 1 loading, 2 verifying, 3 valid, 4 invalid. -/
  state : Nat
  set : Option MapSet
  /-- VERIFY_RESULT. -/
  result : Nat
  /-- Bytes of the image as downloaded (R284). -/
  image : List Byte
  deriving DecidableEq, Repr

/-- The saved correction layer (R299): SET_ID and the cells that are not 0. -/
structure CorrRec where
  setId : Nat
  cells : List (Nat × Int)
  deriving DecidableEq, Repr

/-- A trace record (Table 7.11). -/
structure TraceRec where
  period : Nat
  flags : Nat
  values : List Nat
  deriving DecidableEq, Repr

structure Trace where
  /-- Records of the ring, oldest first. -/
  ring : List TraceRec
  /-- Records still to be taken after the trigger. -/
  left : Nat
  /-- Boundaries since the last record. -/
  phase : Nat
  /-- Last value of the trigger slot. -/
  prev : Option Rat
  /-- A trigger has arrived since the last record. -/
  trig : Bool
  gap : Bool
  /-- Bytes read of TRACE_DATA. -/
  done : Nat
  /-- Slot values and flags at t_S of the present period (R302). -/
  snap : List Nat × Nat
  /-- Time of the last record dropped from the stream, µs (R305). -/
  dropAt : Option Nat
  /-- TRACE_CMD 3 has ended the recording (R303). -/
  stopped : Bool
  deriving DecidableEq, Repr

structure Field where
  /-- V_DC of each bridge, volts (R258). -/
  vdc : List Rat
  /-- MACHINE_TYPE of machines 0, 1 in the active set (Table 7.7). -/
  machineType : List Nat
  /-- Phase currents U, V, W of bridges 0 and 1 as the FLE last used them, A (R160, R164). -/
  iPhase : List Rat
  br : List Bridge
  mach : List Solver
  /-- FLE instances in service: 0 both, 1 FLE-A only, 2 FLE-B only (R20). -/
  fle : Nat
  /-- The active bank's verification of this start-up runs (R291). -/
  verifying : Bool
  /-- Cells of the correction layer that are not 0, by cell number (R296). -/
  corr : List (Nat × Int)
  /-- The snapshot that a save is writing (R299). -/
  saving : Option CorrRec
  trace : Trace
  deriving DecidableEq, Repr

end Sys2Proof.Machine
end

