-- ==== Sys2Proof/Machine/IslandState.lean ====
section
/-! DEFINITION. The plain data of one gate-drive island and of its end of the Rillys link (chapter Gate-drive islands and the Rillys link). -/

namespace Sys2Proof.Machine

/-- Phases of an output (Table 4.3). -/
inductive Phase | preOn | slopeOn | holdOn | preOff | slopeOff | holdOff
  deriving DecidableEq, Repr

/-- The part of an island's profile that a PRE phase still needs (R101): levels in 0.1 V and end modes. -/
structure Prof where
  preOn : Int
  platOn : Int
  preOff : Int
  platOff : Int
  endOn : Int
  endOff : Int
  deriving DecidableEq, Repr

/-- One gate output. -/
structure Out where
  phase : Phase
  /-- The turn-off in progress is a soft-off (R107). -/
  soft : Bool
  /-- Miller clamp engaged (R106). -/
  miller : Bool
  /-- Gate voltage last seen, 0.1 V. -/
  gate : Int
  /-- Consecutive SLOPE timeouts, on and off (R104). -/
  tmoOn : Nat
  tmoOff : Nat
  /-- Consecutive probes outside 0.2..50 Ω, on-intervals off value, and qualifying share failures (Table 4.11). -/
  probeBad : Nat
  vgBad : Nat
  shareBad : Nat
  /-- Classed as failed (R133), and isolated (R134). -/
  failed : Bool
  isolated : Bool
  /-- RG_INT of the last eight probes, newest first, mΩ (R132). -/
  probes : List Int
  probeDue : Bool
  probing : Bool
  /-- Edge time of the last transition seen, 0.1 ns (R112). -/
  edgeOn : Option Nat
  edgeOff : Option Nat
  /-- Balancer offsets: gate in 0.1 V, turn-on delay in 0.1 ns (R130). -/
  vgBal : Int
  tdBal : Int
  /-- Qualifying KTI results since the last balancer update, with their control periods (R129). -/
  ktiOn : List (Nat × Int)
  ktiOff : List (Nat × Int)
  /-- The set that the transition in progress began with, where another has been put in force since (R108). -/
  prof : Option Prof
  deriving DecidableEq, Repr

/-- CLAIM of an island (R115, R116); late: still waiting after ILK_TMO (R119). -/
inductive Claim | idle | window | waiting | late | granted | denied
  deriving DecidableEq, Repr

/-- What an island receives from one leg-partner island (R114, R119). -/
structure Partner where
  isl : IslIx
  offConf : Bool
  claim : Bool
  fresh : Bool
  deriving DecidableEq, Repr

/-- One direction of a Rillys link as its two ends hold it (R138, R139). -/
structure LinkDir where
  /-- SEQ the sender gives next, and SEQ last accepted by the receiver. -/
  txSeq : Half
  rxSeq : Half
  /-- SEQ and TYPE of the last frame sent that may be retried and is not yet acknowledged. -/
  unacked : Option (Half × BitVec 4)
  retried : Bool
  skip : BitVec 2
  deriving DecidableEq, Repr

/-- A set of staged values at the island: key and value. -/
abbrev CfgSet := List (Nat × Int)

/-- One island (R96..R147). -/
structure Island where
  /-- Transformer driven by the power management die. -/
  supplyOn : Bool
  /-- Isolated supply in window. -/
  powered : Bool
  bootstrap : Bool
  /-- VPOS_SET and VNEG_SET taken when the supply started, 0.1 V (R97). -/
  vposSet : Int
  vnegSet : Int
  bstLow : Bool
  uvlo : Bool
  trained : Bool
  linkOk : Bool
  verified : Bool
  /-- Verification step in progress, 1..10; 0 none (Table 4.16). -/
  step : Nat
  /-- Commanded level of the edge channel. -/
  cmd : Bool
  edgeOk : Bool
  heartbeat : Bool
  permit : Bool
  token : Bool
  /-- Time of the last accepted frame that carried the token, µs (R27). -/
  tokenAt : Nat
  epoch : Byte
  /-- The preload decides the outputs (rows 3..5 of Table 1.6). -/
  safeApplied : Bool
  preload : SafeCode
  preCount : BitVec 4
  preRejected : Nat
  preStale : Bool
  /-- DESAT reported on the fast-fault channel and not yet cleared. -/
  desatSent : Bool
  desatLatched : Bool
  stuckLatched : Bool
  claim : Claim
  /-- The claim waits for an ON symbol that follows an OFF (R116). -/
  barred : Bool
  offConf : Bool
  partners : List Partner
  outs : List Out
  /-- Control period in which an output was last isolated (R129). -/
  isoPeriod : Option Nat
  /-- The control die has received the verification test code (step 6). -/
  testSeen : Bool
  /-- Fast-fault codes pending, highest priority first (R127). -/
  ffPend : List (BitVec 4)
  /-- Island's staged set and the set it holds in force. -/
  staged : CfgSet
  applied : CfgSet
  /-- Application at the next MARK has been ordered (R141). -/
  applyNext : Bool
  /-- Additional sampling instants of the next period, ns (R169). -/
  offsets : List Nat
  /-- CD to island and island to CD. -/
  down : LinkDir
  up : LinkDir
  /-- Frames discarded in the present 1 ms window (R139). -/
  discards : Nat
  /-- Frame types waiting to be sent by the control die and by the island, highest priority first (Table 4.14). -/
  downQ : List (BitVec 4)
  upQ : List (BitVec 4)
  /-- TELEM frames missing in succession (R261). -/
  telemMissed : Nat
  /-- RESULT words waiting to be sent (R170). -/
  results : List DWord
  deriving DecidableEq, Repr

end Sys2Proof.Machine
end

