-- ==== Sys2Proof/Machine/MemoryState.lean ====
section
/-! DEFINITION. The plain data of the SRAM, the DMA and the self-test engine (chapter Memories, DMA and self-test). -/

namespace Sys2Proof.Machine

/-- One DMA channel (R413): the descriptor in hand while it runs, the bytes written, and the STATUS of its last end. -/
structure DmaChan where
  run : Bool
  desc : Option DmaDesc
  done : Nat
  status : Nat
  /-- DMA_ERROR has been reported and the next descriptor has not completed. -/
  bad : Bool
  deriving DecidableEq, Repr

/-- A test that runs: its number, whether it was requested, and the March blocks done (R425). -/
structure TestRun where
  t : Nat
  onRequest : Bool
  blocks : Nat
  deriving DecidableEq, Repr

/-- SRAM, DMA channels and self-test. -/
structure Memory where
  /-- SRAM bytes that differ from the 0 of the clearing (R404), addresses rising; macro m begins at m × 256 KiB (assumption 26). -/
  cells : List Host.Cell
  dma : List DmaChan
  test : Option TestRun
  /-- Time at which each test last passed, µs (R421). -/
  passAt : List (Nat × Nat)
  /-- Tests whose FAIL is final until the next start-up (R426). -/
  failed : List Nat
  /-- Link controller that the spare serves, and comparator that the shadow serves, until the next start-up (R426). -/
  linkSpare : Option Nat
  shadow : Option Nat
  /-- Correction cells frozen by an uncorrectable word (R402, Table 11.1). -/
  frozen : List Nat
  /-- Words the scrubber has read in its present pass, and the time the pass began, µs (R403). -/
  scrubbed : Nat
  scrubFrom : Nat
  /-- Operation that the NV interface serves, none while it idles (R407). -/
  serving : Option NvKind
  deriving DecidableEq, Repr

end Sys2Proof.Machine
end

