-- ==== Sys2Proof/Machine/NetworkState.lean ====
section
/-! DEFINITION. The plain data of the networks and the Span link (chapter Networks and the Span hierarchy). -/

namespace Sys2Proof.Machine

/-- A frame in a CAN transmit queue; the transmit process frame it is an instance of, none for a service reply. -/
structure CanOut where
  frame : CanFrame
  proc : Option Nat
  deriving DecidableEq, Repr

/-- One CAN channel (R463..R471). -/
structure CanChan where
  /-- Transmit queues in their order of priority (R467). -/
  safety : List CanOut
  process : List CanOut
  service : List CanOut
  /-- Replies that found SERVICE full, in their pool buffers. -/
  held : List (ReqId × CanOut)
  /-- Queue of the frame on the bus: 0 SAFETY, 1 PROCESS, 2 SERVICE; none while the bus is idle for this channel. -/
  sending : Option Nat
  busOff : Bool
  /-- Times of the bus-off events of the last 10 s, µs (R471). -/
  offAt : List Nat
  /-- Time of the last accepted frame, µs. -/
  lastRx : Nat
  /-- Queued frames discarded at bus-off (R470). -/
  lost : Nat
  deriving DecidableEq, Repr

/-- One Span port (R483, R486, R492). -/
structure SpanPort where
  up : Bool
  upFrom : Nat
  /-- Times of authentication failures of the last 1 s, µs. -/
  fails : List Nat
  quarantined : Bool
  deriving DecidableEq, Repr

/-- The session with another node (R484, R485). -/
structure SpanPeer where
  joined : Bool
  /-- Nm of the session or of the join that runs. -/
  nonceM : Option DWord
  nonceW : DWord
  /-- Highest FRESH accepted from it, and the accepted ones in the 64-frame window below it. -/
  high : Nat
  seen : List Nat
  /-- FRESH of the last frame sent to it. -/
  tx : Nat
  /-- Time of the last STATUS accepted from it, µs. -/
  last : Nat
  deriving DecidableEq, Repr

structure Net where
  can : List CanChan
  /-- The redundant channel has taken over; the failed channel is in role 3 until the next start-up (R471). -/
  failedCh : Option Nat
  /-- The redundant channel that takes over at the next control-period boundary (R471). -/
  takeover : Option Nat
  /-- The redundant channel has received host identifiers since the host channel's last frame. -/
  redundantHeard : Bool
  /-- Freshness counters by identifier: last accepted and last sent (R466). -/
  rxCtr : List (Nat × Nat)
  txCtr : List (Nat × Nat)
  /-- Latest sample of each transmit process frame, and of its next one waiting for its boundary (R447, R465). -/
  samples : List (List Byte)
  /-- Replies pending on the SPI port, oldest first, and LAST_CRC_ERR (R478, R479). -/
  spiQ : List (ReqId × Reply)
  spiBad : Bool
  /-- Addresses resolved, and datagrams that wait for their destination to be resolved (R473). -/
  arp : List Word
  arpWait : List (Word × Sent)
  /-- Relayed requests outstanding (R459, R460). -/
  relays : List (Nat × ReqId)
  /-- Sequence of trace datagrams (R476). -/
  traceSeq : Nat
  ports : List SpanPort
  /-- Sessions with nodes 0..7; the entry of the own node is unused. -/
  peers : List SpanPeer
  /-- The manager's ANNOUNCE nonce of this start-up, once drawn (R484), and its ANNOUNCE counter. -/
  nonceM : Option DWord
  annTx : Nat
  /-- Worker: time of the last accepted CYCLIC, µs; cycles within ±2 ns; cycles beyond 20 ns in RUN (R488). -/
  lastCyclic : Nat
  syncGood : Nat
  syncBad : Nat
  /-- Manager: SPAN cycles done, B0 boundaries since the last (R487). -/
  boundaries : Nat
  deriving DecidableEq, Repr

end Sys2Proof.Machine
end

