-- ==== Sys2Proof/Machine/SecurityState.lean ====
section
/-! DEFINITION. The plain data of security and life cycle (chapter Security and life cycle): one-time-programmable cells, firmware slots, parameter-set halves, sessions and challenges. -/

namespace Sys2Proof.Machine

/-- An OEM key slot (R501): OEM_KEY_STATE 0 empty, 1 valid, 2 revoked, and the hash. -/
structure OemKey where
  state : Nat
  hash : List Byte
  deriving DecidableEq, Repr

/-- One-time-programmable cells (Tables 14.1, 14.3). -/
structure Otp where
  /-- LC_STATE (Table 14.1). -/
  lc : Nat
  oem : List OemKey
  /-- Bit 0 V0, bit 1 V1. -/
  vendorRevoked : Nat
  /-- Generations programmed of K_PROC and K_RING. -/
  procGen : Nat
  ringGen : Nat
  /-- Rollback counter, 0..64. -/
  rollback : Nat
  /-- Device identity key pair present. -/
  identity : Bool
  /-- R499 has overwritten the keys. -/
  destroyed : Bool
  deriving DecidableEq, Repr

/-- What the module knows of a firmware slot (R503, R509). -/
structure SlotRec where
  /-- SLOT_STATE: 0 empty, 1 loading, 2 verifying, 3 valid, 4 invalid, 5 running. -/
  state : Nat
  version : Word
  rollback : Nat
  keyIndex : Nat
  deriving DecidableEq, Repr

/-- One half of the parameter-set area (R511). -/
structure ParamHalf where
  /-- PARAM_STATE. -/
  state : Nat
  set : Option ParamSet
  /-- Sequence number of its activation record; 0 none. -/
  seq : Nat
  deriving DecidableEq, Repr

/-- The parts of this chapter that no reset clears. -/
structure SecNv where
  otp : Otp
  slotA : SlotRec
  slotB : SlotRec
  slotR : SlotRec
  half0 : ParamHalf
  half1 : ParamHalf
  deriving DecidableEq, Repr

/-- An open session (R513): its scope, handle, level and last use, µs. -/
structure Session where
  port : Port
  handle : Byte
  level : Lvl
  last : Nat
  deriving DecidableEq, Repr

/-- A challenge given and not yet answered (R513). -/
structure Challenge where
  port : Port
  handle : Byte
  level : Lvl
  nonce : List Byte
  time : Nat
  r : Option (List Byte)
  deriving DecidableEq, Repr

structure Security where
  sessions : List Session
  challenges : List Challenge
  /-- Next handle, 1..255. -/
  nextHandle : Byte
  /-- Failed responses: scope and time, µs (R514). -/
  fails : List (Port × Nat)
  /-- Locked scopes and the start of the lockout, µs. -/
  locked : List (Port × Nat)
  /-- Session that set SERVICE (Table 12.9). -/
  serviceHandle : Option Byte
  /-- The TRNG fails its health tests (R514). -/
  trngBad : Bool
  /-- Firmware slot running; none before a slot is accepted. -/
  running : Option FwSlot
  /-- Slots rejected in this start-up, in order, with their reason (R504). -/
  rejects : List (FwSlot × Nat)
  /-- SCOPE of the parameter set applied at start-up (R512). -/
  appliedScope : Option Nat
  /-- Instruction in force in the TAP (R515). -/
  tap : TapInstr
  deriving DecidableEq, Repr

end Sys2Proof.Machine
end

