-- ==== Sys2Proof/Machine/NvState.lean ====
section
/-! DEFINITION. What stands in the NV die and the one-time-programmable cells: kept by every reset and through a power loss. -/

namespace Sys2Proof.Machine

structure Nv where
  sec : SecNv
  /-- The persistent-object log: the committed records of each key (R408). -/
  persist : List PersRec
  /-- Next log sequence number (Table 11.4). -/
  persistSeq : Nat
  /-- Highest sector erase count of the persistent-object log (0x2B08:03). -/
  eraseMax : Nat
  /-- Operating time of its last save, µs (R408). -/
  opTime : Nat
  /-- Map banks MB-A, MB-B; the active one (R283, R290). -/
  banks : List Bank
  activeBank : Option Nat
  /-- The saved correction layer (R299). -/
  corr : Option CorrRec
  deriving DecidableEq, Repr

end Sys2Proof.Machine
end

