-- ==== Sys2Proof/Machine/PositionState.lean ====
section
/-! DEFINITION. The plain data of the position interfaces and channels (chapter Rotor position and speed). -/

namespace Sys2Proof.Machine

/-- The ABZ encoder (R206..R211): counts unwrapped; single-turn values are taken modulo CPR. -/
structure Enc where
  a : Bool
  b : Bool
  c : Int
  r : Int
  neg : Bool
  /-- r at the illegal transitions and large index deviations that still count (R209). -/
  bad : List Int
  uncertain : Bool
  agree : Nat
  referenced : Bool
  /-- r at the last index (R210). -/
  indexAt : Option Int
  missing : Bool
  failed : Bool
  /-- Electrical angle at r = 0 from a standstill start or a catch (R211). -/
  zero : Option Nat
  deriving DecidableEq, Repr

/-- The Hall switches (R212..R214). -/
structure Hall where
  sector : Option Nat
  /-- Angle set at the last valid change, and its time, µs. -/
  angle : Nat
  at' : Nat
  neg : Bool
  changes : Nat
  /-- Change counts at the illegal events. -/
  bad : List Nat
  failed : Bool
  deriving DecidableEq, Repr

structure Resolver where
  theta : Nat
  /-- Consecutive checks with the amplitude, and periods with the tracking error, out of limits (R217). -/
  ampRun : Nat
  trackRun : Nat
  valid : Bool
  failed : Bool
  deriving DecidableEq, Repr

/-- A SENT or SSI input: position field as an angle, its time, and runs of good and bad frames. -/
structure SerialSensor where
  theta : Option Nat
  at' : Nat
  lastCal : Option Nat
  good : Nat
  bad : Nat
  failed : Bool
  deriving DecidableEq, Repr

/-- Start of a channel (R225, R233). -/
inductive StartPhase
  | none
  | standstill
  /-- Catch pulses from FREEWHEEL: the angles found. -/
  | pulses (angles : List Nat)
  /-- The estimator runs towards its 20 ms, since a time in µs. -/
  | follow (since : Nat) (standstill : Bool)
  /-- Failed; the next attempt is due. -/
  | again
  deriving DecidableEq, Repr

/-- Which source carries a channel in a fallback (R229, R231). -/
inductive Fallback | none | sensor | sensorless
  deriving DecidableEq, Repr

structure PosChan where
  /-- The estimator holds an angle. -/
  est : Bool
  /-- Consecutive periods of the condition of R229, and its last good angle and speed. -/
  lostRun : Nat
  obsLost : Bool
  goodTheta : Nat
  goodSpeed : Int
  /-- Periods (as time, µs) since when the estimator has stayed within its limits. -/
  goodFrom : Nat
  fallback : Fallback
  start : StartPhase
  /-- Times of catch attempts (R234), µs. -/
  tries : List Nat
  /-- Periods in succession beyond PLAUS_TOL, and since when the angles agree (R232). -/
  apart : Nat
  agreeFrom : Option Nat
  /-- An ALIGN_CMD runs (R202): its request. -/
  aligning : Option ReqId
  deriving DecidableEq, Repr

/-- The output counter of encoder emulation (R236). -/
structure Enco where
  q : Int
  out : Int
  at' : Nat
  lagging : Bool
  deriving DecidableEq, Repr

/-- One position compare (R237, R238): position last evaluated, multi-turn. -/
structure Pcmp where
  last : Int
  fired : Bool
  behind : Bool
  /-- A BEHIND value of FIRE_IF_PASSED = 1 fires at the next evaluation. -/
  due : Bool
  deriving DecidableEq, Repr

structure Position where
  enc : Enc
  hall : Hall
  res : Resolver
  sent : List SerialSensor
  ssi : SerialSensor
  chans : List PosChan
  enco : Enco
  pcmp : List Pcmp
  deriving DecidableEq, Repr

end Sys2Proof.Machine
end

