-- ==== Sys2Proof/Machine/SafetyInputState.lean ====
section
/-! DEFINITION. The plain data of the safety input evaluators (chapter Safety input evaluators). Times are counted in samples of 10 µs. -/

namespace Sys2Proof.Machine

/-- One channel: raw and filtered level, samples the raw level has held, sample numbers of its recent raw changes, chatter, and the sample up to which it is masked (R381, R385, R386). -/
structure SiChan where
  raw : Bool
  filt : Bool
  held : Nat
  changes : List Nat
  chatter : Bool
  maskTo : Nat
  deriving DecidableEq, Repr

/-- Progress of a reported discrepancy towards leaving (R383). -/
inductive Disc | none | waitFull | waitNormal
  deriving DecidableEq, Repr

/-- One evaluator (R382..R389). -/
structure Evaluator where
  a : SiChan
  b : SiChan
  /-- In start-up demand (R388). -/
  startup : Bool
  /-- A start-up or complete test has passed since the start-up demand began. -/
  tested : Bool
  /-- A test failed, and the code is still held; a complete test has passed since. -/
  failed : Bool
  repaired : Bool
  /-- Its demand code is posted (R389). -/
  posted : Bool
  /-- Sample since which the pair shows neither pattern. -/
  oddFrom : Option Nat
  disc : Disc
  deriving DecidableEq, Repr

structure SafetyIn where
  evs : List Evaluator
  /-- Samples taken. -/
  n : Nat
  /-- Levels that the last HVIL cycle gave channels A and B (R384). -/
  hvA : Bool
  hvB : Bool
  /-- SAFE_RST: raw level, samples it has held; the present pulse cannot be accepted (R391). -/
  rstRaw : Bool
  rstHeld : Nat
  rstBad : Bool
  /-- The test pulse that runs: false TP_A, true TP_B. -/
  pulse : Option Bool
  /-- Evaluators changed by a COMMIT whose repeated start-up test is still to end (R397). -/
  retest : List Nat
  deriving DecidableEq, Repr

end Sys2Proof.Machine
end

