-- ==== Sys2Proof/Machine/SensingState.lean ====
section
/-! DEFINITION. The plain data of the sensing blocks (chapter Sensing): conversions pending on each SARU, over-range recovery, calibrations, in-line sensors, the samples of the present period, the shunt plan, ICU sequences and the references. Results and counts stand in their objects. -/

namespace Sys2Proof.Machine

/-- A conversion asked of a SARU: its injected group and entry (none: the regular sequence), the input, the low 8 bits of the period count at its trigger, and whether the twin makes it. -/
structure Job where
  grp : Option (Nat × Nat)
  ain : Nat
  tag : Nat
  twin : Bool
  deriving DecidableEq, Repr

structure Saru where
  /-- Injected conversions pending, in order. -/
  jobs : List Job
  /-- Regular entry in progress or next (R158). -/
  reg : Option Nat
  /-- Conversions that still carry SUSPECT after an over range (R185). -/
  suspect : Nat
  calDue : Bool
  calRun : Bool
  /-- Its field-loop entries are moved to their twins (R183). -/
  moved : Bool
  deriving DecidableEq, Repr

/-- The converter of a low-side island (R169, R181, R185). -/
structure IslConv where
  suspect : Nat
  calDue : Bool
  calRun : Bool
  aborts : Nat
  /-- Failed its calibration (R184). -/
  bad : Bool
  /-- Band initialisation of the upper and lower DC-link level (R173). -/
  hiInit : Bool
  loInit : Bool
  deriving DecidableEq, Repr

/-- One in-line sensor: consecutive field-loop results with OVR, with REF_UNSET, periods off the shunt value, late periods (R160, R163). -/
structure Iline where
  ovr : Nat
  unset : Nat
  diff : Nat
  late : Nat
  lost : Bool
  /-- A result has arrived in the present period. -/
  fresh : Bool
  deriving DecidableEq, Repr

/-- A RESULT word received in the present period (R170): sampling instant, shunt current in mA, LOW_ON, and both results usable. -/
structure IslSample where
  inst : Nat
  ma : Rat
  lowOn : Bool
  shOk : Bool
  vdcOk : Bool
  volts : Rat
  deriving DecidableEq, Repr

/-- A sum sample planned in a period (R166): instant, phase and sign. -/
structure SumPlan where
  at' : Rat
  phase : Nat
  neg : Bool
  deriving DecidableEq, Repr

/-- The sampling plan of a bridge for the present period (R165, R167): phases with a valid leg sample by command, sum samples, and the shifted phase. -/
structure ShuntPlan where
  legs : List Nat
  sums : List SumPlan
  method : Nat
  deriving DecidableEq, Repr

/-- Runs of R168 of one bridge: consecutive method-0 periods, periods over SUM_TOL, and periods within it. -/
structure ShuntRun where
  zero : Nat
  tooMuch : Nat
  good : Nat
  deriving DecidableEq, Repr

/-- Sequence of an ICU: entry in progress, and marks its next results carry (R175, R186). -/
structure Icu where
  entry : Nat
  suspect : Bool
  deriving DecidableEq, Repr

structure Sense where
  saru : List Saru
  conv : List IslConv
  iline : List Iline
  /-- Per low-side island ISL(2k+1): samples of the period; late periods in succession, and on time since SNS_LATE. -/
  smp : List (List IslSample)
  lateRun : List Nat
  onTime : Nat
  plan : List ShuntPlan
  runs : List ShuntRun
  icu : List Icu
  /-- Each reference has been settled since it was selected (R180). -/
  hadRef : List Bool
  deriving DecidableEq, Repr

end Sys2Proof.Machine
end

