-- ==== Sys2Proof/Machine/State.lean ====
section
/-! DEFINITION. The state of the block, its faults and refusals, and the state after reset. -/

namespace Sys2Proof.Machine

/-- Stops for behaviour to which the manual gives no effect. -/
inductive Fault
  /-- VIN above 45 V (R71: behaviour not specified). Raised by VIN_HIGH_RISE; safe. -/
  | vinBeyondLimit
  deriving DecidableEq, Repr

inductive Refusal
  /-- A command whose meaning is not modelled yet. -/
  | notModelled (mnemonic : String)
  deriving DecidableEq, Repr

structure State where
  pending : List Instr
  /-- Time since the model's start, µs (assumption 1). -/
  now : Nat
  /-- Count of free values drawn (assumption 7). -/
  freeIx : Nat
  /-- Operating time, µs, kept across power cycles (Table 9.9). -/
  opTime : Nat
  /-- Values in force and status values that differ from their defaults. -/
  vals : Store
  /-- Staged values of groups (R433). -/
  staged : Store
  pins : Pins
  sup : Supply
  sys : Sys
  coll : Coll
  log : EventLog
  hlm : Helmet
  clamps : List Clamp
  disch : Disch
  isl : List Island
  dict : Dict
  chg : Charger
  cmdT : CmdTimer
  fl : Field
  sense : Sense
  pos : Position
  si : SafetyIn
  sec : Security
  nv : Nv
  mem : Memory
  net : Net
  /-- What the last command that sends has sent. -/
  out : List Sent
  deriving DecidableEq, Repr

def State.resetPins : Pins := ⟨true, false, 0, 0, false, false⟩

def State.resetPair : PairState := ⟨false, false, 0, false, none⟩

def State.resetSys : Sys :=
  { dev := .boot, prev := .off, since := 0, back := .standby, m0 := State.resetPair, m1 := State.resetPair,
    supervisor := .m0, lastPairLost := false, epoch := 0, tokenOn := false, runPending := false,
    standbySeen := false, flying := false }

/-- Just after VIN has risen through VIN_VALID+: the first start-up attempt runs (R83; assumption 2). -/
def State.resetSupply : Supply :=
  { vinUp := true, vinValid := true, vinHi := false, vinWarn := false, hold := ⟨false, false, false, false⟩, attempting := true, attemptFailed := none,
    xtalMissed := false, startAt := 0, clockDev := [], clearing := false, romRunning := false, m1Released := false,
    slotsLeft := [], selftestDone := false, readyPhase := .idle, readyFrom := 0, keepSupplies := false,
    releaseFrom := none, entering := none, asleep := 0, thermal := false, thermLatch := false, thermLog := false, fallAt := 0, tempOk := [], tempFailed := [] }

def State.resetColl : Coll := ⟨none, none, false, [], [], [], [], none⟩

def State.resetHlmMachine : HlmMachine := ⟨true, [], [], none, false, false, 0, false, 0, 0, none, (0, 0)⟩

def State.resetHelmet : Helmet :=
  { permit := false, heartbeat := false, stopped := false, choice := .freewheel, forcedAsc := false, evaluated := false,
    machines := [State.resetHlmMachine, State.resetHlmMachine], stepCount := 0, mainSaw := 0, mailCount := 0,
    mailTorque := 0, mailSaw := 0, mailStale := 0, vdcDiff := [none, none], ascCheck := false, ascGivenUp := false,
    mapsOk := false, catchPermit := false, psiPM := [0, 0], preCount := 0 }

def State.resetClamp : Clamp := ⟨false, false, false, []⟩

def State.resetDisch : Disch := ⟨false, false, false, false, false, false, 0, 0, 0, false, false⟩

/-- An output held off by its clamp at COM. -/
def State.resetOut : Out := ⟨.holdOff, false, true, 0, 0, 0, 0, 0, 0, false, false, [], false, false, none, none, 0, 0, [], [], none⟩

def State.resetDir : LinkDir := ⟨0, 0, none, false, 0⟩

def State.resetIsland : Island :=
  { supplyOn := false, powered := false, bootstrap := false, vposSet := 180, vnegSet := -40, bstLow := false, uvlo := false, trained := false,
    linkOk := false, verified := false, step := 0, cmd := false, edgeOk := false, heartbeat := false, permit := false,
    token := false, tokenAt := 0, epoch := 0, safeApplied := false, preload := .freewheel, preCount := 0, preRejected := 0,
    preStale := false, desatSent := false, desatLatched := false, stuckLatched := false, claim := .idle,
    barred := false, offConf := false, partners := [],
    outs := [State.resetOut, State.resetOut, State.resetOut, State.resetOut], isoPeriod := none, testSeen := false, ffPend := [], staged := [], applied := [],
    applyNext := false, offsets := [], down := State.resetDir, up := State.resetDir, discards := 0, downQ := [], upQ := [],
    telemMissed := 0, results := [] }

def State.resetIslands : List Island :=
  [State.resetIsland, State.resetIsland, State.resetIsland, State.resetIsland, State.resetIsland, State.resetIsland,
   State.resetIsland, State.resetIsland, State.resetIsland, State.resetIsland, State.resetIsland, State.resetIsland]

def State.resetCharger : Charger :=
  { theta := 0, vd := 0, vq := 0, errRun := 0, lossRun := 0, ovRun := 0, ocRun := 0, lowRun := [0, 0, 0], highRun := [0, 0, 0],
    freqFrom := none, revFrom := none, gridGood := false, x := 0, xi := 0, cv := 0, matchI := 0, iOutRef := 0, phi := 0,
    phiAct := 0, idRef := 0, iqRef := 0, rampRef := 0, rampFrom := 0,
    checks := [none, none, none, none, none, none, none, none], stop := .none, stopPhase := 0, blockRelays := false,
    matchFrom := none, vRms := [0, 0, 0], iRms := [0, 0, 0], pOut := [0, 0, 0], oV := [0, 0, 0], meanV := [0, 0, 0],
    rmsV := [0, 0, 0], energyIn := 0, energyOut := 0, tmo := none }

def State.resetRefs : RefSet := ⟨0, 0, 0, 0, 0, 0, 0⟩

def State.resetBridge : Bridge :=
  { next := none, shadow := none, duties := [0, 0, 0], pulses := [⟨0, 0⟩, ⟨0, 0⟩, ⟨0, 0⟩], last := [⟨0, 0⟩, ⟨0, 0⟩, ⟨0, 0⟩],
    peak := false, busy := false, xd := 0, xq := 0, id := 0, iq := 0, from' := State.resetRefs, upTo := State.resetRefs, k := 0,
    vdcBad := 0, vdcFrom := none, vdcHist := [], theta := 0, speed := 0, valid := false, overrun := 0, inTime := 0, differ := 0,
    dpwm := false, brake := none, late := false, v := (0, 0), z := 0, equal := 0, newPeriod := false, refresh := [0, 0, 0] }

def State.resetSolver : Solver :=
  { x := 0, r := 0, n := 0, nr := 0, pi := 0, speedMode := false, kv := 1, brake := .off, ramp := none, pub := none, age := 0,
    skipped := 0, inTime := 0, extrapFrom := none, steadyFrom := 0, steady := (0, 0) }

def State.resetTrace : Trace := ⟨[], 0, 0, none, false, false, 0, ([], 0), none, false⟩

def State.resetField : Field :=
  { vdc := [0, 0], machineType := [0, 0], iPhase := [0, 0, 0, 0, 0, 0], br := [State.resetBridge, State.resetBridge],
    mach := [State.resetSolver, State.resetSolver], fle := 0, verifying := false, corr := [], saving := none, trace := State.resetTrace }

def State.resetSaru : Saru := ⟨[], none, 0, false, false, false⟩
def State.resetConv : IslConv := ⟨0, false, false, 0, false, true, true⟩
def State.resetIline : Iline := ⟨0, 0, 0, 0, false, false⟩
def State.resetPlan : ShuntPlan := ⟨[], [], 0⟩
def State.resetRun : ShuntRun := ⟨0, 0, 0⟩
def State.resetIcu : Icu := ⟨0, false⟩

def State.resetSense : Sense :=
  { saru := [State.resetSaru, State.resetSaru, State.resetSaru, State.resetSaru],
    conv := [State.resetConv, State.resetConv, State.resetConv, State.resetConv, State.resetConv, State.resetConv],
    iline := [State.resetIline, State.resetIline, State.resetIline, State.resetIline, State.resetIline, State.resetIline],
    smp := [[], [], [], [], [], []], lateRun := [0, 0, 0, 0, 0, 0], onTime := 0,
    plan := [State.resetPlan, State.resetPlan], runs := [State.resetRun, State.resetRun],
    icu := [State.resetIcu, State.resetIcu, State.resetIcu, State.resetIcu, State.resetIcu, State.resetIcu, State.resetIcu, State.resetIcu],
    hadRef := [false, false, false] }

def State.resetEnc : Enc := ⟨false, false, 0, 0, false, [], false, 0, false, none, false, false, none⟩
def State.resetHall : Hall := ⟨none, 0, 0, false, 0, [], false⟩
def State.resetSerial : SerialSensor := ⟨none, 0, none, 0, 0, false⟩
def State.resetChan : PosChan := ⟨false, 0, false, 0, 0, 0, .none, .none, [], 0, none, none⟩
def State.resetPcmp : Pcmp := ⟨0, false, false, false⟩

def State.resetPosition : Position :=
  { enc := State.resetEnc, hall := State.resetHall, res := ⟨0, 0, 0, false, false⟩, sent := [State.resetSerial, State.resetSerial],
    ssi := State.resetSerial, chans := [State.resetChan, State.resetChan], enco := ⟨0, 0, 0, false⟩,
    pcmp := [State.resetPcmp, State.resetPcmp, State.resetPcmp, State.resetPcmp] }

def State.resetSiChan : SiChan := ⟨false, false, 0, [], false, 0⟩
def State.resetEvaluator : Evaluator := ⟨State.resetSiChan, State.resetSiChan, true, false, false, false, false, none, .none⟩
def State.resetSafetyIn : SafetyIn :=
  ⟨[State.resetEvaluator, State.resetEvaluator, State.resetEvaluator, State.resetEvaluator], 0, false, false, false, 0, false, none, []⟩

def State.resetSecurity : Security :=
  { sessions := [], challenges := [], nextHandle := 1, fails := [], locked := [], serviceHandle := none, trngBad := false,
    running := none, rejects := [], appliedScope := none, tap := .idcode }

/-- The one-time-programmable cells as never programmed (assumption 13). -/
def State.resetOtp : Otp := ⟨0, [⟨0, []⟩, ⟨0, []⟩, ⟨0, []⟩, ⟨0, []⟩], 0, 0, 0, 0, false, false⟩

def State.resetNv : Nv :=
  { sec := ⟨State.resetOtp, ⟨0, 0, 0, 0⟩, ⟨0, 0, 0, 0⟩, ⟨0, 0, 0, 0⟩, ⟨0, none, 0⟩, ⟨0, none, 0⟩⟩,
    persist := [], persistSeq := 1, eraseMax := 0, opTime := 0,
    banks := [⟨0, none, 0, []⟩, ⟨0, none, 0, []⟩], activeBank := none, corr := none }

def State.resetDict : Dict := ⟨[], 0, none, none, none, 1, [], [], [], [], []⟩

def State.resetDma : DmaChan := ⟨false, none, 0, 0, false⟩

/-- SRAM after its clearing, no channel running, no test begun. -/
def State.resetMemory : Memory :=
  { cells := [], dma := [State.resetDma, State.resetDma, State.resetDma, State.resetDma, State.resetDma, State.resetDma, State.resetDma, State.resetDma,
                         State.resetDma, State.resetDma, State.resetDma, State.resetDma, State.resetDma, State.resetDma, State.resetDma, State.resetDma],
    test := none, passAt := [], failed := [], linkSpare := none, shadow := none, frozen := [], scrubbed := 0, scrubFrom := 0, serving := none }

def State.resetCan : CanChan := ⟨[], [], [], [], none, false, [], 0, 0⟩
def State.resetPort : SpanPort := ⟨false, 0, [], false⟩
def State.resetPeer : SpanPeer := ⟨false, none, 0, 0, [], 0, 0⟩

def State.resetNet : Net :=
  { can := [State.resetCan, State.resetCan, State.resetCan, State.resetCan], failedCh := none, takeover := none, redundantHeard := false, rxCtr := [], txCtr := [],
    samples := [[], [], [], [], [], [], [], []], spiQ := [], spiBad := false, arp := [], arpWait := [], relays := [], traceSeq := 0,
    ports := [State.resetPort, State.resetPort],
    peers := [State.resetPeer, State.resetPeer, State.resetPeer, State.resetPeer, State.resetPeer, State.resetPeer, State.resetPeer, State.resetPeer],
    nonceM := none, annTx := 0, lastCyclic := 0, syncGood := 0, syncBad := 0, boundaries := 0 }

/-- RESET_CAUSE reads POR after a power-on (Table 3.6); every other object stands at its default. -/
def State.resetVals : Store := [(0x2A1001, 1)]

def State.reset : State :=
  { pending := [], now := 0, freeIx := 0, opTime := 0, vals := State.resetVals, staged := [], pins := State.resetPins,
    sup := State.resetSupply, sys := State.resetSys, coll := State.resetColl, log := ⟨[], [], 1⟩, hlm := State.resetHelmet,
    clamps := [State.resetClamp, State.resetClamp], disch := State.resetDisch, isl := State.resetIslands,
    dict := State.resetDict, chg := State.resetCharger, cmdT := ⟨false, 0, false, false⟩, fl := State.resetField, sense := State.resetSense,
    pos := State.resetPosition, si := State.resetSafetyIn, sec := State.resetSecurity, nv := State.resetNv, mem := State.resetMemory, net := State.resetNet, out := [] }

end Sys2Proof.Machine
end

