-- ==== Sys2Proof/Machine/Operands.lean ====
section
/-! DEFINITION. Operand forms: units and rounding, binary32, the wire encodings of Table 12.1, the CRCs, and the decoding and range checks of dictionary values. -/

namespace Sys2Proof.Machine

/-- A value in whole units: itself, or one of its two neighbours (assumption 3). -/
def quantQ (x : Rat) : Int := if x.den = 1 then x.num else if Config.up x then x.floor + 1 else x.floor

/-- round(x) of the manual's formulas: the nearest whole number; a tie goes either way (assumption 3). -/
def roundQ (x : Rat) : Int :=
  let f := x.floor
  let d := x - f
  if d < 1 / 2 then f else if 1 / 2 < d then f + 1 else if Config.up x then f + 1 else f

/-- Quotient of the manual's formulas; by zero, a free value (assumption 5). -/
def divQ (x y : Rat) : Rat := if y = 0 then Config.divByZero x else x / y

/-- Exact value of a finite binary32 (Table 12.1). -/
def f32Val (b : Nat) : Rat :=
  let e : Nat := b / 2 ^ 23 % 256
  let m : Nat := b % 2 ^ 23
  let mag : Rat :=
    if e = 0 then mkRat m (2 ^ 149)
    else if 150 ≤ e then ((2 ^ 23 + m) * 2 ^ (e - 150) : Nat)
    else mkRat (2 ^ 23 + m : Nat) (2 ^ (150 - e))
  if b / 2 ^ 31 % 2 = 1 then -mag else mag

/-- NaN or an infinity: refused on write (Table 12.1). -/
def f32Bad (b : Nat) : Bool := b / 2 ^ 23 % 256 == 255

/-- Normal binary32 that holds an exact positive value n / 2^k, when one does. -/
def f32Exact (n k : Nat) : Option Nat :=
  let top := Nat.log2 n
  let exp := top + 127 - k
  if top + 127 ≤ k ∨ 255 ≤ exp then none
  else if top ≤ 23 then some (exp * 2 ^ 23 + (n * 2 ^ (23 - top) - 2 ^ 23))
  else if n % 2 ^ (top - 23) = 0 then some (exp * 2 ^ 23 + (n / 2 ^ (top - 23) - 2 ^ 23))
  else none

/-- The binary32 bits of a value: exact where one holds it, else a free value (assumption 4). -/
def f32Of (x : Rat) : Nat :=
  if x = 0 then 0
  else
    let k := Nat.log2 x.den
    if x.den = 2 ^ k then
      match f32Exact x.num.natAbs k with
      | some b => if x < 0 then b + 2 ^ 31 else b
      | none => (Config.roundF32 x).toNat
    else (Config.roundF32 x).toNat

/-- Little-endian bytes of a number. -/
def leBytes : Nat → Nat → List Byte
  | 0, _ => []
  | n + 1, v => BitVec.ofNat 8 v :: leBytes n (v / 256)

def leNat : List Byte → Nat
  | [] => 0
  | b :: bs => b.toNat + 256 * leNat bs

/-- One step of the reflected CRC-32 of IEEE 802.3 (R136). -/
def crc32Bit (c : Word) : Word := if c.getLsbD 0 then (c >>> 1) ^^^ 0xEDB88320#32 else c >>> 1

def crc32Byte (c : Word) (b : Byte) : Word :=
  crc32Bit (crc32Bit (crc32Bit (crc32Bit (crc32Bit (crc32Bit (crc32Bit (crc32Bit (c ^^^ b.setWidth 32))))))))

/-- CRC-32 of R136. -/
def crc32 (bs : List Byte) : Word := ~~~ (bs.foldl crc32Byte 0xFFFFFFFF#32)

/-- One step of the CRC-16 with polynomial 0x1021 (Table 9.9). -/
def crc16Bit (c : Half) : Half := if c.getMsbD 0 then (c <<< 1) ^^^ 0x1021#16 else c <<< 1

def crc16Byte (c : Half) (b : Byte) : Half :=
  crc16Bit (crc16Bit (crc16Bit (crc16Bit (crc16Bit (crc16Bit (crc16Bit (crc16Bit (c ^^^ (b.setWidth 16 <<< 8)))))))))

/-- CRC-16 of the event record: initial value 0xFFFF. -/
def crc16 (bs : List Byte) : Half := bs.foldl crc16Byte 0xFFFF#16

/-- Size of a value on the wire (Table 12.1). -/
def Ty.bytes : Ty → Nat
  | .bool | .u8 | .i8 => 1
  | .u16 | .i16 => 2
  | .u32 | .i32 | .f32 => 4
  | .u64 => 8
  | .str n => n
  | .domain m => m

def Ty.isDomain : Ty → Bool
  | .domain _ => true
  | _ => false

def Ty.signed : Ty → Bool
  | .i8 | .i16 | .i32 => true
  | _ => false

/-- Value that the data bytes of a type encode. -/
def Ty.decode (t : Ty) (bs : List Byte) : Int :=
  let n := leNat bs
  if t.signed ∧ 2 ^ (8 * t.bytes - 1) ≤ n then (n : Int) - 2 ^ (8 * t.bytes) else n

/-- Data bytes of a value (two's complement for the signed types). -/
def Ty.encode (t : Ty) (v : Int) : List Byte := leBytes t.bytes (v % 2 ^ (8 * t.bytes)).toNat

/-- A computed value as its object holds it: itself when the type can hold it, else a free value (assumption 6). -/
def Ty.fit (t : Ty) (v : Int) : Int :=
  let w := 8 * t.bytes
  let lo : Int := if t.signed then -(2 ^ (w - 1) : Nat) else 0
  let hi : Int := if t.signed then (2 ^ (w - 1) : Nat) - 1 else (2 ^ w : Nat) - 1
  if lo ≤ v ∧ v ≤ hi then v else lo + (Config.noFit v % 2 ^ w : Nat)

/-- Whether a decoded value is one that the type and the Unit/Range column accept (R430). -/
def Obj.accepts (o : Obj) (v : Int) : Bool :=
  match o.ty with
  | .bool => v == 0 || v == 1
  | .f32 => !f32Bad v.toNat && (o.rng.isEmpty || o.rng.any fun r => decide ((r.1 : Rat) ≤ f32Val v.toNat) && decide (f32Val v.toNat ≤ r.2))
  | _ => o.rng.isEmpty || o.rng.any fun r => decide (r.1 ≤ v) && decide (v ≤ r.2)

/-- Key (index × 0x100 + subindex) of place p of an object family. -/
def Obj.key (o : Obj) (p : Nat) : Nat := (o.idx + o.stride * (p / o.subs)) * 256 + o.sub + p % o.subs

/-- Default of place p (R11); 0 where the table gives none (assumption 11). -/
def Obj.dfltAt (o : Obj) (p : Nat) : Int :=
  match o.dflt with
  | [] => 0
  | [d] => d
  | l => if l.length = o.cnt then l.getD (p / o.subs) 0 else l.getD (p % o.subs) 0

/-- Place of a key within a family. -/
def Obj.place? (o : Obj) (key : Nat) : Option Nat :=
  let idx := key / 256
  let sub := key % 256
  if o.idx ≤ idx ∧ (idx - o.idx) % o.stride = 0 ∧ (idx - o.idx) / o.stride < o.cnt ∧ o.sub ≤ sub ∧ sub < o.sub + o.subs
  then some ((idx - o.idx) / o.stride * o.subs + (sub - o.sub)) else none

/-- The first object family of a list that holds a key, and the place in it. -/
def findIn : List Obj → Nat → Option (Obj × Nat)
  | [], _ => none
  | o :: os, k => match o.place? k with
    | some p => some (o, p)
    | none => findIn os k

/-- Records 0x2B40+t exist only for the tests of Table 11.7. -/
def testExists (t : Nat) : Bool :=
  decide (t ≤ 5) || (decide (8 ≤ t) && decide (t ≤ 11)) || (decide (16 ≤ t) && decide (t ≤ 0x1F)) ||
  (decide (0x20 ≤ t) && decide (t ≤ 0x2B)) || t == 0x30

/-- The object a key names, if the manual defines it (R13). -/
def findObj (key : Nat) : Option (Obj × Nat) :=
  if 0x2B4000 ≤ key ∧ key < 0x2B7100 ∧ testExists (key / 256 - 0x2B40) = false then none else findIn allObjs key

/-- Highest subindex of the record at an index, the value of its sub 0 (R429). -/
def highSub (idx : Nat) : Nat :=
  allObjs.foldl (fun m o =>
    if o.idx ≤ idx ∧ (idx - o.idx) % o.stride = 0 ∧ (idx - o.idx) / o.stride < o.cnt then max m (o.sub + o.subs - 1) else m) 0

/-- Entry of a store. -/
def Store.find? (st : Store) (k : Nat) : Option Int := List.lookup k st

/-- Store with k holding v, keys strictly rising. -/
def Store.put : Store → Nat → Int → Store
  | [], k, v => [(k, v)]
  | (a, x) :: t, k, v => if k < a then (k, v) :: (a, x) :: t else if k = a then (k, v) :: t else (a, x) :: Store.put t k v

def Store.drop (st : Store) (k : Nat) : Store := st.filter fun e => e.1 != k

/-- Bit i of a number. -/
def bit (v : Int) (i : Nat) : Bool := (v.toNat >>> i) % 2 == 1

/-- A number with bit i set to b. -/
def setBit (v : Int) (i : Nat) (b : Bool) : Int :=
  let n := v.toNat
  let cleared := n - ((n >>> i) % 2) * 2 ^ i
  if b then cleared + 2 ^ i else cleared

/-- Number whose bit i is the i-th Boolean. -/
def ofBits : List Bool → Nat
  | [] => 0
  | b :: bs => (if b then 1 else 0) + 2 * ofBits bs

def b2i (b : Bool) : Int := if b then 1 else 0

end Sys2Proof.Machine
end

