-- ==== Sys2Proof/Machine/Access.lean ====
section
/-! DEFINITION. Reading and writing the objects, islands and plain parts of State. -/

namespace Sys2Proof.Machine

/-- Value in force (or status value) of place p of an object family. -/
def State.get (s : State) (o : Obj) (p : Nat := 0) : Int := (s.vals.find? (o.key p)).getD (o.dfltAt p)

def State.getN (s : State) (o : Obj) (p : Nat := 0) : Nat := (s.get o p).toNat

def State.getB (s : State) (o : Obj) (p : Nat := 0) : Bool := s.get o p != 0

/-- Real value of an object: an F32 decoded, a number as it stands. -/
def State.getQ (s : State) (o : Obj) (p : Nat := 0) : Rat :=
  match o.ty with
  | .f32 => f32Val (s.get o p).toNat
  | _ => s.get o p

/-- The store with place p of a family holding v; a value at its default has no entry. -/
def putObj (st : Store) (o : Obj) (v : Int) (p : Nat) : Store :=
  if v = o.dfltAt p then st.drop (o.key p) else st.put (o.key p) v

def State.set (s : State) (o : Obj) (v : Int) (p : Nat := 0) : State := { s with vals := putObj s.vals o v p }

def State.setQ (s : State) (o : Obj) (x : Rat) (p : Nat := 0) : State :=
  match o.ty with
  | .f32 => s.set o (f32Of x) p
  | _ => s.set o (o.ty.fit (quantQ x)) p

/-- Next value of a counter of a given width; past its largest value, a free value (assumption 6). -/
def countNext (bits n : Nat) : Nat := if n + 1 < 2 ^ bits then n + 1 else Config.countOver n % 2 ^ bits

/-- Count one in a counter object. -/
def State.bump (s : State) (o : Obj) (p : Nat := 0) : State := s.set o (countNext (8 * o.ty.bytes) (s.getN o p)) p

/-- Value in force of a key, 0 for a key that names no object. -/
def State.getKey (s : State) (key : Nat) : Int :=
  match findObj key with
  | some (o, p) => s.get o p
  | none => 0

def State.setKey (s : State) (key : Nat) (v : Int) : State :=
  match findObj key with
  | some (o, p) => s.set o v p
  | none => s

/-- Put a list of values in force. -/
def State.setKeys (s : State) : List (Nat × Int) → State
  | [] => s
  | (k, v) :: t => (s.setKey k v).setKeys t

/-- Staged value of a group member, else the value in force (R433). -/
def State.getStaged (s : State) (o : Obj) (p : Nat := 0) : Int := (s.staged.find? (o.key p)).getD (s.get o p)

def State.getStagedQ (s : State) (o : Obj) (p : Nat := 0) : Rat :=
  match o.ty with
  | .f32 => f32Val (s.getStaged o p).toNat
  | _ => s.getStaged o p

/-- Configuration in force: 0 TRACTION-1, 1 TRACTION-2, 2 CHARGER, 255 none (R6). -/
def State.cfg (s : State) : Nat := s.getN O.CONFIG_ACTIVE

def State.traction (s : State) : Bool := s.cfg == 0 || s.cfg == 1
def State.charger (s : State) : Bool := s.cfg == 2

/-- Number of bridges that run machines (Table 0.1). -/
def State.bridges (s : State) : Nat := if s.cfg = 1 then 2 else 1

/-- Draw a free value: the next count. -/
def State.draw (s : State) : State := { s with freeIx := s.freeIx + 1 }

/-- Island n. -/
def State.island (s : State) (n : IslIx) : Island := s.isl.getD n.val State.resetIsland

def State.updIsl (s : State) (n : IslIx) (f : Island → Island) : State := { s with isl := s.isl.modify n.val f }

/-- Leg-partner islands (Tables 1.9 to 1.11): in TRACTION-1 the two siblings of the opposite position, else the neighbour. -/
def partnersOf (cfg : Nat) (n : IslIx) : List IslIx :=
  let opp : Nat → Nat := fun k => if k % 2 = 0 then k + 1 else k - 1
  if cfg = 0 then
    let a := opp (n.val % 6)
    [Fin.ofNat 12 a, Fin.ofNat 12 (a + 6)]
  else [Fin.ofNat 12 (opp n.val)]

/-- Islands of the switch position of island n: both siblings in TRACTION-1 (R37). -/
def siblingsOf (cfg : Nat) (n : IslIx) : List IslIx :=
  if cfg = 0 then [Fin.ofNat 12 (n.val % 6), Fin.ofNat 12 (n.val % 6 + 6)] else [n]

/-- Bridge of an island (R37..R40). -/
def bridgeOf (cfg : Nat) (n : IslIx) : Nat := if cfg = 1 ∧ 6 ≤ n.val then 1 else 0

def allIslands : List IslIx := [0, 1, 2, 3, 4, 5, 6, 7, 8, 9, 10, 11]

/-- Output k of the island carries a declared die (R41). -/
def State.declared (s : State) (n : IslIx) (k : Nat) : Bool := bit (s.get O.DIE_DECL n.val) k

/-- Bits of FUNC_DECL that exist on an island of this kind (Table 4.22). -/
def funcMask (n : IslIx) (v : Int) : Int :=
  let b := fun i => bit v i
  if n.low then ofBits [b 0, b 1, b 2, false, b 4, b 5, b 6, false]
  else ofBits [false, false, false, b 3, b 4, b 5, b 6, false]

/-- Function declared on an island: 0 SHUNT, 1 VDC, 2 CLMP, 3 BST, 4 DESAT, 5 NTC1, 6 NTC2 (Table 4.22). -/
def State.funcDecl (s : State) (n : IslIx) (f : Nat) : Bool := bit (funcMask n (s.get O.FUNC_DECL n.val)) f

/-- Value the persistent-object log holds for an object: of its newest committed record, else the default (R410). -/
def State.durable (s : State) (o : Obj) (p : Nat := 0) : Int :=
  match s.nv.persist.find? (fun r => r.key == o.key p) with
  | some r => r.vals.headD (o.dfltAt p)
  | none => o.dfltAt p

/-- What the module sends last. -/
def State.send (s : State) (x : List Sent) : State := { s with out := x }

/-- Time since t, µs. -/
def State.elapsed (s : State) (t : Nat) : Nat := s.now - t

end Sys2Proof.Machine
end

