-- ==== Sys2Proof/Machine/IslandOps.lean ====
section
/-! DEFINITION. What an island does with its outputs: the decision of Table 1.6, the phases of Table 4.3, the claim and its grant, and the codes it sends. -/

namespace Sys2Proof.Machine

/-- Gate levels of an island's profiles, 0.1 V (Table 4.3), with its rails. -/
structure Levels where
  preOn : Int
  platOn : Int
  preOff : Int
  platOff : Int
  vpos : Int
  vneg : Int

def State.levels (s : State) (n : IslIx) : Levels :=
  { preOn := s.get O.PRE_LEVEL_ON n.val, platOn := s.get O.PLAT_EXIT_ON n.val, preOff := s.get O.PRE_LEVEL_OFF n.val,
    platOff := s.get O.PLAT_EXIT_OFF n.val, vpos := (s.island n).vposSet,
    vneg := if (s.island n).bootstrap then -20 else (s.island n).vnegSet }

/-- Applied gate trim (R113), 0.1 V, and turn-on trim (R110), 0.1 ns, of output p for a balancer offset. -/
def State.vgApplied (s : State) (p : Nat) (off : Int) : Int := clampI (-10) 10 (s.get O.VG_TRIM p + off)
def State.tdApplied (s : State) (p : Nat) (off : Int) : Int := clampI (-400) 400 (s.get O.TD_ON p + off)

/-- The profile set in force of island n, as a PRE phase needs it (R101). -/
def State.profile (s : State) (n : IslIx) : Prof :=
  ⟨s.get O.PRE_LEVEL_ON n.val, s.get O.PLAT_EXIT_ON n.val, s.get O.PRE_LEVEL_OFF n.val, s.get O.PLAT_EXIT_OFF n.val,
   s.get O.PRE_END_ON n.val, s.get O.PRE_END_OFF n.val⟩

/-- An output in its PRE phase completes the transition with the set it began with (R108). -/
def Out.keepProf (q : Prof) (o : Out) : Out :=
  if (o.phase = .preOn ∨ o.phase = .preOff) ∧ o.prof = none then { o with prof := some q } else o

/-- New profile sets have been put in force over those of `old` (R108). -/
def profHook (old s : State) : State :=
  { s with isl := s.isl.mapIdx fun k i =>
      let n : IslIx := Fin.ofNat 12 k
      if old.profile n = s.profile n then i else { i with outs := i.outs.map (Out.keepProf (old.profile n)) } }

/-- Phase a turn-on starts at (R103). -/
def onPhase (l : Levels) (gate : Int) : Phase :=
  if l.platOn < gate then .holdOn else if l.preOn < gate then .slopeOn else .preOn

/-- Phase a turn-off starts at (R103; soft-off has no PRE phase, R107). -/
def offPhase (l : Levels) (soft : Bool) (gate : Int) : Phase :=
  if gate < l.platOff then .holdOff else if soft || decide (gate < l.preOff) then .slopeOff else .preOff

def Phase.isOn : Phase → Bool
  | .preOn | .slopeOn | .holdOn => true
  | _ => false

/-- Turn one output off (R105): leaves the phase in progress. -/
def Out.turnOff (l : Levels) (soft : Bool) (o : Out) : Out :=
  if o.phase.isOn then
    let ph := offPhase l soft o.gate
    { o with phase := ph, soft := soft, miller := ph == .holdOff, prof := none, gate := if ph = .holdOff then l.vneg else o.gate }
  else if soft && o.phase == .preOff then { o with phase := offPhase l true o.gate, soft := true, prof := none }
  else o

/-- Turn one output on; an output still turning off waits for HOLD-off (R105). -/
def Out.turnOn (l : Levels) (o : Out) : Out :=
  if o.phase = .holdOff then
    let ph := onPhase l o.gate
    { o with phase := ph, soft := false, miller := false, prof := none, probing := false, probeDue := o.probeDue || o.probing, gate := if ph = .holdOn then l.vpos else o.gate }
  else o

/-- The island's outputs are driven at all: supplied by its receiver or by its bootstrap capacitor. -/
def Island.live (i : Island) : Bool := i.powered || i.bootstrap

/-- A fault is latched in the island (row 5 of Table 1.6). -/
def Island.latched (i : Island) : Bool := i.desatLatched || i.stuckLatched

/-- Row of Table 1.6 that decides, row 2 (the claim) aside: 1, 3, 4, 5 or 6. Bootstrap supply without accepted frames counts as row 1 (R62). -/
def Island.row (i : Island) : Nat :=
  if i.uvlo || (i.bootstrap && !i.linkOk) then 1
  else if !i.permit then 3
  else if !i.token then 4
  else if i.latched then 5
  else 6

/-- Level the accepted preload gives the island (Table 4.15). -/
def SafeCode.level (c : SafeCode) (low : Bool) : Bool :=
  match c with
  | .ascLow => low
  | .ascHigh => !low
  | _ => false

/-- Level the deciding row asks for. -/
def Island.target (low : Bool) (i : Island) : Bool :=
  match i.row with
  | 1 => false
  | 6 => i.cmd
  | _ => i.preload.level low

def Island.allOff (l : Levels) (soft : Bool) (i : Island) : Island :=
  { i with outs := i.outs.map (Out.turnOff l soft), claim := if i.claim = .denied then .denied else .idle }

/-- Start the outputs of a granted island; undeclared and isolated outputs stay off (R41, R134). -/
def Island.start (l : Levels) (decl : Nat → Bool) (i : Island) : Island :=
  { i with outs := i.outs.mapIdx fun k o => if decl k && !o.isolated then o.turnOn l else o }

/-- Every partner shows OFF_CONF with its refresh (R114, R115); in TRACTION-1 none is claiming (R118). -/
def Island.partnersOff (t1 : Bool) (i : Island) : Bool :=
  i.partners.all fun p => p.offConf && p.fresh && !(t1 && p.claim)

/-- A partner CLAIM is visible. -/
def Island.seesClaim (i : Island) : Bool := i.partners.any fun p => p.claim && p.fresh

/-- A fast-fault code goes pending, highest priority (lowest code) first (R127). -/
def ffInsert (c : BitVec 4) : List (BitVec 4) → List (BitVec 4)
  | [] => [c]
  | d :: t => if c = d then d :: t else if c.toNat < d.toNat then c :: d :: t else d :: ffInsert c t

def Island.fast (c : BitVec 4) (i : Island) : Island := { i with ffPend := ffInsert c i.ffPend }

/-- Transmit priority of a frame type (Table 4.14), highest first. -/
def framePrio (t : BitVec 4) : Nat :=
  match t.toNat with
  | 8 => 0 | 1 => 1 | 10 => 2 | 9 => 3 | 2 => 4 | 11 => 5 | _ => 6

/-- Insert a frame type in priority order. -/
def frameInsert (t : BitVec 4) : List (BitVec 4) → List (BitVec 4)
  | [] => [t]
  | a :: r => if framePrio t < framePrio a then t :: a :: r else a :: frameInsert t r

def Island.pushDown (t : BitVec 4) (i : Island) : Island := { i with downQ := frameInsert t i.downQ }

def Island.pushUp (t : BitVec 4) (i : Island) : Island := { i with upQ := frameInsert t i.upQ }

/-- The island withdraws a denied claim, stays off and sends SHOOT_CONFLICT (R116). -/
def Island.deny (i : Island) : Island := (({ i with claim := .denied, barred := true } : Island).fast 0x4#4).pushUp 0xA#4

/-- Assert CLAIM and open the claim window; a CLAIM already visible counts as seen in it (R115, R116). -/
def Island.assertClaim (i : Island) : Island :=
  if i.seesClaim then i.deny else { i with claim := .window }

/-- An unpowered island: gates at COM by the self-powered clamps (Table 2.11). -/
def Out.dead (o : Out) : Out := { o with phase := .holdOff, soft := false, miller := false, prof := none, gate := 0, probing := false }

/-- Outputs as the deciding row of Table 1.6 asks. -/
def Island.settle (l : Levels) (low : Bool) (decl : Nat → Bool) (i : Island) : Island :=
  if !i.live then { i with outs := i.outs.map Out.dead, claim := .idle, safeApplied := false }
  else if !i.verified then { i.allOff l false with safeApplied := false }
  else
    let row := i.row
    let safe := row == 3 || row == 4 || row == 5
    let i := { i with safeApplied := safe }
    if i.target low then
      match i.claim with
      | .granted => i.start l decl
      | .idle => if i.barred then i else i.assertClaim
      | _ => i
    else i.allOff l (row == 1 || (safe && i.desatLatched))

/-- Settle island n in the module. -/
def State.settleIsl (s : State) (n : IslIx) : State :=
  s.updIsl n (Island.settle (s.levels n) n.low (s.declared n))

/-- Change island n and settle it. -/
def State.onIsl (s : State) (n : IslIx) (f : Island → Island) : State := (s.updIsl n f).settleIsl n

/-- Grant a waiting claim when every partner is confirmed off (R115). -/
def Island.tryGrant (t1 : Bool) (i : Island) : Island :=
  if (i.claim = .waiting ∨ i.claim = .late) ∧ i.partnersOff t1 then { i with claim := .granted } else i

/-- Permit of an island (R24, R26): level, heartbeat and DRV_EN; a permit that falls expires the token (R27). -/
def Island.setPermit (level drvEn : Bool) (i : Island) : Island :=
  let p := i.live && level && i.heartbeat && drvEn
  { i with permit := p, token := i.token && p }

/-- Bring every island's permit and outputs up to date. -/
def State.refreshIsl (s : State) : State :=
  { s with isl := s.isl.mapIdx fun k i =>
      let n : IslIx := Fin.ofNat 12 k
      (i.setPermit s.hlm.permit s.pins.drvEn).settle (s.levels n) n.low (s.declared n) }

/-- Code of a safe state in a preload word (Table 4.15). -/
def SafeCode.num : SafeCode → Nat
  | .freewheel => 0
  | .ascLow => 1
  | .ascHigh => 2
  | .block => 3

def SafeCode.ofNum (n : Nat) : SafeCode :=
  match n with
  | 0 => .freewheel
  | 1 => .ascLow
  | 2 => .ascHigh
  | _ => .block

/-- The control die stops driving island n's supply: the island goes unpowered with its logic (R80, R121). -/
def Island.unpower (i : Island) : Island :=
  { State.resetIsland with epoch := i.epoch, preRejected := i.preRejected }

end Sys2Proof.Machine
end

