-- ==== Sys2Proof/Machine/Sram.lean ====
section
/-! DEFINITION. The SRAM as the DMA reaches it (R398, R400, R404, Table 11.1): bytes that differ from 0, addresses strictly rising. -/

namespace Sys2Proof.Machine

/-- Bytes of the SRAM: 48 macros of 256 KiB (R398). -/
def sramSize : Nat := 12582912

/-- Macro of an address (assumption 26). -/
def macroOf (a : Nat) : Nat := a / 262144

/-- A byte of the SRAM; an unlisted address holds the 0 of the clearing (R404). -/
def memGet : List Host.Cell → Nat → Byte
  | [], _ => 0
  | (k, v) :: t, a => if a = k then v else memGet t a

/-- A byte written; a 0 removes the entry. -/
def memPut : List Host.Cell → Nat → Byte → List Host.Cell
  | [], a, b => if b = 0 then [] else [(a, b)]
  | (k, v) :: t, a, b =>
    if a < k then (if b = 0 then (k, v) :: t else (a, b) :: (k, v) :: t)
    else if a = k then (if b = 0 then t else (k, b) :: t)
    else (k, v) :: memPut t a b

/-- Every entry lies above a bound and below the end of the SRAM, is not 0, and the addresses rise strictly. -/
def cellsFrom : Nat → List Host.Cell → Bool
  | _, [] => true
  | lo, (k, v) :: t => decide (lo ≤ k) && decide (k < sramSize) && v != 0 && cellsFrom (k + 1) t

/-- The memory is in its canonical form. -/
def Memory.wf (m : Memory) : Bool := cellsFrom 0 m.cells

/-- A byte of the SRAM of a state. -/
def State.sram (s : State) (a : Nat) : Byte := memGet s.mem.cells a

/-- The bytes of an address outside the SRAM are no state of the module. -/
def State.putSram (s : State) (a : Nat) (b : Byte) : State :=
  if a < sramSize then { s with mem := { s.mem with cells := memPut s.mem.cells a b } } else s

def State.putBytes (s : State) (a : Nat) : List Byte → State
  | [] => s
  | b :: bs => (s.putSram a b).putBytes (a + 1) bs

/-- Macros the DMA may read (Table 11.1). -/
def dmaReads (m : Nat) : Bool :=
  decide (m < 24) || (decide (28 ≤ m) && decide (m < 36)) || (decide (40 ≤ m) && decide (m < 44)) || (decide (46 ≤ m) && decide (m < 48))

/-- Addresses of the SRAM the DMA may write (Table 11.1). The manual gives the command-copy window no address (assumption 26). -/
def dmaWrites (a : Nat) : Bool :=
  let m := macroOf a
  decide (m < 24) || (decide (36 ≤ m) && decide (m < 40)) || ((m == 44 || m == 45) && Config.copyWindow a) || (decide (46 ≤ m) && decide (m < 48))

/-- Bytes of one beat (Table 11.6). -/
def beatBytes (ctrl : Word) : Nat := 8 * 2 ^ (ctrl.toNat % 4)

def State.dma (s : State) (c : Nat) : DmaChan := s.mem.dma.getD c State.resetDma

def State.updDma (s : State) (c : Nat) (f : DmaChan → DmaChan) : State := { s with mem := { s.mem with dma := s.mem.dma.modify c f } }

/-- DONE and STATUS written back where CTRL asks for it (Tables 11.5, 11.6). -/
def State.writeBack (s : State) (d : DmaDesc) (done status : Nat) : State :=
  if d.ctrl.getLsbD 7 then (s.putBytes (d.addr + 0x14) (leBytes 4 done)).putBytes (d.addr + 0x18) (leBytes 4 status) else s

/-- A running channel stops with a STATUS, shown in DMA_LAST_STOP (R415, R416). -/
def State.dmaStop (s : State) (c status : Nat) : State :=
  let x := s.dma c
  if !x.run then s
  else
    let s := (s.updDma c fun y => { y with run := false, desc := none, status := status }).set O.DMA_LAST_STOP (c * 256 + status : Nat)
    match x.desc with
    | some d => s.writeBack d x.done status
    | none => s

end Sys2Proof.Machine
end

