-- ==== Sys2Proof/Machine/Ops.lean ====
section
/-! DEFINITION. The shared operations of the module: event records, the fault collector, the Helmet's choice and the Gauntlet, the device state, discharge, resets and start-up. -/

namespace Sys2Proof.Machine

/-! ### Records and codes -/

def DevState.code : DevState → Nat
  | .off => 0 | .boot => 1 | .selftest => 2 | .standby => 3 | .ready => 4 | .run => 5 | .safeHold => 6
  | .faultLatched => 7 | .discharge => 8 | .service => 9 | .sleep => 10

def DevState.ofCode (n : Nat) : DevState :=
  [DevState.off, .boot, .selftest, .standby, .ready, .run, .safeHold, .faultLatched, .discharge, .service, .sleep].getD n .boot

/-- Slots held, active first. -/
def Coll.held (c : Coll) : List Slot := c.active.toList ++ c.pend.toList

def Coll.holds (c : Coll) (f : FaultCode) : Bool := c.held.any (fun x => x.code == f) || (c.overflow && f == .collectorOverflow)

/-- A fault of class C3, C4 or C5 is held. -/
def Coll.any (c : Coll) : Bool := !c.held.isEmpty || c.overflow

/-- A condition of the code has been reported and has not left. -/
def Coll.cond (c : Coll) (f : FaultCode) : Bool := c.conds.any fun x => x.1 == f

/-- SAFE_STATE_ACT (R353): the Helmet's choice while the permit is withdrawn (which it is not by never being asserted in STANDBY) or the state is SAFE_HOLD or FAULT_LATCHED, and a verified island applies its preload; else 0xFF. -/
def State.safeAct (s : State) : Nat :=
  if ((!s.hlm.permit && s.sys.dev != .standby) || !s.pins.drvEn || s.sup.thermal || s.sys.dev == .safeHold || s.sys.dev == .faultLatched) &&
      s.isl.any (fun i => i.verified && i.safeApplied)
  then s.hlm.choice.num else 0xFF

/-- Append an event record (R375, Table 9.9); it is written to the region within 10 ms (R376). A fault may trigger the trace (R304). -/
def State.record (s : State) (type cls code detail : Nat) : State :=
  let r : LogRec :=
    { opTime := s.opTime, seq := s.log.seq, code := code, kind := type * 16 + cls, dev := s.sys.dev.code,
      speed := quantQ (mkRat (s.get O.SPEED) 20), vdc := (quantQ (10 * s.fl.vdc.getD 0 0)).toNat, temp := s.get O.TEMP_MAX,
      torque := quantQ (10 * s.getQ O.TORQUE_REF), detail := detail, safe := s.safeAct }
  let s := { s with log := { s.log with waiting := s.log.waiting ++ [r], seq := s.log.seq + 1 } }
  if type = 1 ∧ s.get O.TRACE_STATE = 1 ∧ s.get O.TRIG_SRC = 2 ∧ s.getN O.TRIG_CLASS ≤ cls then
    { s with fl := { s.fl with trace := { s.fl.trace with trig := true } } }
  else s

/-! ### C1 and C2 -/

/-- REPORTED with a code added last; a list over its 32 places drops its oldest C1 code, be it the one added, before a C2 code (0x2F01). -/
def reportAdd (f : FaultCode) (l : List FaultCode) : List FaultCode :=
  if f ∈ l then l
  else if l.length < 32 then l ++ [f]
  else match l.find? (fun g => g.cls == 1) with
    | some g => l.erase g ++ [f]
    | none => if f.cls = 1 then l else l.drop 1 ++ [f]

/-- Report a fault of class C1 or C2 (R347): listed and logged; a C1 code raised again within 1 s of its last raise record is only counted (R375). -/
def State.note (s : State) (f : FaultCode) (detail : Nat := 0) : State :=
  if (f, detail) ∈ s.coll.conds then s
  else
    let c := { s.coll with conds := s.coll.conds ++ [(f, detail)], reported := reportAdd f s.coll.reported }
    let quiet := f.cls == 1 && (match c.noted.lookup f with | some t => decide (s.now < t + 1000000) | none => false)
    if quiet then { s with coll := c }.bump O.LOG_SUPPRESSED
    else
      let c := if f.cls = 1 then { c with noted := (f, s.now) :: c.noted.filter (fun x => x.1 != f) } else c
      { s with coll := c }.record 1 f.cls f.num detail

/-- The condition of a C1 or C2 code with its detail has left; the code leaves REPORTED with its last condition. -/
def State.unnote (s : State) (f : FaultCode) (detail : Nat := 0) : State :=
  if (f, detail) ∈ s.coll.conds then
    let conds := s.coll.conds.erase (f, detail)
    if conds.any (fun x => x.1 == f) then { s with coll := { s.coll with conds := conds } }
    else { s with coll := { s.coll with conds := conds, reported := s.coll.reported.erase f } }.record 2 f.cls f.num detail
  else s

def State.noteIf (s : State) (b : Bool) (f : FaultCode) (detail : Nat := 0) : State :=
  if b then s.note f detail else s.unnote f detail

/-- Enter a degraded mode (R372): its DEG_MODES bit with its record, and its C2 code. -/
def State.degrade (s : State) (b : Nat) (f : FaultCode) (detail : Nat := 0) : State :=
  let s := if bit (s.get O.DEG_MODES) b then s else (s.set O.DEG_MODES (setBit (s.get O.DEG_MODES) b true)).record 5 2 f.num detail
  s.note f detail

/-- Leave a degraded mode: its code, and its bit with the last condition of the code. -/
def State.undegrade (s : State) (b : Nat) (f : FaultCode) (detail : Nat := 0) : State :=
  let s := s.unnote f detail
  if bit (s.get O.DEG_MODES) b && !s.coll.cond f then
    (s.set O.DEG_MODES (setBit (s.get O.DEG_MODES) b false)).record 5 2 f.num detail
  else s

/-! ### The Helmet's choice and the Gauntlet -/

/-- Helmet VDC inputs of a DC link: the two required ones (Table 2.9), as places k of 0x2550+k. -/
def vdcInputs (cfg link : Nat) : List Nat := if cfg = 1 ∧ link = 1 then [3, 4] else [0, 1]

/-- Readings of a link's usable inputs, volts: of verified islands whose link is not lost. -/
def State.vdcReads (s : State) (link : Nat) : List Rat :=
  (vdcInputs s.cfg link).filterMap fun k =>
    let i := s.isl.getD (2 * k + 1) State.resetIsland
    if i.verified && i.linkOk then some (mkRat (s.get O.VDC_MEAS k) 10) else none

/-- Number of DC links: two in TRACTION-2, else one. -/
def State.links (s : State) : Nat := if s.cfg = 1 then 2 else 1

/-- The Helmet's V_DC of a link: its first input, or while the inputs disagree the lower (R350) or higher (R354) reading (R362). -/
def State.hlmVdc (s : State) (link : Nat) (high : Bool) : Option Rat :=
  match s.vdcReads link with
  | [] => none
  | [a] => some a
  | a :: b :: _ => if s.coll.cond .hlmVdcDisagree then some (if high then maxQ a b else minQ a b) else some a

/-- |n| of machine m, rpm: the larger of Main's and the diverse speed, where each is valid (R350). -/
def State.hlmSpeed (s : State) (m : Nat) : Option Rat :=
  let st := s.get O.POS_STATUS m
  let a := if bit st 0 then some (absQ (mkRat (s.get O.SPEED m) 10)) else none
  let b := if bit st 9 then some (absQ (mkRat (s.get O.SPEED_DIVERSE m) 10)) else none
  match a, b with
  | some x, some y => some (maxQ x y)
  | some x, none => some x
  | none, y => y

/-- V_DC that R350 uses for machine m: its own link with ARRANGEMENT 0, else the lower of both; VDC_MIN when unusable. -/
def State.selVdc (s : State) (m : Nat) : Rat :=
  let min := s.getQ O.VDC_MIN
  if s.cfg = 1 ∧ s.get O.ARRANGEMENT ≠ 0 then
    match s.hlmVdc 0 false, s.hlmVdc 1 false with
    | some a, some b => minQ a b
    | some a, none => a
    | none, some b => b
    | none, none => min
  else (s.hlmVdc (if s.cfg = 1 then m else 0) false).getD min

/-- The Helmet holds a valid safety flux map (R350). -/
def State.hlmMaps (s : State) : Bool := s.hlm.mapsOk && !s.coll.cond .hlmMapFail && s.get O.ACTIVE_BANK != 0xFF && !s.coll.cond .mapActiveInvalid

/-- Effective thresholds N_ASC_EFF and N_FW_EFF of machine m (R350). -/
def State.thresholds (s : State) (m : Nat) : Rat × Rat :=
  let nAsc := s.getQ O.SS_N_ASC
  let nFw := s.getQ O.SS_N_FW
  if s.hlmMaps then
    let psi := s.hlm.psiPM.getD m 0
    let cross := divQ (9 / 10 * s.selVdc m * 60) (Config.sqrt 3 * 2 * Config.pi * s.getQ O.POLE_PAIRS m * psi)
    let eff := minQ nAsc cross
    (eff, divQ (nFw * eff) nAsc)
  else (nAsc, nFw)

/-- Machines in use: one in TRACTION-1; in TRACTION-2 two, or one with ARRANGEMENT 1 and 2; none in CHARGER. -/
def State.machines (s : State) : List Nat :=
  if s.cfg = 0 then [0] else if s.cfg = 1 then (if s.get O.ARRANGEMENT = 0 then [0, 1] else [0]) else []

/-- A synchronous reluctance machine (MACHINE_TYPE 2) of the active set. -/
def State.isSynRel (s : State) (m : Nat) : Bool := s.fl.machineType.getD m 0 == 2

/-- The call of machine m for ASC (R351). -/
def State.callAsc (s : State) (m : Nat) : Bool :=
  let prev := if s.hlm.evaluated then (s.hlm.machines.getD m State.resetHlmMachine).asc else true
  if s.isSynRel m then false
  else match s.hlmSpeed m with
    | none => true
    | some n =>
      let (nAsc, nFw) := s.thresholds m
      if nAsc ≤ n then true else if n < nFw then false else prev

/-- Forced ASC begins on a link (R354): V_DC at OV2, or rising too fast with its clamp on. -/
def State.forcedNow (s : State) : Bool :=
  (List.range s.links).any fun l =>
    match s.hlmVdc l true with
    | none => false
    | some v => decide (s.getQ O.OV2 / 10 ≤ v) || (s.clamps.getD l State.resetClamp).rising

/-- Forced ASC ends: every |n| below N_FW_EFF and every link below CLAMP_OFF (R354). -/
def State.forcedEnds (s : State) : Bool :=
  (s.machines.all fun m => match s.hlmSpeed m with | none => false | some n => decide (n < (s.thresholds m).2)) &&
  ((List.range s.links).all fun l => match s.hlmVdc l true with | none => true | some v => decide (v < s.getQ O.CLAMP_OFF / 10))

/-- The code that ASC stands for (R352). -/
def State.ascCode (s : State) : SafeCode :=
  if s.get O.ASC_SIDE = 1 ∧ s.isl.all (fun i => !i.bootstrap) then .ascHigh else .ascLow

/-- The Helmet's choice (R351, R354): BLOCK in CHARGER; forced ASC first; FREEWHEEL once ASC was found not established. -/
def State.chooseSafe (s : State) (forced : Bool) (calls : List Bool) : SafeCode :=
  if s.charger then .block
  else if s.hlm.ascGivenUp then .freewheel
  else if forced || calls.any id then s.ascCode else .freewheel

/-- The permit that the islands see is withdrawn: by the Helmet, by DRV_EN low or by a thermal shutdown (R353). -/
def State.permitGone (s : State) : Bool := !s.hlm.permit || !s.pins.drvEn || s.sup.thermal

/-- One evaluation of the safe state (R350..R354, R363), with its status objects. An ASC preload written while the permit is withdrawn opens the check of R354. -/
def State.hlmEval (s : State) : State :=
  if s.hlm.stopped then s
  else
    let forced := s.traction && (if s.hlm.forcedAsc then !s.forcedEnds || s.forcedNow else s.forcedNow)
    let calls := s.machines.map s.callAsc
    let choice := s.chooseSafe forced calls
    let newAsc := choice == .ascLow || choice == .ascHigh
    let hold := s.permitGone && newAsc && choice != s.hlm.choice && s.sup.readyPhase == .idle && s.isl.any (fun i => i.verified && i.safeApplied)
    let ms := s.hlm.machines.mapIdx fun m h => if m ∈ s.machines then { h with asc := calls.getD m h.asc } else h
    let s := { s with hlm := { s.hlm with choice := choice, forcedAsc := forced, evaluated := true, machines := ms,
                                          ascCheck := s.hlm.ascCheck || hold } }
    let show1 := fun (s : State) (m : Nat) =>
      let t := s.thresholds m
      let w := Config.pi * 2 * s.getQ O.POLE_PAIRS m * (s.hlmSpeed m).getD 0 / 60
      ((s.setQ O.N_ASC_EFF t.1 m).setQ O.N_FW_EFF t.2 m).setQ O.E_RATIO
        (1000 * divQ (Config.sqrt 3 * w * s.hlm.psiPM.getD m 0) (s.selVdc m)) m
    s.machines.foldl show1 s

/-- The Helmet writes its choice into every island's preload (R25, R142); each word carries its complement, so each powered island accepts it. -/
def State.writePreload (s : State) : State :=
  if s.hlm.stopped then s
  else
    let cnt := s.hlm.preCount + 1
    let acc := fun (i : Island) => if i.live then { i with preload := s.hlm.choice, preCount := cnt, preStale := false } else i
    let s := { s with hlm := { s.hlm with preCount := cnt }, isl := s.isl.map acc }
    (List.range 12).foldl (fun s n => s.unnote .islPreloadStale n) s

/-- An enabled evaluator is in start-up demand (R388). -/
def State.siStartup (s : State) : Bool := (List.range 4).any fun e => s.getB O.ENABLE e && (s.si.evs.getD e State.resetEvaluator).startup

/-- ROTOR_LOST is held, and no other fault. -/
def Coll.rotorOnly (c : Coll) : Bool := !c.overflow && !c.held.isEmpty && c.held.all fun x => x.code == .rotorLost

/-- The pulses of a catch from FREEWHEEL run under the permit and the token (R364, R529). -/
def State.catching (s : State) : Bool := s.hlm.catchPermit && s.coll.rotorOnly

/-- The Helmet asserts the permit level: it runs, no fault of class C3..C5 is held, no Main pair is in its restart, no thermal shutdown, no evaluator is in start-up demand (R388), and the state is READY, RUN or DISCHARGE; or for the pulses of a catch (R364). -/
def State.permitWanted (s : State) : Bool :=
  !s.hlm.stopped && !s.sup.thermal && !s.siStartup && !s.sys.m0.inReset && !s.sys.m1.inReset && !s.sys.lastPairLost &&
  (s.catching || (!s.coll.any && (s.sys.dev == .ready || s.sys.dev == .run || s.sys.dev == .discharge)))

/-- Cases in which the supervisor issues the drive token (R529). -/
def State.tokenAllowed (s : State) : Bool :=
  (s.sys.dev == .run && !s.coll.any) || (s.sys.dev == .discharge && s.disch.windings && !s.coll.any) || s.catching

/-- Stop the token where R529 no longer allows it. -/
def State.tokenStop (s : State) : State :=
  if s.tokenAllowed then s else { s with sys := { s.sys with tokenOn := false } }

/-- Issue the token with a new epoch, once every island reports PERMIT_VALID (R27, R28, R529). -/
def State.tokenIssue (s : State) : State :=
  if s.tokenAllowed && !s.sys.tokenOn && s.isl.all (fun i => i.permit) then
    { s with sys := { s.sys with tokenOn := true, epoch := s.sys.epoch + 1 } }
  else s.tokenStop

/-- Bring permit, islands and token up to date. A permit that falls with ASC chosen opens the check of R354. -/
def State.gauntlet (s : State) : State :=
  let p := s.permitWanted
  let falls := s.hlm.permit && !p && (s.hlm.choice == .ascLow || s.hlm.choice == .ascHigh)
  ({ s with hlm := { s.hlm with permit := p, ascCheck := s.hlm.ascCheck || falls,
                                ascGivenUp := s.hlm.ascGivenUp && !p } }).refreshIsl.tokenStop

/-! ### Supplies, control word levels -/

def State.ctrlBit (s : State) (i : Nat) : Bool := bit (s.get O.CONTROL_WORD) i

/-- Switch every island supply off (IDLE, R80). -/
def State.islandsOff (s : State) : State :=
  { s with isl := s.isl.map Island.unpower,
           sup := { s.sup with readyPhase := .idle, keepSupplies := false, releaseFrom := none } }

/-! ### Aborted transfers -/

/-- What a write transfer was loading is invalid: the staging bank (R289), the firmware slot (R509), or the parameter half (R511). -/
def Nv.loadingOver (n : Nv) : Nv :=
  let f := fun (r : SlotRec) => if r.state = 1 then { r with state := 4 } else r
  let g := fun (h : ParamHalf) => if h.state = 1 then { h with state := 4, set := none } else h
  let m := fun (b : Bank) => if b.state = 1 then { b with state := 4, set := none } else b
  { n with banks := n.banks.map m,
           sec := { n.sec with slotA := f n.sec.slotA, slotB := f n.sec.slotB, slotR := f n.sec.slotR, half0 := g n.sec.half0, half1 := g n.sec.half1 } }

/-- Every abort is counted and reports BLOCK_ABORTED (R444). -/
def State.abortCount (s : State) (h : Byte) : State :=
  ({ s with dict := { s.dict with deadHandles := s.dict.deadHandles ++ [h] } }.bump O.BLOCK_ABORTS).note .blockAborted

/-- Pool buffers of the requests that a write transfer still keeps. -/
def BlockW.buffers (x : BlockW) : Nat :=
  x.waiting.foldl (fun (a : Nat) id => a + id.bufs) 0 + (match x.ending with | some e => e.1.bufs | none => 0)

/-- The write transfer ends as aborted (R444): its owner's data are invalid, and what it kept of the pool is free. -/
def State.abortW (s : State) : State :=
  match s.dict.blockW with
  | none => s
  | some x =>
    let s := { s with nv := s.nv.loadingOver, dict := { s.dict with blockW := none, poolUsed := s.dict.poolUsed - x.buffers } }
    let s := (List.range 2).foldl (fun (s : State) b => if (s.nv.banks.getD b ⟨0, none, 0, []⟩).state = 4 then s.set O.BANK_STATE 4 b else s) s
    s.abortCount x.handle

/-- The read transfer ends as aborted. -/
def State.abortR (s : State) : State :=
  match s.dict.blockR with
  | none => s
  | some x => { s with dict := { s.dict with blockR := none } }.abortCount x.handle

/-- A device state in which the owner of a write transfer forbids it (R444): KEY_BLOB outside STANDBY (R502), RECOVERY_DATA outside SERVICE (R509). -/
def forbids (key : Nat) (d : DevState) : Bool :=
  (key == O.KEY_BLOB.key 0 && d != .standby) || (key == O.RECOVERY_DATA.key 0 && d != .service)

/-- A state change may end the write transfer (R444). -/
def State.abortBy (s : State) (d : DevState) : State :=
  match s.dict.blockW with
  | some x => if forbids x.key d then s.abortW else s
  | none => s

/-- Change the device state (Table 12.9), with its record. A resolver's return phase is measured on each entry into READY (R216); no command brings the measure (assumption 19). -/
def State.toDev (s : State) (d : DevState) : State :=
  if s.sys.dev = d then s
  else
    let s := ({ s with sys := { s.sys with prev := s.sys.dev, dev := d, since := s.now } }.record 6 0 0 0).abortBy d
    if d = .ready ∧ ([0, 1].any fun ch => s.get O.SENSOR_SRC ch == 3) = true then
      s.draw.set O.RES_PHASE (O.RES_PHASE.ty.fit (Config.measured s.freeIx))
    else s

/-! ### Charger BLOCK -/

/-- A CONVERT session ends with BLOCK (R334): no current ramp; the module-owned relays switch off 5 ms later. -/
def State.blockCharger (s : State) : State :=
  if s.charger ∧ s.get O.CHG_PHASE ≠ 0 then
    ({ s with chg := { s.chg with blockRelays := true, stop := .none, iOutRef := 0, tmo := none, x := 0, xi := 0, cv := 0, matchI := 0,
                                  phi := 0, phiAct := 0, matchFrom := none },
              cmdT := ⟨false, 0, false, false⟩ }).set O.CHG_PHASE 0 |>.setQ O.I_OUT_REF 0
  else s

/-! ### Offsets and loss of in-line sensors -/

/-- Bits of DEG_MODES of the in-line sensors (Table 9.7). -/
def State.ilineModes (s : State) (i : Nat) : State :=
  let lost := fun (b : Nat) => ((List.range 3).filter fun p => (s.sense.iline.getD (3 * b + p) State.resetIline).lost).length
  let one := lost 0 == 1 || lost 1 == 1
  let two := decide (2 ≤ lost 0) || decide (2 ≤ lost 1)
  let s := (s.note .snsIlineLost i)
  let put := fun (s : State) (b : Nat) (v : Bool) =>
    if bit (s.get O.DEG_MODES) b = v then s
    else (s.set O.DEG_MODES (setBit (s.get O.DEG_MODES) b v)).record 5 2 FaultCode.snsIlineLost.num i
  put (put s 4 one) 5 two

/-- An in-line sensor is lost until the next start-up (R163): a degraded mode in traction (Table 9.7); BLOCK in CHARGER. -/
def State.ilineLoss (s : State) (i : Nat) : State :=
  if (s.sense.iline.getD i State.resetIline).lost then s
  else
    let s := { s with sense := { s.sense with iline := s.sense.iline.modify i fun x => { x with lost := true } } }
    if s.charger then
      let s := s.note .snsIlineLost i
      if s.sys.dev = .run then ((s.blockCharger).toDev .ready).gauntlet else s
    else s.ilineModes i

/-- Offsets measured on the way from STANDBY to READY (R162), in mV; no command brings the measure (assumption 19). -/
def State.ilineOffsets (s : State) : State :=
  (List.range 6).foldl (fun (s : State) i =>
    if s.get O.ILINE_AIN i = 255 then s
    else
      let d := O.ILINE_OFFSET_MEAS.ty.fit (Config.measured s.freeIx)
      let s := s.draw.set O.ILINE_OFFSET_MEAS d i
      if 100 < absI d then s.ilineLoss i else s) s

/-! ### Entry into READY -/

/-- Every RW object returns to its Default, CONTROL_WORD apart (R512, R448). -/
def State.rwDefaults (s : State) : State :=
  let drop := fun (k : Nat) => match findObj k with
    | some (o, _) => o.acc == .rw && k != O.CONTROL_WORD.key 0
    | none => false
  { s with vals := s.vals.filter (fun e => !drop e.1), staged := s.staged.filter (fun e => !drop e.1) }

/-- A configuration other than the scope of the parameter set applied (R512). -/
def State.scopeCheck (s : State) : State :=
  match s.sec.appliedScope with
  | some p => if (p : Int) = s.get O.CONFIG_ACTIVE then s else { s.rwDefaults.note .paramScope with sec := { s.sec with appliedScope := none } }
  | none => s

/-- ICU0..ICU5 in meter configuration, in GRID_MODE 2 ICU0 and ICU1 only (R337). -/
def State.holdMeter (s : State) : State :=
  if s.charger then
    (List.range (if s.get O.GRID_MODE = 2 then 2 else 6)).foldl (fun (s : State) u =>
      (((s.set O.WINDOW 2 u).set O.SEQ_LEN 1 u).set O.SEQ_CH 0 (4 * u)).set O.MIDPOINT 1 u) s
  else s

/-- Start the STANDBY to READY transition (Table 3.8): CONFIG is put in force; running supplies are not started again. -/
def State.startReady (s : State) : State :=
  let s := ((s.set O.CONFIG_ACTIVE (s.get O.CONFIG)).scopeCheck.holdMeter).ilineOffsets
  let on := s.isl.all (fun i => i.supplyOn)
  let part := fun (k : Nat) (i : Island) =>
    { i with step := if i.trained then 1 else 0,
             partners := if i.partners.isEmpty then (partnersOf s.cfg (Fin.ofNat 12 k)).map (fun p => ⟨p, false, false, false⟩) else i.partners }
  { s with isl := s.isl.mapIdx part,
           sup := { s.sup with readyPhase := if on then .verify else .group 0, readyFrom := s.now } }

/-- READY_REQ can act in STANDBY (Table 12.9): CONFIG is not 0xFF, no fault of class C3..C5 is held, no sleep command is accepted, and the recovery slot does not run (R508). -/
def State.readyAllowed (s : State) : Bool :=
  s.get O.CONFIG != 0xFF && !s.coll.any && s.sup.entering.isNone && s.sec.running != some .recovery

/-- The worker role (R481). -/
def State.worker (s : State) : Bool := s.get O.SPAN_ROLE == 2

/-- Command timer after an accepted command or an entry into RUN (R281, R326): CMD_TIMEOUT = 0 disables it, except in a worker, whose timeout is then SPAN_TMO (R490). -/
def State.timerRestart (s : State) : CmdTimer := ⟨s.get O.CMD_TIMEOUT != 0 || s.worker, s.now, false, false⟩

/-- Level bits held act in the state reached (R450); SERVICE for the session that set it (Table 12.9). -/
def State.levelActs (s : State) : State :=
  let s := if s.sys.dev = .ready ∧ !s.ctrlBit 0 then (s.islandsOff.toDev .standby).gauntlet else s
  if s.sys.dev ≠ .standby ∨ s.sup.readyPhase ≠ .idle ∨ s.sup.entering.isSome then s
  else if s.ctrlBit 4 then (if s.sec.serviceHandle.isSome then ((s.islandsOff).toDev .service).gauntlet else s)
  else if s.ctrlBit 0 ∧ s.readyAllowed then s.startReady else s

/-! ### Discharge -/

/-- The windings path is available (R369): traction, |n| ≤ DISCH_N_MAX, and no safe state held. -/
def State.windingsOk (s : State) : Bool :=
  s.traction && !s.disch.inSafe && s.pins.drvEn && s.permitWanted &&
  s.machines.all fun m => match s.hlmSpeed m with | none => false | some n => decide (n ≤ s.getQ O.DISCH_N_MAX)

/-- V_DC of the discharge: the highest of the links. -/
def State.dischV (s : State) : Rat := (List.range s.links).foldl (fun a l => maxQ a (s.fl.vdc.getD l 0)) 0

/-- Start the paths that DISCH_PATH selects (R369, R370). -/
def State.dischPaths (s : State) : State :=
  let sel := s.getN O.DISCH_PATH
  let w := s.windingsOk && (sel == 1 || sel == 3)
  let c := sel != 1 || !w
  ({ s with disch := { s.disch with clampOn := c, windings := w, v0 := s.dischV, pathAt := s.now } }).set O.DISCH_STATE
    (if w && !c then 3 else 2)

/-- Begin a discharge (R368). From STANDBY the islands are started first; within SAFE_HOLD or FAULT_LATCHED only the clamp path is used. -/
def State.dischBegin (s : State) : State :=
  if s.disch.running then s
  else
    let d := s.sys.dev
    let blank : Disch := { State.resetDisch with running := true, startAt := s.now }
    if d = .safeHold ∨ d = .faultLatched then
      { s with disch := { blank with inSafe := true, clampOn := true, v0 := s.dischV, pathAt := s.now } }.set O.DISCH_STATE 2
    else if d = .standby then
      let s := ({ s with disch := blank, sys := { s.sys with back := .standby } }).toDev .discharge
      (s.set O.DISCH_STATE 1).startReady
    else
      (({ s with disch := blank, sys := { s.sys with back := .ready } }).toDev .discharge).dischPaths.gauntlet

/-- A discharge goes on within SAFE_HOLD or FAULT_LATCHED, on the clamp path unless that has failed (R368, R369, R451). -/
def State.dischOnClamp (s : State) (left : Bool) : State :=
  let d := { s.disch with inSafe := true, windings := false, held := s.disch.held || left }
  if d.clampOn || d.clampBad then { s with disch := d }
  else { s with disch := { d with clampOn := true, v0 := s.dischV, pathAt := s.now } }.set O.DISCH_STATE 2

/-! ### Device state by the collector -/

/-- C4 codes that keep STANDBY (Table 12.9): ISL_VERIFY_FAIL; SRAM_FAIL and ST_FAIL_HOLD with the island supplies off. -/
def State.quietLatch (s : State) (x : Slot) : Bool :=
  x.code == .islVerifyFail ||
  ((x.code == .sramFail || x.code == .stFailHold) && s.sys.dev == .standby && s.isl.all (fun i => !i.supplyOn))

/-- Codes that the collector keeps through a control-die reset (R349). -/
def outlasts (f : FaultCode) : Bool := f.leave == .external

/-- A held C4 fault calls for FAULT_LATCHED; so does a C5 code after which the module does not restart by itself (Table 9.3; assumption 15). -/
def State.hasLatch (s : State) : Bool :=
  s.coll.overflow || s.coll.held.any fun x => (x.cls == 4 && !s.quietLatch x) || outlasts x.code

def State.hasC3 (s : State) : Bool := s.coll.held.any fun x => x.cls == 3

/-- States the collector can move (Table 12.9). -/
def DevState.running : DevState → Bool
  | .standby | .ready | .run | .safeHold | .faultLatched | .discharge | .service => true
  | _ => false

/-- Enter SAFE_HOLD or FAULT_LATCHED from the present state (Table 12.9, R451). -/
def State.enterSafe (s : State) (d : DevState) : State :=
  let cur := s.sys.dev
  let back : DevState := match cur with
    | .standby | .service => .standby
    | .ready => .ready
    | .run => .run
    | _ => s.sys.back
  let keep := cur == .safeHold || cur == .faultLatched
  let s := { s with sys := { s.sys with back := if keep then s.sys.back else back },
                    sup := { s.sup with readyPhase := .idle } }
  let s := if s.disch.running then s.dischOnClamp (cur == .discharge) else s
  let s := s.blockCharger
  let s := s.toDev d
  let s := if s.cmdT.running then { s with cmdT := ⟨false, 0, false, false⟩ } else s
  if s.disch.wanted then { s with disch := { s.disch with wanted := false } }.dischBegin else s

/-- Every island is powered and verified (R344). -/
def State.islandsReady (s : State) : Bool := s.isl.all fun i => i.live && i.verified

/-- No ramp of a command timeout or of a stop runs (R281, R282). -/
def State.noRamp (s : State) : State :=
  let f := fun (q : Solver) => { q with ramp := none }
  { s with fl := { s.fl with mach := s.fl.mach.map f } }

/-- Back to STANDBY, the island supplies off except under R452 (Table 12.7). -/
def State.backToStandby (s : State) : State := (if s.sup.keepSupplies then s else s.islandsOff).toDev .standby

/-- READY when every island is powered and verified, else STANDBY (R344). -/
def State.readyOrStandby (s : State) : State := if s.islandsReady then s.toDev .ready else s.backToStandby

/-- Leave SAFE_HOLD once the last C3 fault has left (R343). -/
def State.resume (s : State) : State :=
  match s.sys.back with
  | .run =>
    if s.charger then s.toDev .ready
    else if s.getB O.AUTO_RESUME && s.ctrlBit 1 then
      let again := fun (c : PosChan) => { c with start := StartPhase.again }
      let t := s.noRamp
      ({ t with sys := { s.sys with flying := true }, cmdT := s.timerRestart,
                pos := { s.pos with chans := s.pos.chans.map again } }).toDev .run
    else s.toDev .ready
  | .ready => s.toDev .ready
  | .discharge => s.readyOrStandby
  | _ => s.backToStandby

/-- The device state follows the highest class held (R349, Table 12.9); one that a discharge holds ends with it (R451). -/
def State.settleDev (s : State) : State :=
  if !s.sys.dev.running then s.gauntlet
  else if s.hasLatch then (s.enterSafe .faultLatched).gauntlet
  else if s.hasC3 then (s.enterSafe .safeHold).gauntlet
  else if s.disch.held then s.gauntlet
  else if s.sys.dev = .safeHold then s.resume.levelActs.gauntlet
  else if s.sys.dev = .faultLatched then s.readyOrStandby.levelActs.gauntlet
  else s.gauntlet

/-! ### C3, C4 and C5 -/

/-- Place a fault in the slots (R348, rules 2 to 5); true when it found both full. -/
def Coll.place (c : Coll) (x : Slot) : Coll × Bool :=
  match c.active, c.pend with
  | none, none => ({ c with active := some x }, false)
  | some a, none => if a.cls < x.cls then ({ c with active := some x, pend := some a }, false) else ({ c with pend := some x }, false)
  | none, some p => if p.cls < x.cls then ({ c with active := some x }, false) else ({ c with active := some p, pend := some x }, false)
  | some _, some _ => ({ c with overflow := true }, true)

/-- C3 raises of a code in the last 10 s (R343). -/
def State.recentRaises (s : State) (f : FaultCode) : Nat :=
  (s.coll.raises.filter fun x => x.1 == f && decide (s.now < x.2 + 10000000)).length

/-- Post a fault of class C3, C4 or C5 to the collector (R345, R348): the Helmet chooses and writes the preload, withdraws the permit; the token stops; the device state follows. A code already held only counts in the log. -/
def State.raise (s : State) (cls : Nat) (f : FaultCode) (detail : Nat) : State :=
  let conds := if (f, detail) ∈ s.coll.conds then s.coll.conds else s.coll.conds ++ [(f, detail)]
  if s.coll.holds f then { s with coll := { s.coll with conds := conds } }.record 1 cls f.num detail
  else
    let esc := cls == 3 && decide (3 ≤ s.recentRaises f)
    let cls := if esc then 4 else cls
    let raises := (f, s.now) :: s.coll.raises.filter (fun x => decide (s.now < x.2 + 10000000))
    let two := s.coll.held.map (fun x => x.code.num)
    let (c, third) := { s.coll with conds := conds, raises := raises }.place ⟨f, cls, detail⟩
    let s := { s with coll := c, hlm := { s.hlm with catchPermit := false } }
    let s := if esc || third then s.bump O.ESCALATIONS else s
    let s := ((s.hlmEval.writePreload).tokenStop).settleDev
    let s := s.record (if esc then 3 else 1) cls f.num (if third then two.getD 0 0 + 0x10000 * two.getD 1 0 else detail)
    if third then s.record 1 4 FaultCode.collectorOverflow.num 0 else s

/-- Post a fault under its own class. -/
def State.post (s : State) (f : FaultCode) (detail : Nat := 0) : State :=
  if f.cls ≤ 2 then s.note f detail else s.raise f.cls f detail

/-- Free the slots that a predicate clears; a pending fault becomes active (R349). -/
def Coll.clear (c : Coll) (p : Slot → Bool) : Coll :=
  let keep := fun (o : Option Slot) => o.filter (fun x => !p x)
  match keep c.active, keep c.pend with
  | none, q => { c with active := q, pend := none }
  | a, q => { c with active := a, pend := q }

/-- The condition of a code with its detail no longer holds: a C1 or C2 code leaves; a C3 fault frees its slot with its last condition (R349); a C4 fault waits for a reset edge. -/
def State.leave (s : State) (f : FaultCode) (detail : Nat := 0) : State :=
  if f.cls ≤ 2 then s.unnote f detail
  else if (f, detail) ∈ s.coll.conds then
    let conds := s.coll.conds.erase (f, detail)
    let s := { s with coll := { s.coll with conds := conds } }
    if conds.any (fun x => x.1 == f) then s
    else if s.coll.held.any (fun x => x.code == f && x.cls == 3) then
      let s := { s with coll := s.coll.clear (fun x => x.code == f && x.cls == 3) }
      let s := if f = .fleMismatch then { s with coll := { s.coll with mismatchLeft := some s.now } } else s
      (s.settleDev).record 2 3 f.num detail
    else s
  else s

/-- Every condition of a code has left. -/
def State.leaveAll (s : State) (f : FaultCode) : State :=
  (s.coll.conds.filter fun x => x.1 == f).foldl (fun s x => s.leave x.1 x.2) s

/-- Post while a condition holds, leave when it does not. -/
def State.postIf (s : State) (b : Bool) (f : FaultCode) (detail : Nat := 0) : State :=
  if b then s.post f detail else s.leave f detail

/-- VIN conditions that hold when the firmware starts to run are raised afresh (R349). -/
def State.vinAfresh (s : State) : State :=
  let s := if s.sup.vinHi then s.note .vinHigh else s
  let s := if s.sup.vinWarn then s.note .vinWarnLow else s
  if s.sup.vinValid then s else s.post .vinUv

/-- Conditions of powered islands that hold when the firmware starts to run are raised afresh (R99, R121, R123, R349). -/
def State.islAfresh (s : State) : State :=
  allIslands.foldl (fun (s : State) n =>
    let i := s.island n
    let s := if i.bootstrap then s.degrade 6 .islOnBootstrap n.val else s
    let s := if i.bootstrap && i.bstLow then s.note .islBstLow n.val else s
    if i.live && i.verified && i.uvlo then s.post .islUvlo n.val else s) s

/-! ### Resets and start-up -/

/-- Keys that a control-die reset keeps: those held in AON (R81, R92, R455), and the life counters. -/
def keptKey (k : Nat) : Bool :=
  k == O.RESET_CAUSE.key 0 || k == O.THERM_SHUTDOWN_COUNT.key 0 || k == O.CONFIG_ACTIVE.key 0 || k == O.WAKE_CAUSE.key 0 ||
  k == O.START_COUNT.key 0 || k == O.THERM_MODE_ACTIVE.key 0

/-- NV content after a control-die reset: a slot, half or bank in transfer is invalid (R289), and no slot runs. -/
def Nv.afterReset (n : Nv) : Nv :=
  let f := fun (r : SlotRec) => { r with state := if r.state = 5 then 3 else if r.state = 1 ∨ r.state = 2 then 4 else r.state }
  let g := fun (h : ParamHalf) => { h with state := if h.state = 1 ∨ h.state = 2 then 4 else h.state }
  let m := fun (b : Bank) => if b.state = 1 ∨ b.state = 2 then { b with state := 4, set := none } else b
  let sec := { n.sec with slotA := f n.sec.slotA, slotB := f n.sec.slotB, slotR := f n.sec.slotR,
                          half0 := g n.sec.half0, half1 := g n.sec.half1 }
  { n with sec := sec, banks := n.banks.map m }

/-- Parts of the state that stand outside the control die: cleared by no control-die reset. -/
def State.dieCleared (s : State) (external : Bool) : State :=
  let keep := fun (x : Slot) => !external && outlasts x.code
  let coll := ({ State.resetColl with active := s.coll.active, pend := s.coll.pend,
                                      conds := s.coll.conds.filter (fun x => !external && outlasts x.1) }).clear (fun x => !keep x)
  { State.reset with
    pending := s.pending, now := s.now, freeIx := s.freeIx, opTime := s.opTime,
    vals := s.vals.filter (fun e => keptKey e.1),
    pins := { s.pins with vddioHiZ := true },
    sup := { State.resetSupply with vinUp := s.sup.vinUp, vinValid := s.sup.vinValid, vinHi := s.sup.vinHi, vinWarn := s.sup.vinWarn, hold := s.sup.hold, attempting := false,
                                    thermal := s.sup.thermal, thermLatch := s.sup.thermLatch, xtalMissed := s.sup.xtalMissed,
                                    asleep := s.sup.asleep, thermLog := s.sup.thermLog, fallAt := s.sup.fallAt },
    sys := { State.resetSys with prev := s.sys.dev, since := s.now },
    coll := coll, log := s.log, si := { State.resetSafetyIn with rstBad := s.pins.safeRst }, isl := s.isl, sense := { State.resetSense with conv := s.sense.conv }, nv := s.nv.afterReset,
    hlm := { State.resetHelmet with stopped := s.hlm.stopped && !external, choice := s.hlm.choice } }

/-- The control die enters BOOT (Table 12.9): the straps give the Span role (R52); a start-up attempt runs (R83). -/
def State.enterBoot (s : State) : State :=
  let s := s.set O.THERM_MODE_ACTIVE (s.durable O.THERM_MODE)
  let s := (s.bump O.START_COUNT).record 7 0 0 (s.getN O.RESET_CAUSE)
  let s := { s with sup := { s.sup with attempting := true, attemptFailed := none, startAt := s.now } }
  let role := s.pins.straps.toNat
  let s := s.set O.SPAN_ROLE (if role = 3 then 0 else role)
  if role = 3 then s.note .spanRoleStrap else s

/-- No reset source is in force (R81). -/
def ResetHold.none (h : ResetHold) : Bool := !h.por && !h.pin && !h.thermal && !h.fault

/-- A reset of the whole control die with its RESET_CAUSE bit (Table 3.5): everything outside AON, the islands and the NV die returns to its reset value; the die leaves reset when no source is in force. -/
def State.dieReset (s : State) (cause : Nat) (external : Bool := false) : State :=
  let s := (s.abortW).abortR
  let s := s.set O.RESET_CAUSE (setBit (s.get O.RESET_CAUSE) cause true)
  let s := (s.dieCleared external).refreshIsl
  if s.sup.hold.none then s.enterBoot else s

/-- A fault of class C5 whose scope is the control die: the Helmet applies the safe state, then the reset (Table 9.1). -/
def State.resetFault (s : State) (f : FaultCode) (detail cause : Nat) : State := (s.raise 5 f detail).dieReset cause

/-- Codes that a reset edge clears when their condition does not hold (R344); a bare reset edge clears the code whatever its cause. -/
def State.clampLevelOk (s : State) : Bool :=
  (List.range s.links).all fun l => decide (s.fl.vdc.getD l 0 < s.getQ O.CLAMP_OFF / 10)

end Sys2Proof.Machine
end

