-- ==== Sys2Proof/Machine/Service.lean ====
section
/-! DEFINITION. Service requests: acceptance and repetition (R435..R440), the checks of Table 12.5, replies, staging and COMMIT (R433), durable writes (R409). -/

namespace Sys2Proof.Machine

/-! Abort codes (Table 12.5). -/
def abortBusy : Nat := 0x0001
def abortCmd : Nat := 0x0002
def abortSession : Nat := 0x0003
def abortNoObject : Nat := 0x0010
def abortAccess : Nat := 0x0011
def abortLevel : Nat := 0x0012
def abortSource : Nat := 0x0013
def abortLength : Nat := 0x0014
def abortValue : Nat := 0x0015
def abortState : Nat := 0x0016
def abortHardware : Nat := 0x0017
def abortSize : Nat := 0x0018
def abortCrc : Nat := 0x0019
def abortTimeout : Nat := 0x001A
def abortHandle : Nat := 0x001B
def abortMap : Nat := 0x001C

def Lvl.num : Lvl → Nat
  | .obs => 0 | .opr => 1 | .srv => 2 | .vnd => 3

/-- CMD_SOURCE value of a port (Table 13.1). -/
def portCode : Port → Nat
  | .can _ => 1
  | .eth _ _ => 2
  | .spi => 3
  | .span _ => 4

/-- The service port itself, whatever the session scope within it (Table 13.1). -/
def portBase : Port → Port
  | .eth _ _ => .eth 0 0
  | .span _ => .span 0
  | p => p

/-- Largest request of a port's transport, bytes (R438). -/
def State.maxRequest (s : State) : Port → Nat
  | .can _ => 64
  | .eth _ _ => if s.getB O.JUMBO then 8192 else 1472
  | .spi => 2048
  | .span _ => 64

/-- Number of the module's own node (R459, R481): a worker's is the SPAN_NODE in force at start-up, every other's 0. -/
def State.ownNode (s : State) : Nat := if s.get O.SPAN_ROLE = 2 then s.getN O.SPAN_NODE else 0

/-- Buffers of the receive pool and their size in bytes (R457). -/
def State.poolSize (s : State) : Nat := s.getN O.RX_BUF_COUNT
def State.bufBytes (s : State) : Nat := s.getN O.RX_BUF_SIZE * 1024

/-- Buffers a request occupies: ⌈size / buffer size⌉ (R439). -/
def State.bufsFor (s : State) (size : Nat) : Nat := (size + s.bufBytes - 1) / s.bufBytes

/-- States in which service frames are served (Table 12.7). -/
def DevState.serves : DevState → Bool
  | .standby | .ready | .run | .safeHold | .faultLatched | .discharge | .service => true
  | _ => false

/-! ### Transports -/

/-- Channel whose identifiers a channel uses: after a takeover those of the failed one (R471). -/
def State.idsOf (s : State) (c : Nat) : Nat :=
  match s.net.failedCh with
  | some f => if c = s.getN O.HOST_CH_ACTIVE then f else c
  | none => c

/-- Channel that carries the frames of a channel: after its takeover the redundant one (R471). -/
def State.carryCh (s : State) (c : Nat) : Nat := if s.net.failedCh = some c then s.getN O.HOST_CH_ACTIVE else c

/-- The channel carries service and process frames: role host, or redundant after its takeover (R463, R471). -/
def State.canHost (s : State) (c : Nat) : Bool :=
  match s.net.failedCh with
  | some f => c != f && c == s.getN O.HOST_CH_ACTIVE
  | none => s.get O.CAN_ROLE c == 1

def State.canCh (s : State) (c : Nat) : CanChan := s.net.can.getD c State.resetCan
def State.updCan (s : State) (c : Nat) (f : CanChan → CanChan) : State := { s with net := { s.net with can := s.net.can.modify c f } }

/-- Head of the highest non-empty queue, with its queue (R467). -/
def CanChan.head (x : CanChan) : Option (Nat × CanOut) :=
  match x.safety, x.process, x.service with
  | a :: _, _, _ => some (0, a)
  | [], a :: _, _ => some (1, a)
  | [], [], a :: _ => some (2, a)
  | [], [], [] => none

/-- Present the head of the highest non-empty queue to an idle bus (R467). -/
def State.canKick (s : State) (c : Nat) : State :=
  let x := s.canCh c
  if x.sending.isSome || x.busOff || !s.canHost c then s
  else match x.head with
    | none => s
    | some (q, f) => { s.updCan c (fun y => { y with sending := some q }) with out := s.out ++ [.can (Fin.ofNat 4 c) f.frame] }

/-- Data length of a CAN FD frame that holds n bytes: the next DLC length (R464). -/
def dlcLen (n : Nat) : Nat :=
  if n ≤ 8 then n else if n ≤ 12 then 12 else if n ≤ 16 then 16 else if n ≤ 20 then 20 else if n ≤ 24 then 24
  else if n ≤ 32 then 32 else if n ≤ 48 then 48 else 64

/-- Bytes padded with zeros to a length. -/
def padTo (n : Nat) (l : List Byte) : List Byte := l ++ List.replicate (n - l.length) 0

/-- A reply as a service frame (R435, Table 12.3; assumption 27). -/
def replyFrame (id : ReqId) (r : Reply) : List Byte :=
  let cd : Byte × List Byte := match r with
    | .ok d => (id.cmd ||| 0x80#8, d)
    | .abort c => (0xFF#8, leBytes 2 c)
  [cd.1, id.seq] ++ leBytes 2 id.idx.toNat ++ [id.sub, Config.replySession id.cmd id.seq] ++ leBytes 2 cd.2.length ++ cd.2

/-- The Span port transmits: up, not quarantined, in a Span role that a conflict has not ended (R486, R493). -/
def State.spanUp (s : State) (p : Nat) : Bool :=
  let x := s.net.ports.getD p State.resetPort
  x.up && !x.quarantined && (s.get O.SPAN_ROLE == 1 || s.get O.SPAN_ROLE == 2)

def State.peer (s : State) (n : Nat) : SpanPeer := s.net.peers.getD n State.resetPeer
def State.updPeer (s : State) (n : Nat) (f : SpanPeer → SpanPeer) : State := { s with net := { s.net with peers := s.net.peers.modify n f } }

/-- One frame on both Span ports (R483). -/
def State.spanBoth (s : State) (type dst fresh : Nat) (data : List Byte) : State :=
  { s with out := s.out ++ ((List.range 2).filter s.spanUp).map fun p => .span (Fin.ofNat 2 p) type dst fresh data }

/-- A frame to a joined node, with the next FRESH of its session (R483, R485). -/
def State.spanSend (s : State) (type n : Nat) (data : List Byte) : State :=
  let s := s.updPeer n fun x => { x with tx := x.tx + 1 }
  s.spanBoth type n (s.peer n).tx data

/-- A reply enters the transport of its port (R464, R467, R478, R459): a CAN reply waits in SERVICE, or in its buffers while SERVICE is full; an SPI reply holds its buffers until it is clocked out. -/
def State.transmit (s : State) (id : ReqId) (r : Reply) : State :=
  let s := s.send [.reply id r]
  match id.port with
  | .can c =>
    let b := replyFrame id r
    let f : CanOut := ⟨⟨BitVec.ofInt 32 (s.get O.SRV_TX_ID (s.idsOf c.val) + id.node.val), true, padTo (dlcLen b.length) b⟩, none⟩
    let k := s.carryCh c.val
    if (s.canCh k).service.length < 8 then (s.updCan k fun x => { x with service := x.service ++ [f] }).canKick k
    else { s.updCan k (fun x => { x with held := x.held ++ [(id, f)] }) with dict := { s.dict with poolUsed := s.dict.poolUsed + id.bufs } }
  | .spi => { s with net := { s.net with spiQ := s.net.spiQ ++ [(id, r)] }, dict := { s.dict with poolUsed := s.dict.poolUsed + id.bufs } }
  | .eth _ _ => s
  | .span n => s.spanSend 0x21 n.val (replyFrame id r)

/-- Record the reply for repetitions and send it (R436). -/
def State.reply (s : State) (id : ReqId) (r : Reply) : State :=
  let upd := fun (l : LastReq) => if l.id = id then { l with reply := some r } else l
  { s with dict := { s.dict with last := s.dict.last.map upd } }.transmit id r

/-- Refuse with an abort code (R437). -/
def State.refuse (s : State) (id : ReqId) (code : Nat) : State :=
  (s.reply id (.abort code)).bump O.REQ_ABORTED

/-- Accept with no reply data. -/
def State.done (s : State) (id : ReqId) : State := s.reply id (.ok [])

/-- The reply comes later: the request keeps its buffers (R439). -/
def State.defer (s : State) (id : ReqId) : State :=
  { s with dict := { s.dict with poolUsed := s.dict.poolUsed + id.bufs } }

/-- Reply to a deferred request and free its buffers. -/
def State.replyLate (s : State) (id : ReqId) (r : Reply) : State :=
  let s := { s with dict := { s.dict with poolUsed := s.dict.poolUsed - id.bufs } }
  match r with
  | .abort c => s.refuse id c
  | .ok d => s.reply id (.ok d)

/-- Level of a request (R432): OPR without a session, else its session's; none when the handle names no open session of this port. -/
def State.levelOf (s : State) (port : Port) (session : Byte) : Option Lvl :=
  if session = 0 then some .opr
  else (s.sec.sessions.find? fun x => x.handle == session && x.port == port).map (fun x => x.level)

/-- A request carries a session's handle: the session's idle time starts again (R514). -/
def State.touch (s : State) (port : Port) (session : Byte) : State :=
  let f := fun (x : Session) => if x.handle == session && x.port == port then { x with last := s.now } else x
  { s with sec := { s.sec with sessions := s.sec.sessions.map f } }

/-- Refuse with ABORT_BUSY: the request was not accepted, so its retry is no repetition (R439, R440; assumption 14). -/
def State.refuseBusy (s : State) (id : ReqId) : State :=
  let s := { s with dict := { s.dict with last := s.dict.last.filter (fun l => l.id != id) } }
  ((s.transmit { id with bufs := 0 } (.abort abortBusy)).bump O.REQ_ABORTED).bump O.REQ_BUSY

/-- Relay an accepted request to a worker (R459): it keeps its buffers until the reply has been sent. -/
def State.relayTo (s : State) (node : Fin 8) (id : ReqId) : State :=
  let s := (s.defer id).updPeer node.val fun x => { x with tx := x.tx + 1 }
  { s with net := { s.net with relays := s.net.relays ++ [(node.val, id)] } }.send [.relay node id]

/-- Durable writes of a key (R412). -/
def Nv.writesOf (n : Nv) (key : Nat) : Nat := match n.persist.find? (fun r => r.key == key) with | some r => r.writes | none => 0

/-- The key has had its 1,000,000 durable writes (R412). -/
def State.spent (s : State) (key : Nat) : Bool := decide (1000000 ≤ s.nv.writesOf key)

/-- A third persistent write (R409): a WRITE of an RWP object with two pending, before every other check (Table 12.5). -/
def State.queueFull (s : State) (r : Req) (id : ReqId) : Bool :=
  decide (2 ≤ s.dict.persist.length) && id.cmd == 0x02#8 && r.node.val == s.ownNode &&
  (match findObj (id.idx.toNat * 256 + id.sub.toNat) with
    | some (o, p) => o.acc == .rwp && !s.spent (o.key p)
    | none => false)

/-- Acceptance into the pool and the persistent queue (R409, R439, R440), then the relay (R459) or the body. -/
def State.takeRequest (s : State) (r : Req) (id : ReqId) (auth : Bool) (body : ReqId → State → State) : State :=
  let held : Bool := match s.dict.busyHold with | some p => (portBase p) != (portBase r.port) | none => false
  if s.poolSize < s.dict.poolUsed + id.bufs ∨ held = true ∨ s.queueFull r id = true then
    let s := if id.bufs > 1 then { s with dict := { s.dict with busyHold := some (portBase r.port) } } else s
    s.refuseBusy id
  else
    let rest := s.dict.last.filter (fun l => (portBase l.id.port) != (portBase r.port))
    let s : State := { s with dict := { s.dict with last := ⟨id, s.now, none⟩ :: rest } }
    let s := if s.dict.busyHold == some (portBase r.port) then { s with dict := { s.dict with busyHold := none } } else s
    let s := s.bump O.REQ_ACCEPTED
    if r.node.val ≠ s.ownNode then
      if s.get O.SPAN_ROLE ≠ 1 ∨ r.size > 64 then s.refuse id abortCmd
      else if s.get O.NODE_STATE (r.node.val - 1) ≠ 2 then s.refuse id abortState
      else s.relayTo r.node id
    else if !r.lenOk then s.refuse id abortCmd
    else if auth then body id s
    else match s.levelOf r.port r.session with
      | none => s.refuse id abortSession
      | some _ => body id (s.touch r.port r.session)

/-- The port takes part: a CAN channel as host and not in bus-off, Ethernet and SPI when enabled, Span in the worker role (R456, R463, R470, R481). -/
def State.portOpen (s : State) : Port → Bool
  | .can c => s.canHost c.val && !(s.canCh c.val).busOff
  | .eth _ _ => s.getB O.ETH_ENABLE
  | .spi => s.getB O.SPI_ENABLE
  | .span _ => s.worker

/-- Take in a service frame: port, state, size, repetition, destination node, pool and LEN; then its body (R436..R440, R459, R460). -/
def State.service (s : State) (r : Req) (cmd : Nat) (key : Nat) (body : ReqId → State → State) (auth : Bool := false) : State :=
  if !(s.sys.dev.serves && s.portOpen r.port) then s
  else if s.maxRequest r.port < r.size then s.bump O.REQ_ABORTED
  else
    let id : ReqId := { port := r.port, node := r.node, cmd := BitVec.ofNat 8 cmd, seq := r.seq, idx := BitVec.ofNat 16 (key / 256),
                        sub := BitVec.ofNat 8 key, bufs := s.bufsFor r.size }
    match s.dict.last.find? (fun l => (portBase l.id.port) == (portBase r.port)) with
    | some l =>
      if l.id.cmd = id.cmd ∧ l.id.seq = id.seq ∧ l.id.idx = id.idx ∧ l.id.sub = id.sub ∧ s.now < l.time + 1000000 then
        let s := s.bump O.REQ_DUPLICATE
        match l.reply with
        | some x => s.transmit l.id x
        | none => s
      else s.takeRequest r id auth body
    | none => s.takeRequest r id auth body

/-- Objects that CMD_SOURCE guards (R446): CONTROL_WORD and level OPR objects that take effect without a COMMIT; COMMIT objects themselves are not covered (assumption 12). -/
def Obj.guarded (o : Obj) : Bool :=
  o.lvl == .opr && o.grp == 0 && o.acc != .ro && o != O.COMMIT_260F && o != O.COMMIT_2EFF

/-- CMD_SOURCE in force: 4 in the worker role (R481). -/
def State.cmdSource (s : State) : Nat := if s.get O.SPAN_ROLE = 2 then 4 else s.getN O.CMD_SOURCE

/-- The port is the one CMD_SOURCE selects (R446); for CAN the host channel in force. -/
def State.sourceOk (s : State) (p : Port) : Bool :=
  let src := s.cmdSource
  src == 0 || (portCode p == src && (match p with | .can c => c.val == s.getN O.HOST_CH_ACTIVE | _ => true))

/-- Table 12.5 checks of a write up to its source: the first failing one gives the abort code. -/
def State.checkAccess (s : State) (port : Port) (lvl : Lvl) (o : Obj) : Option Nat :=
  if o.ty.isDomain then some abortCmd
  else if o.acc = .ro then some abortAccess
  else if lvl.num < o.lvl.num then some abortLevel
  else if o.guarded ∧ !s.sourceOk port then some abortSource
  else none

/-- Checks of a write of one value. -/
def State.checkWrite (s : State) (r : Req) (o : Obj) (v : Int) : Option Nat :=
  match s.checkAccess r.port ((s.levelOf r.port r.session).getD .opr) o with
  | some c => some c
  | none => if o.accepts v then none else some abortValue

/-- A write request of value v to place p of an object that acts at once. -/
def State.writeReq (s : State) (r : Req) (o : Obj) (p : Nat) (v : Int) (act : ReqId → State → State) : State :=
  s.service r 0x02 (o.key p) fun id s =>
    match s.checkWrite r o v with
    | some c => s.refuse id c
    | none => act id s

/-! ### Groups and COMMIT -/

/-- Members of a group; an island's group (marked 1) are those of its own records (R151). -/
def inGroup (grp key : Nat) : Bool :=
  match findObj key with
  | none => false
  | some (o, _) =>
    if o.grp = 1 then
      let isl := (key / 256 - 0x2610) / 8
      grp == (0x2617 + 8 * isl) * 256 + 11
    else o.grp == grp && grp != 0

/-- Staged values of a group. -/
def State.stagedOf (s : State) (grp : Nat) : Store := s.staged.filter fun e => inGroup grp e.1

/-- A carrier runs: in the states of R141 with the islands verified. -/
def State.carrier (s : State) : Bool :=
  (s.sys.dev == .ready || s.sys.dev == .run || s.sys.dev == .safeHold || s.sys.dev == .faultLatched || s.sys.dev == .discharge) &&
  s.islandsReady

/-- Put staged values in force; the entries that still hold them are no longer staged (R433). -/
def State.applyVals (s : State) (vals : Store) : State :=
  { s.setKeys vals with staged := s.staged.filter fun e => !(vals.contains e) }

/-- After an accepted COMMIT a group whose restored values had failed is whole again (Table 12.11). -/
def State.groupOk (s : State) (grp : Nat) : State :=
  let s := { s with dict := { s.dict with badGroups := s.dict.badGroups.filter (fun g => g != grp) } }
  s.unnote .groupRestoreFail (grp / 256)

/-- A group puts values into the instance under test (R423). -/
def State.underTest (s : State) (grp : Nat) (vals : Store) : Bool :=
  match s.mem.test with
  | none => false
  | some x =>
    if x.t = 4 ∨ x.t = 5 then grp == 0x22FF01
    else if 8 ≤ x.t ∧ x.t ≤ 11 then grp == 0x25FF01
    else if 16 ≤ x.t ∧ x.t ≤ 31 then
      [O.INPUT, O.THRESH, O.HYS, O.SENSE, O.FILTER_2530, O.ACTION].any fun o => vals.any fun e => e.1 == o.key (x.t - 16)
    else false

/-- A COMMIT whose checks have passed (R433): the staged values go in force now, or with a carrier at the next B0 boundary once every island concerned has confirmed them (R141), and the reply follows then. -/
def State.commitNow (s : State) (id : ReqId) (grp : Nat) (isls : List IslIx) : State :=
  let vals := s.stagedOf grp
  if s.carrier || s.underTest grp vals then
    let isls := if s.carrier then isls else []
    let s := { s with dict := { s.dict with commits := s.dict.commits ++ [(⟨grp, id, vals, isls, isls, []⟩ : PendCommit)] } }
    (isls.foldl (fun (s : State) n => s.updIsl n (Island.pushDown 0x2#4)) s).defer id
  else ((s.applyVals vals).groupOk grp).done id

/-- COMMIT of a group (R433): a failing check refuses it. -/
def State.commit (s : State) (r : Req) (o : Obj) (p : Nat) (check : State → Option Nat) (isls : List IslIx := []) : State :=
  s.writeReq r o p 1 fun id s =>
    match check s with
    | some c => s.refuse id c
    | none => s.commitNow id (o.key p) isls

/-- Value of an object as the group's COMMIT would put it in force. -/
def State.planned (s : State) (o : Obj) (p : Nat := 0) : Int := s.getStaged o p

/-! ### Durable writes -/

/-- Append a committed record for a key: newest first, WRITES counted, SEQ given (R408). -/
def Nv.commitRec (n : Nv) (key : Nat) (v : Int) : Nv :=
  let old := match n.persist.find? (fun r => r.key == key) with | some r => r.vals | none => []
  let bank := if key = O.ACTIVE_BANK.key 0 then some v.toNat else n.activeBank
  { n with activeBank := bank, persist := ⟨key, v :: old, n.writesOf key + 1, n.persistSeq⟩ :: n.persist.filter (fun x => x.key != key),
           persistSeq := n.persistSeq + 1 }

/-- A durable write of the module's own, or one that completes; a spent key keeps its record (R412). -/
def State.saveRec (s : State) (key : Nat) (v : Int) : State :=
  if s.spent key then s.note .enduranceSpent key else { s with nv := s.nv.commitRec key v }

/-- The operating time is saved as a system record (R376, R408). -/
def State.saveOpTime (s : State) : State :=
  let k := O.OP_TIME.key 0
  if s.spent k then s.note .enduranceSpent k else { s with nv := { s.nv.commitRec k s.opTime with opTime := s.opTime } }

/-- Stage a volatile group member. -/
def State.stage (s : State) (o : Obj) (p : Nat) (v : Int) : State := { s with staged := s.staged.put (o.key p) v }

/-- An RWP value that has become durable: a group member is staged, another is put in force (R409). -/
def State.putVal (s : State) (key : Nat) (v : Int) : State :=
  match findObj key with
  | some (o, p) => if o.grp = 0 then s.set o v p else s.stage o p v
  | none => s

/-- Queue a persistent write (R409): at most two pending. A spent key is written in volatile memory only (R412). -/
def State.persist (s : State) (id : ReqId) (key : Nat) (v : Int) : State :=
  if 2 ≤ s.dict.persist.length then s.refuseBusy id
  else if s.spent key then ((s.putVal key v).note .enduranceSpent key).done id
  else { s with dict := { s.dict with persist := s.dict.persist ++ [(⟨key, v, some id, false, s.now⟩ : PendPersist)] } }.defer id

end Sys2Proof.Machine
end

