-- ==== Sys2Proof/Machine/TestOps.lean ====
section
/-! DEFINITION. Results of the self-test engine and the return of an instance to service (R417, R422..R424), used by the blocks a test takes out of service. -/

namespace Sys2Proof.Machine

/-- RESULT values (Table 11.13): 1 PASS, 2 FAIL, 3 INCOMPLETE, 4 running. -/
def State.testResult (s : State) (t res sig cyc detail : Nat) : State :=
  let s := (((s.set O.RESULT res t).set O.SIGNATURE (Ty.fit .u32 sig) t).set O.CYCLES (Ty.fit .u32 cyc) t).bump O.RUN_COUNT t
  let s := s.set O.LAST_TIME (Ty.fit .u64 s.opTime) t
  if res = 2 then (s.bump O.FAIL_COUNT t).set O.DETAIL (Ty.fit .u32 detail) t else s

/-- The test that runs, none while no test runs. -/
def State.testing (s : State) : Option Nat := s.mem.test.map fun x => x.t

/-- A test on request runs: STANDBY is not left (R425). -/
def State.requested (s : State) : Bool := match s.mem.test with | some x => x.onRequest | none => false

/-- The instance of a test serves again (R422, R424): an FLE at once, a SARU at the next boundary; the shadow is released unless it serves a failed comparator (R194). -/
def State.testReturn (s : State) (t : Nat) : State :=
  let s := { s with mem := { s.mem with test := none } }
  if t = 4 ∨ t = 5 then (if bit (s.get O.DEG_MODES) 1 then s else { s with fl := { s.fl with fle := 0 } })
  else if 8 ≤ t ∧ t ≤ 11 ∧ s.get O.SARU_STATE (t - 8) = 2 then s.set O.SARU_STATE 0 (t - 8)
  else if 16 ≤ t ∧ t ≤ 31 ∧ s.mem.shadow ≠ some (t - 16) then s.set O.CMP_SERVICE (setBit (s.get O.CMP_SERVICE) (t - 16) false)
  else s

/-- The running test is cut short (R417, R424, R425): INCOMPLETE, with whatever the registers then read (assumption 7). -/
def State.testCut (s : State) : State :=
  match s.mem.test with
  | none => s
  | some x =>
    let s := (s.testResult x.t 3 (Config.freeNat s.freeIx) (Config.freeNat (s.freeIx + 1)) 0).draw.draw
    s.testReturn x.t

/-- A SARU that may carry the entries of the SARU under test has failed, or the spare of the link under test (R424): the test is cut short. -/
def State.carrierFails (s : State) (t : Nat) : State :=
  match s.testing with
  | some x => if (8 ≤ x ∧ x ≤ 11 ∧ 8 ≤ t ∧ t ≤ 11 ∧ (x % 4 = (t + 1) % 4 ∨ t % 4 = (x + 1) % 4)) ∨ (32 ≤ x ∧ x = t) then s.testCut else s
  | none => s

/-- A returning FLE holds the previous duties for one period and resumes from zero integrators (R424). -/
def State.fleReturns (s : State) : State :=
  let f := fun (b : Bridge) => { b with shadow := some b.duties, next := none, busy := false, xd := 0, xq := 0, z := 0, equal := 0, differ := 0 }
  { s.testCut with fl := { s.testCut.fl with br := s.fl.br.map f } }

end Sys2Proof.Machine
end

