-- ==== Sys2Proof/Machine/Security.lean ====
section
/-! DEFINITION. Security and life cycle: keys and signatures, firmware slots, parameter sets, sessions and the TAP (R497..R517). -/

namespace Sys2Proof.Machine

/-! ### Keys -/

def SecNv.slot (n : SecNv) : FwSlot → SlotRec
  | .a => n.slotA
  | .b => n.slotB
  | .recovery => n.slotR

def SecNv.putSlot (n : SecNv) (k : FwSlot) (r : SlotRec) : SecNv :=
  match k with
  | .a => { n with slotA := r }
  | .b => { n with slotB := r }
  | .recovery => { n with slotR := r }

/-- Number of a slot in the order A, B, recovery (Table 14.8). -/
def slotNum : FwSlot → Nat
  | .a => 0 | .b => 1 | .recovery => 2

def State.otp (s : State) : Otp := s.nv.sec.otp

def State.setOtp (s : State) (o : Otp) : State := { s with nv := { s.nv with sec := { s.nv.sec with otp := o } } }

def State.putSlot (s : State) (k : FwSlot) (r : SlotRec) : State := { s with nv := { s.nv with sec := s.nv.sec.putSlot k r } }

/-- Firmware keys accepted in the life-cycle state (Table 14.1) and not revoked. -/
def Otp.fwKey (o : Otp) (i : Nat) : Bool :=
  (i == 0 || (i == 1 && (o.lc == 0 || o.lc == 2 || o.lc == 4))) && !bit o.vendorRevoked i

/-- OEM slot i holds a valid key, and R499 has not destroyed it. -/
def Otp.oemValid (o : Otp) (i : Nat) : Bool := !o.destroyed && (o.oem.getD i ⟨0, []⟩).state == 1

def Otp.oemCount (o : Otp) : Nat := ((List.range 4).filter o.oemValid).length

/-! ### Firmware -/

/-- Step of R504 at which a slot is rejected; 0 accepted. The Helmet ROM's rejection counts as step 5 (R505). -/
def fwReason (o : Otp) (f : FwSeen) : Nat :=
  if !f.formatOk then 1
  else if !o.fwKey f.keyIndex then 2
  else if f.rollback < o.rollback then 3
  else if !f.sigOk then 4
  else if !f.digestsOk then 5
  else 0

/-- Order in which the boot ROM tries the slots (R504): the preferred one, the other of A and B, recovery. -/
def State.slotOrder (s : State) : List FwSlot :=
  if s.durable O.FW_PREFERRED = 1 then [.b, .a, .recovery] else [.a, .b, .recovery]

/-- BOOT_SLOT_CHECK_DONE: both ROMs have examined the slot that is due (R504..R508). -/
def bootSlot (slot : FwSlot) (f : FwSeen) (s : State) : State :=
  match s.sup.slotsLeft with
  | k :: rest =>
    if s.sys.dev = .boot ∧ s.sup.romRunning = true ∧ k = slot then
      let why := fwReason s.otp f
      let why := if why = 0 ∧ f.helmetOk = false then 5 else why
      let old := s.nv.sec.slot slot
      let s := s.set O.REJECT_REASON why (slotNum slot)
      if why ≠ 0 then
        let s := s.putSlot slot (if why = 1 then { old with state := 4 } else ⟨4, f.version, f.rollback, f.keyIndex⟩)
        { s with sup := { s.sup with slotsLeft := rest }, sec := { s.sec with rejects := s.sec.rejects ++ [(slot, why)] } }
      else
        let s := s.putSlot slot ⟨5, f.version, f.rollback, f.keyIndex⟩
        let s := { s with sup := { s.sup with slotsLeft := [], m1Released := true }, sec := { s.sec with running := some slot },
                          hlm := { s.hlm with heartbeat := true },
                          isl := s.isl.map fun (i : Island) => { i with heartbeat := i.live } }
        let s := ((s.set O.FW_VERSION f.version.toNat).set O.HELMET_FW_VERSION f.helmetVersion.toNat).set O.FW_SLOT (slotNum slot)
        let s := (s.set O.KEY_GEN s.otp.procGen 0).set O.KEY_GEN s.otp.ringGen 1
        let s := s.toDev .selftest
        let s := s.sec.rejects.foldl (fun (s : State) x => s.note .fwSlotRejected (slotNum x.1)) s
        (if slot = .recovery then s.note .fwRecoveryRunning else s).vinAfresh.islAfresh.gauntlet
    else s
  | [] => s

/-- BOOT_RETRY: the boot ROM tries the slots again, 1 s after all three were rejected (R507). -/
def bootAgain (s : State) : State :=
  if s.sys.dev = .boot ∧ s.sup.romRunning = true ∧ s.sup.slotsLeft = [] ∧ s.sec.running = none then
    { s with sup := { s.sup with slotsLeft := s.slotOrder }, sec := { s.sec with rejects := [] } }
  else s

/-- FW_SLOT_VERIFY_DONE: a downloaded slot is verified under R504 (R509). -/
def slotVerified (slot : FwSlot) (f : FwSeen) (s : State) : State :=
  if (s.nv.sec.slot slot).state = 2 then
    s.putSlot slot ⟨if fwReason s.otp f = 0 then 3 else 4, f.version, f.rollback, f.keyIndex⟩
  else s

/-- FW_CONFIRM = 1 (R506). -/
def fwConfirmed (id : ReqId) (s : State) : State :=
  if s.sys.dev ≠ .standby ∨ s.sec.running = some .recovery then s.refuse id abortState
  else
    let new := match s.sec.running with | some k => (s.nv.sec.slot k).rollback | none => 0
    if new ≤ s.otp.rollback then s.done id
    else if s.nv.sec.slotR.rollback < new then s.refuse id abortState
    else (s.setOtp { s.otp with rollback := new }).done id

/-- FW_PREFERRED names a slot that reads VALID (R509). -/
def fwPrefer (v : Nat) (id : ReqId) (s : State) : State :=
  if (s.nv.sec.slot (if v = 1 then .b else .a)).state ≠ 3 then s.refuse id abortState
  else s.persist id (O.FW_PREFERRED.key 0) v

/-! ### Sessions -/

/-- End the sessions that a predicate names; SERVICE ends with the session that set it (Table 12.9). -/
def State.endSessions (s : State) (p : Session → Bool) : State :=
  let gone := s.sec.sessions.filter p
  let svc : Bool := match s.sec.serviceHandle with | some h => gone.any (fun x => x.handle == h) | none => false
  let s := { s with sec := { s.sec with sessions := s.sec.sessions.filter (fun x => !p x),
                                        serviceHandle := if svc then none else s.sec.serviceHandle } }
  if svc && s.sys.dev == .service then ((s.toDev .standby).levelActs).gauntlet else s

/-- The next handle 1..255 that no session or challenge holds. -/
def freeHandle (used : List Byte) : Nat → Byte → Byte
  | 0, h => h
  | n + 1, h => if h = 0 ∨ h ∈ used then freeHandle used n (h + 1) else h

/-- AUTH_CHALLENGE (R513): SUB 2 asks for SRV, 3 for VND. -/
def challenge (r : Req) (sub : Byte) (id : ReqId) (s : State) : State :=
  if sub ≠ 2 ∧ sub ≠ 3 then s.refuse id abortValue
  else if s.sec.locked.any (fun x => x.1 == r.port && decide (s.now < x.2 + 60000000)) then s.refuse id abortState
  else if s.sec.trngBad then s.refuse id abortHardware
  else
    let used := s.sec.sessions.map (fun x => x.handle) ++ s.sec.challenges.map (fun x => x.handle)
    let h := freeHandle used 256 s.sec.nextHandle
    let nonce := leBytes 32 (Config.trng s.freeIx)
    let c : Challenge := ⟨r.port, h, if sub = 2 then .srv else .vnd, nonce, s.now, none⟩
    let s := { s with sec := { s.sec with challenges := s.sec.challenges ++ [c], nextHandle := h + 1 } }
    s.draw.reply id (.ok (nonce ++ [h]))

/-- The signature of a challenge verifies (R513, step 4): by any valid OEM slot for SRV, by V0 or V1 for VND. -/
def authOk (o : Otp) (c : Challenge) (r sig : List Byte) : Bool :=
  let msg := c.nonce ++ leBytes 8 Config.serialNumber.toNat ++ [BitVec.ofNat 8 c.level.num, BitVec.ofNat 8 (portCode c.port), c.handle]
  if c.level = .srv then
    (List.range 4).any fun i => o.oemValid i && Config.ecdsaOk (o.oem.getD i ⟨0, []⟩).hash msg (r ++ sig)
  else (List.range 2).any fun i => o.fwKey i && Config.ecdsaOk (Config.vendorHash i) msg (r ++ sig)

/-- A failed response: counted; the third within 60 s in a scope locks it (R514). -/
def State.authFail (s : State) (p : Port) : State :=
  let s := s.bump O.AUTH_FAILS
  let fails := (p, s.now) :: s.sec.fails.filter (fun x => decide (s.now < x.2 + 60000000))
  if 3 ≤ (fails.filter (fun x => x.1 == p)).length then
    { s with sec := { s.sec with fails := fails.filter (fun x => x.1 != p), locked := (p, s.now) :: s.sec.locked.filter (fun x => x.1 != p) } }.note .authLockout
  else { s with sec := { s.sec with fails := fails } }

/-- AUTH_RESPONSE (R513): SUB 0 carries r and SUB 1 carries s of the challenge whose handle SESSION names. -/
def respond (r : Req) (sub : Byte) (data : List Byte) (id : ReqId) (s : State) : State :=
  match s.sec.challenges.find? (fun c => c.handle == r.session && c.port == r.port && decide (s.now ≤ c.time + 10000000)) with
  | none => s.refuse id abortSession
  | some c =>
    let others := s.sec.challenges.filter (fun x => x.handle != c.handle)
    if data.length ≠ 32 then s.refuse id abortLength
    else if sub = 0 then
      { s with sec := { s.sec with challenges := others ++ [{ c with r := some data }] } }.done id
    else if sub = 1 then
      let s := { s with sec := { s.sec with challenges := others } }
      match c.r with
      | none => s.refuse id abortState
      | some rr =>
        if authOk s.otp c rr data then
          let s := s.endSessions (fun x => x.port == r.port)
          { s with sec := { s.sec with sessions := s.sec.sessions ++ [(⟨r.port, c.handle, c.level, s.now⟩ : Session)] } }.done id
        else (s.authFail r.port).refuse id abortValue
    else s.refuse id abortValue

/-- SESSION_CLOSE with a handle (R514). -/
def closeSession (h : Byte) (id : ReqId) (s : State) : State :=
  if s.sec.sessions.any (fun x => x.handle == h) then (s.endSessions (fun x => x.handle == h)).done id
  else s.refuse id abortValue

/-- SESSION_IDLE_TIMEOUT: sessions that no request has used for SESSION_IDLE end (R514). -/
def idleSessions (s : State) : State :=
  s.endSessions (fun x => decide (x.last + s.getN O.SESSION_IDLE * 1000000 ≤ s.now))

/-- AUTH_LOCKOUT_END: lockouts end 60 s after they began (R514). -/
def lockoutEnd (s : State) : State :=
  let left := s.sec.locked.filter (fun x => decide (s.now < x.2 + 60000000))
  let s := { s with sec := { s.sec with locked := left } }
  if left.isEmpty then s.unnote .authLockout else s

/-! ### Life cycle and keys -/

/-- Level that a life-cycle transition needs (Table 14.2); none for a pair that the table does not list. -/
def lcLevel (src dst : Nat) : Option Lvl :=
  if src = 1 ∧ dst = 3 then some .srv
  else if (src = 0 ∧ dst = 1) ∨ (src = 1 ∧ dst = 2) ∨ ((src = 1 ∨ src = 2 ∨ src = 3) ∧ dst = 4) then some .vnd
  else none

/-- LC_REQUEST (R498, R499): the change, its reply, and the control-die reset with COMMAND. -/
def lcChange (lvl : Lvl) (dst : Nat) (id : ReqId) (s : State) : State :=
  let o := s.otp
  match lcLevel o.lc dst with
  | none => s.refuse id abortState
  | some need =>
    let v0 : Bool := match s.sec.running with | some k => (s.nv.sec.slot k).keyIndex == 0 | none => false
    if lvl.num < need.num then s.refuse id abortLevel
    else if s.sys.dev ≠ .standby ∧ s.sys.dev ≠ .service then s.refuse id abortState
    else if dst = 3 ∧ (o.oemCount = 0 ∨ v0 = false) then s.refuse id abortState
    else if dst = 4 ∧ s.sys.dev ≠ .service then s.refuse id abortState
    else
      let gone := dst == 4
      let o := { o with lc := dst, identity := (o.identity || dst == 1) && !gone, destroyed := o.destroyed || gone }
      let s := (s.setOtp o).done id
      (s.dieReset 6).send s.out

/-- OEM_KEY_REVOKE (R501). -/
def revokeKey (k : Nat) (id : ReqId) (s : State) : State :=
  if ((List.range 4).filter (fun i => i != k && s.otp.oemValid i)).isEmpty then s.refuse id abortState
  else
    (s.setOtp { s.otp with oem := s.otp.oem.modify k (fun e => { e with state := 2 }) }).done id

/-- OEM_KEY_WRITE may be written now at this level (R501): the abort code if not. -/
def State.keyWriteCheck (s : State) (lvl : Lvl) : Option Nat :=
  if s.otp.oemCount = 0 then (if s.otp.lc = 1 ∨ s.otp.lc = 2 then none else some abortState)
  else if lvl.num < Lvl.srv.num then some abortLevel
  else if s.otp.lc = 4 then some abortState else none

/-- The 33 bytes of OEM_KEY_WRITE have arrived (R501). -/
def State.keyWrite (s : State) (data : List Byte) : Option Nat × State :=
  let k := (data.headD 0).toNat
  if data.length ≠ 33 then (some abortLength, s)
  else if 3 < k then (some abortValue, s)
  else if (s.otp.oem.getD k ⟨0, []⟩).state ≠ 0 then (some abortState, s)
  else (none, s.setOtp { s.otp with oem := s.otp.oem.set k ⟨1, data.drop 1⟩ })

/-- The 192 bytes of KEY_BLOB have arrived (R502, Table 14.4): the checks in order. -/
def State.keyBlob (s : State) (data : List Byte) : Option Nat × State :=
  let o := s.otp
  let target := (data.getD 0 0).toNat
  let gen := (data.getD 1 0).toNat
  let key := (data.getD 0x64 0).toNat
  let held := if target = 1 then o.procGen else o.ringGen
  let ok := data.length == 192 && (target == 1 || target == 2) && leNat ((data.drop 4).take 8) == Config.serialNumber.toNat &&
    gen == held + 1 && o.oemValid key &&
    Config.ecdsaOk (o.oem.getD key ⟨0, []⟩).hash (data.take 0x80) (data.drop 0x80) && o.identity && Config.unwrapOk data
  if held = 4 ∧ (target = 1 ∨ target = 2) then (some abortState, s)
  else if ok then
    (none, (s.setOtp (if target = 1 then { o with procGen := gen } else { o with ringGen := gen })).unnote .keyBlobFail)
  else (some abortValue, s.note .keyBlobFail)

/-! ### Parameter sets -/

def SecNv.half (n : SecNv) (h : Bool) : ParamHalf := if h then n.half1 else n.half0

def SecNv.putHalf (n : SecNv) (h : Bool) (x : ParamHalf) : SecNv := if h then { n with half1 := x } else { n with half0 := x }

/-- The half whose activation record has the higher sequence number (R511). -/
def SecNv.activeHalf (n : SecNv) : Option Bool :=
  if n.half0.seq = 0 ∧ n.half1.seq = 0 then none else some (decide (n.half0.seq < n.half1.seq))

def State.putHalf (s : State) (h : Bool) (x : ParamHalf) : State := { s with nv := { s.nv with sec := s.nv.sec.putHalf h x } }

/-- An entry names an RW object writable at SRV or below, with SIZE equal to its type (R511, check 2). -/
def paramEntryOk (e : Nat × List Byte) : Bool :=
  match findObj e.1 with
  | some (o, _) => o.acc == .rw && decide (o.lvl.num ≤ Lvl.srv.num) && e.2.length == o.ty.bytes
  | none => false

/-- Its value lies within the object's Unit/Range (check 3). -/
def paramValueOk (e : Nat × List Byte) : Bool :=
  match findObj e.1 with
  | some (o, _) => o.accepts (o.ty.decode e.2)
  | none => false

def noRepeats : List Nat → Bool
  | [] => true
  | a :: t => !t.contains a && noRepeats t

/-- PARAM_RESULT of a set (R511): 0 pass, 1..6 the first failing check, 7 NV error. -/
def State.paramResult (s : State) (p : ParamSet) : Nat :=
  if !p.nvOk then 7
  else if !p.headerOk then 1
  else if !p.entries.all paramEntryOk then 2
  else if !p.entries.all paramValueOk then 3
  else if !noRepeats (p.entries.map (fun e => e.1)) then 4
  else if p.version < s.durable O.MIN_PARAM_VERSION then 5
  else if !(p.sigOk && s.otp.oemValid p.keyIndex) then 6
  else 0

/-- PARAM_VERIFY_DONE: the half just written is verified (R511). -/
def paramVerified (h : Bool) (p : ParamSet) (s : State) : State :=
  let x := s.nv.sec.half h
  if x.state = 2 then
    let res := s.paramResult p
    (s.putHalf h { x with state := if res = 0 then 3 else 4, set := if res = 0 then some p else none }).set O.PARAM_RESULT res
  else s

/-- PARAM_ACTIVATE = 1 (R511). -/
def paramActivated (id : ReqId) (s : State) : State :=
  let h := match s.nv.sec.activeHalf with | some h => !h | none => s.nv.sec.half0.state != 3
  let x := s.nv.sec.half h
  let y := s.nv.sec.half (!h)
  if (s.sys.dev ≠ .standby ∧ s.sys.dev ≠ .ready) ∨ x.state ≠ 3 then s.refuse id abortState
  else
    let s := s.putHalf h { x with state := 5, seq := y.seq + 1 }
    (s.putHalf (!h) { y with state := if y.state = 5 then 3 else y.state }).done id

/-- Apply the active parameter set at start-up (R512). -/
def State.applyParams (s : State) (nvOk : Bool) : State :=
  match s.nv.sec.activeHalf with
  | none => s
  | some h =>
    match (s.nv.sec.half h).set with
    | none => s.note .paramInvalid
    | some p =>
      if !nvOk || s.paramResult p != 0 then s.note .paramInvalid
      else if (p.scope : Int) ≠ s.durable O.CONFIG then s.note .paramScope
      else
        let s := p.entries.foldl (fun s e => match findObj e.1 with
          | some (o, q) => if o.grp = 0 then s.set o (o.ty.decode e.2) q else { s with staged := s.staged.put e.1 (o.ty.decode e.2) }
          | none => s) s
        { (s.set O.PARAM_SET_ID p.setId.toNat).set O.PARAM_VERSION p.version with sec := { s.sec with appliedScope := some p.scope } }

/-! ### Debug port -/

/-- An instruction of the TAP (R515): in FIELD only BYPASS and IDCODE; EXTEST only in STANDBY with the island supplies off. An instruction not offered selects BYPASS. -/
def tapDo (i : TapInstr) (s : State) : State :=
  let field := s.otp.lc == 3
  let ok : Bool := match i with
    | .bypass | .idcode => true
    | .samplePreload => !field
    | .extest => !field && s.sys.dev == .standby && s.isl.all (fun x => !x.supplyOn)
    | .debugAccess => !field
  { s with sec := { s.sec with tap := if ok then i else .bypass } }

/-! ### The commands -/

def execBootSlotCheckDone (slot : FwSlot) (seen : FwSeen) (s : State) : Host.Outcome State Fault Refusal := .next (bootSlot slot seen s)

def execBootRetry (s : State) : Host.Outcome State Fault Refusal := .next (bootAgain s)

def execAuthChallenge (r : Req) (sub : Byte) (s : State) : Host.Outcome State Fault Refusal :=
  .next (s.service r 0x30 (0x2D3000 + sub.toNat) (challenge r sub))

def execAuthResponse (r : Req) (sub : Byte) (data : List Byte) (s : State) : Host.Outcome State Fault Refusal :=
  .next (s.service r 0x31 (0x2D3000 + sub.toNat) (respond r sub data) true)

def execSessionClose (r : Req) (handle : Byte) (s : State) : Host.Outcome State Fault Refusal :=
  .next (s.writeReq r O.SESSION_CLOSE 0 handle.toNat (closeSession handle))

def execSessionIdleTimeout (s : State) : Host.Outcome State Fault Refusal := .next (idleSessions s)

def execAuthLockoutEnd (s : State) : Host.Outcome State Fault Refusal := .next (lockoutEnd s)

/-- The TRNG fails a health test (R514). -/
def execTrngHealthFail (s : State) : Host.Outcome State Fault Refusal :=
  .next ({ s with sec := { s.sec with trngBad := true } }.note .trngFail)

def execLcRequest (r : Req) (v : Word) (s : State) : Host.Outcome State Fault Refusal :=
  .next (s.writeReq r O.LC_REQUEST 0 v.toNat fun id s =>
    lcChange ((s.levelOf r.port r.session).getD .opr) (v.toNat - 0x4C430000) id s)

def execOemKeyRevoke (r : Req) (slot : Byte) (s : State) : Host.Outcome State Fault Refusal :=
  .next (s.writeReq r O.OEM_KEY_REVOKE 0 slot.toNat (revokeKey slot.toNat))

def execFwConfirm (r : Req) (s : State) : Host.Outcome State Fault Refusal :=
  .next (s.writeReq r O.FW_CONFIRM 0 1 fwConfirmed)

def execFwPreferred (r : Req) (v : Byte) (s : State) : Host.Outcome State Fault Refusal :=
  .next (s.writeReq r O.FW_PREFERRED 0 v.toNat (fwPrefer v.toNat))

def execFwSlotVerifyDone (slot : FwSlot) (seen : FwSeen) (s : State) : Host.Outcome State Fault Refusal :=
  .next (slotVerified slot seen s)

def execParamVerifyDone (half : Bool) (set : ParamSet) (s : State) : Host.Outcome State Fault Refusal :=
  .next (paramVerified half set s)

def execParamActivate (r : Req) (s : State) : Host.Outcome State Fault Refusal :=
  .next (s.writeReq r O.PARAM_ACTIVATE 0 1 paramActivated)

def execTapInstruction (i : TapInstr) (s : State) : Host.Outcome State Fault Refusal := .next (tapDo i s)

end Sys2Proof.Machine
end

