-- ==== Sys2Proof/Machine/Supply.lean ====
section
/-! DEFINITION. Supplies, clocks, resets, start-up, low-power states and temperature (R69..R95). -/

namespace Sys2Proof.Machine

/-- The firmware runs: faults are reported. -/
def DevState.runs (d : DevState) : Bool := d.serves || d == .selftest

/-! ### VIN, VDDIO and rails -/

/-- VIN_POR_RISE: VSAFE and VAON start; AON starts from its reset values as a power-on; RESET_CAUSE records the other sources in force (R70, R81, R92). -/
def vinPor (s : State) : State :=
  if s.sup.vinUp then s
  else
    let held := s.sup.thermal && s.sup.thermLatch && decide (s.now < s.sup.fallAt + 10000)
    let s := { s with sup := { s.sup with vinUp := true, thermal := held, thermLatch := held, thermLog := false,
                                          hold := { s.sup.hold with por := true, thermal := held } } }
    (((s.set O.RESET_CAUSE (ofBits [true, false, s.sup.hold.pin, held])).set O.THERM_SHUTDOWN_COUNT 0).set O.WAKE_CAUSE 0).set O.CONFIG_ACTIVE 0xFF

/-- VIN_POR_FALL: the whole module is in reset and every island supply stops (R70, R75, R80). -/
def vinPorLost (s : State) : State :=
  if !s.sup.vinUp then s
  else
    let s := s.dieCleared true
    { s with isl := s.isl.map Island.unpower, opTime := s.nv.opTime,
             sup := { s.sup with vinUp := false, vinValid := false, vinHi := false, vinWarn := false, fallAt := s.now, asleep := 0,
                                 hold := { s.sup.hold with por := true } },
             sys := { s.sys with dev := .off } }

/-- VIN_VALID_RISE: a power-on start-up attempt begins (R82, R83). -/
def vinValidUp (straps : BitVec 2) (s : State) : State :=
  if s.sup.vinUp ∧ s.sup.hold.por = true then
    let s := { s with sup := { s.sup with vinValid := true, hold := { s.sup.hold with por := false } },
                      pins := { s.pins with straps := straps } }
    if s.sup.hold.none then { s with sys := { s.sys with dev := .boot, since := s.now } }.enterBoot else s
  else s

/-- VIN_UV_FALL: reported once the firmware runs (R70; R349 for a condition that outlasts a reset). -/
def vinLow (s : State) : State :=
  if !s.sup.vinUp then s
  else
    let s := { s with sup := { s.sup with vinValid := false } }
    if s.sys.dev.runs then s.post .vinUv else s

/-- VIN_UV leaves; before the firmware runs there is nothing to leave. -/
def vinBack (d : Nat) (s : State) : State :=
  if !s.sup.vinUp || s.sup.hold.por then s
  else
    let s := { s with sup := { s.sup with vinValid := true } }
    if s.sys.dev.runs then s.leave .vinUv d else s

def vinHighSet (hi : Bool) (s : State) : State :=
  let s := { s with sup := { s.sup with vinHi := hi && s.sup.vinUp } }
  if s.sys.dev.runs then s.noteIf hi .vinHigh else s

def warnLow (below : Bool) (s : State) : State :=
  let s := { s with sup := { s.sup with vinWarn := below && s.sup.vinUp } }
  if s.sys.dev.runs then s.noteIf below .vinWarnLow else s

/-- VDDIO_OUT_OF_BAND (R72). -/
def vddioOut (s : State) : State :=
  if s.sys.dev.runs ∧ s.get O.VDDIO_LEVEL ≠ 0 then { s with pins := { s.pins with vddioHiZ := true } }.post .vddioFail else s

/-- VDDIO_BACK_IN_BAND (R72): with no band detected at start-up there is none to be back in. -/
def vddioBack (s : State) : State :=
  if s.sys.dev.runs ∧ s.get O.VDDIO_LEVEL ≠ 0 then { s with pins := { s.pins with vddioHiZ := false } }.leave .vddioFail else s

def railNum : Rail → Nat
  | .vcore => 0 | .vsafe => 1 | .vana => 2 | .vser => 3 | .vnv => 4

/-- The Helmet stops: its heartbeat ends and every permit becomes invalid (Table 1.7). -/
def State.helmetStops (s : State) : State :=
  ({ s with hlm := { s.hlm with stopped := true, heartbeat := false, permit := false },
            isl := s.isl.map fun (i : Island) => { i with heartbeat := false } }).refreshIsl

/-- RAIL_OUT_OF_WINDOW (R94). -/
def railOut (r : Rail) (s : State) : State :=
  if s.sup.asleep ≠ 0 ∨ s.sup.vinUp = false ∨ s.sup.hold.por = true then s
  else match r with
    | .vsafe => (s.raise 5 .safeRailFail 0).helmetStops
    | _ => if s.sys.dev = .boot ∧ s.sup.romRunning = false then s else s.resetFault .railFail (railNum r) 5

/-! ### Clocks -/

def domNum : ClockDomain → Nat
  | .core => 0 | .pwm => 1 | .sense => 2 | .net => 3 | .bus => 4 | .safe => 5 | .link => 6 | .map => 7 | .aon => 8

/-- CLOCK_STATUS bit of a PLL (Table 3.4). -/
def pllBit : Pll → Nat
  | .pllA => 7 | .pllAPwm => 6 | .pllB => 5 | .serdes => 4

def pllNum : Pll → Nat
  | .pllA => 0 | .pllAPwm => 1 | .pllB => 2 | .serdes => 3

def State.clockBit (s : State) (i : Nat) (b : Bool) : State := s.set O.CLOCK_STATUS (setBit (s.get O.CLOCK_STATUS) i b)

/-- CLOCK_CHECK_WINDOW: beyond ±3 % in two consecutive windows is a clock fault (R79). -/
def clockWindow (d : ClockDomain) (dev : Int) (s : State) : State :=
  if !bit (s.get O.CLOCK_STATUS) 0 then s
  else
    let bad := decide (30 < absI dev)
    let twice := bad && s.sup.clockDev.contains d
    let s := { s with sup := { s.sup with clockDev := (s.sup.clockDev.filter fun x => x != d) ++ (if bad then [d] else []) } }
    let s := match d with
      | .safe => s.clockBit 2 !bad
      | .aon => s.clockBit 1 !bad
      | _ => s
    if !twice then s
    else match d with
      | .safe => s.raise 5 .safeClockFail 0
      | _ => s.resetFault .clockMismatch (domNum d) 4

def pllLost (p : Pll) (s : State) : State :=
  if !bit (s.get O.CLOCK_STATUS) 0 then s else (s.clockBit (pllBit p) false).resetFault .pllUnlock (pllNum p) 4

def crystalLost (s : State) : State :=
  if !bit (s.get O.CLOCK_STATUS) 8 then s else (s.clockBit 8 false).resetFault .xtalFail 0 4

/-! ### Start-up -/

/-- VDDIO level detected (R72): 1 for 3.3 V, 2 for 5 V, 0 invalid. -/
def vddioLevel (mv : Nat) : Nat :=
  if 2970 ≤ mv ∧ mv ≤ 3630 then 1 else if 4500 ≤ mv ∧ mv ≤ 5500 then 2 else 0

/-- START_ATTEMPT_CHECK: the checks of a start-up attempt (R72, R82, R83). -/
def attemptCheck (xtalOk railsOk pllsOk : Bool) (vddioMv : Nat) (s : State) : State :=
  if !s.sup.attempting then s
  else
    let fail := fun (c : AttemptCause) => { s with sup := { s.sup with attempting := false, attemptFailed := some c, xtalMissed := s.sup.xtalMissed || c == AttemptCause.crystal } }
    if !railsOk then fail .rails
    else if !xtalOk then fail .crystal
    else if !pllsOk then fail .plls
    else
      let lvl := vddioLevel vddioMv
      let missed := s.sup.xtalMissed
      let s := { s with sup := { s.sup with attempting := false, attemptFailed := none, clearing := true, xtalMissed := false },
                        pins := { s.pins with vddioHiZ := lvl == 0 } }
      let s := ((s.set O.CLOCK_STATUS 0x1F7).set O.VDDIO_LEVEL lvl).set O.VDDIO_MEAS vddioMv
      let s := if missed then s.record 1 5 FaultCode.xtalFail.num 0 else s
      if lvl = 0 then s.post .vddioFail else s

/-- START_RETRY (R83). -/
def retry (s : State) : State :=
  if s.sup.attemptFailed.isSome then { s with sup := { s.sup with attempting := true, attemptFailed := none } } else s

/-- SRAM_CLEAR_DONE: M0 and the Helmet are released to their ROMs (R82, R85). -/
def sramCleared (s : State) : State :=
  if s.sup.clearing then
    { s with sup := { s.sup with clearing := false, romRunning := true, slotsLeft := s.slotOrder } }
  else s

/-! ### RESET_N -/

/-- RESET_N low takes effect (R81). -/
def pinReset (s : State) : State :=
  let s := { s with pins := { s.pins with resetN := false }, sup := { s.sup with hold := { s.sup.hold with pin := true } } }
  if !s.sup.vinUp then s
  else if s.sup.asleep ≠ 0 then s
  else if !s.sup.hold.por then s.dieReset 2 true
  else s.set O.RESET_CAUSE (setBit (s.get O.RESET_CAUSE) 2 true)

/-- RESET_N_FALL with the time it has been low: under 100 ns ignored; 100 ns to 1 µs open (R81; assumption 7). -/
def resetLow (ns : Nat) (s : State) : State :=
  if ns < 100 ∨ s.pins.resetN = false then s
  else if ns < 1000 then (if Config.freeBit s.freeIx then pinReset s.draw else s.draw)
  else pinReset s

/-- RESET_N_RISE: RESET_N is no longer a reset source. -/
def resetHigh (straps : BitVec 2) (s : State) : State :=
  if s.pins.resetN then s
  else
    let s := { s with pins := { s.pins with resetN := true, straps := straps },
                      sup := { s.sup with hold := { s.sup.hold with pin := false } } }
    if s.sup.vinUp && s.sup.hold.none && s.sup.asleep == 0 then s.enterBoot else s

/-! ### SLEEP and OFF -/

/-- Leave SLEEP or OFF (R81, R86): 1 by WAKE, 2 by the wake timer; RESET_N low then is a second source in force. -/
def wakeUp (cause : Nat) (straps : BitVec 2) (s : State) : State :=
  let off := s.sup.asleep == 2
  let s := if off then ((s.set O.RESET_CAUSE 0x80).set O.THERM_SHUTDOWN_COUNT 0).set O.CONFIG_ACTIVE 0xFF
           else s.set O.RESET_CAUSE (setBit (s.get O.RESET_CAUSE) 7 true)
  let s := if s.sup.hold.pin then s.set O.RESET_CAUSE (setBit (s.get O.RESET_CAUSE) 2 true) else s
  let s := { s.set O.WAKE_CAUSE cause with sup := { s.sup with asleep := 0, entering := none }, pins := { s.pins with straps := straps },
                                           sys := { s.sys with dev := .boot, since := s.now } }
  if s.sup.hold.none then s.enterBoot else s

/-- SLEEP_ENTRY_DONE (R87): the pending persistent writes and the operating time are saved, the networks stopped and the rails removed; a wake that came meanwhile acts at once. -/
def sleepDone (wake timer : Bool) (s : State) : State :=
  match s.sup.entering with
  | none => s
  | some d =>
    let s := s.dict.persist.foldl (fun (s : State) w => s.saveRec w.key w.val) s
    let s := if s.charger then (s.saveRec (O.ENERGY_IMPORT.key 0) (s.get O.ENERGY_IMPORT)).saveRec (O.ENERGY_EXPORT.key 0) (s.get O.ENERGY_EXPORT) else s
    let straps := s.pins.straps
    let timed := timer && d == 0 && s.get O.WAKE_TIMER != 0
    let s := s.saveOpTime
    let s := s.dieCleared false
    let s := { s with isl := s.isl.map Island.unpower, sup := { s.sup with asleep := d + 1 }, sys := { s.sys with dev := .sleep } }
    if wake then wakeUp 1 straps s else if timed then wakeUp 2 straps s else s

/-- WAKE_RISE (R86, R87): a high time under 50 µs is ignored. -/
def wakeRise (us : Nat) (straps : BitVec 2) (s : State) : State :=
  if us < 50 then s
  else
    let s := { s with pins := { s.pins with wakeUntil := s.now + us } }
    if s.sup.asleep = 0 then s else wakeUp 1 straps s

def wakeTimer (straps : BitVec 2) (s : State) : State := if s.sup.asleep = 1 then wakeUp 2 straps s else s

/-- ISLAND_SUPPLY_RELEASE_TIMER (R452). -/
def releaseTimer (s : State) : State :=
  match s.sup.releaseFrom with
  | some t => if s.sup.keepSupplies = true ∧ s.sys.dev = .standby ∧ t + 1000000 ≤ s.now then s.islandsOff.gauntlet else s
  | none => s

/-! ### Temperature -/

/-- Neighbours of a temperature sensor 1..20 (R89). -/
def tempNeighbours (cfg k : Nat) : List Nat :=
  if k ≤ 6 then [1, 2, 3, 4, 5, 6].filter fun j => j != k
  else if 19 ≤ k then [1, 2, 3, 4, 5, 6]
  else (partnersOf cfg (Fin.ofNat 12 (k - 7))).map fun p => p.val + 7

/-- Reading of sensor k, 0.1 °C; none when it is an unpowered island's (R88). -/
def State.tempOf (s : State) (temps : List Int) (k : Nat) : Option Int :=
  if 7 ≤ k ∧ k ≤ 18 ∧ (s.isl.getD (k - 7) State.resetIsland).live = false then none else some (temps.getD (k - 1) 0)

/-- Range of a valid reading, 0.1 °C (R89). -/
def tempInRange (t : Int) : Bool := decide (-550 ≤ t) && decide (t ≤ 2000)

/-- A reading in range and within 20 K of the mean of its neighbours' valid readings (R89). -/
def State.tempPlausible (s : State) (temps : List Int) (k : Nat) (t : Int) : Bool :=
  let ns := (((tempNeighbours s.cfg k).filter fun j => !s.sup.tempFailed.contains j).filterMap (s.tempOf temps)).filter tempInRange
  tempInRange t &&
  (ns.isEmpty || decide (absQ ((t : Rat) - divQ (sumQ (ns.map fun (x : Int) => (x : Rat))) ns.length) ≤ 200))

/-- One sensor of a scan: its object and its failure (R88, R89). -/
def State.tempOne (temps : List Int) (s : State) (k : Nat) : State :=
  match s.tempOf temps k with
  | none => s.set O.TEMP_SENSOR (-32768) (k - 1)
  | some t =>
    let s := s.set O.TEMP_SENSOR t (k - 1)
    let ok := s.tempPlausible temps k t
    if s.sup.tempFailed.contains k then
      match s.sup.tempOk.lookup k, ok with
      | none, true => { s with sup := { s.sup with tempOk := (k, s.now) :: s.sup.tempOk } }
      | some t0, true =>
        if t0 + 1000000 ≤ s.now then
          ({ s with sup := { s.sup with tempFailed := s.sup.tempFailed.erase k, tempOk := s.sup.tempOk.filter fun x => x.1 != k } }).unnote .tempSensorFail k
        else s
      | _, false => { s with sup := { s.sup with tempOk := s.sup.tempOk.filter fun x => x.1 != k } }
    else if ok then s
    else { s with sup := { s.sup with tempFailed := s.sup.tempFailed ++ [k] } }.note .tempSensorFail k

/-- The highest reading of the sensors that have not failed, with its sensor (R88). -/
def State.tempTop (s : State) (temps : List Int) : Option (Int × Nat) :=
  (List.range 20).foldl (fun best i =>
    let k := i + 1
    if s.sup.tempFailed.contains k then best
    else match s.tempOf temps k, best with
      | none, _ => best
      | some t, none => some (t, k)
      | some t, some (b, j) => if b < t then some (t, k) else some (b, j)) none

/-- TEMP_SCAN (R88..R90). -/
def tempScan (temps : List Int) (s : State) : State :=
  if !s.sys.dev.runs then s
  else
    let s := (List.range 20).foldl (fun (s : State) i => s.tempOne temps (i + 1)) s
    match s.tempTop temps with
    | none => s
    | some (t, k) =>
      let s := (s.set O.TEMP_MAX t).set O.TEMP_MAX_SRC k
      let w := s.get O.TEMP_WARN
      let d := s.get O.TEMP_DERATE
      let s := if w ≤ t then s.note .tempWarn else if t ≤ w - 50 then s.unnote .tempWarn else s
      if d ≤ t then s.note .tempDerate else if t ≤ d - 50 then s.unnote .tempDerate else s

/-- Checks of the temperature COMMIT (R95). -/
def tempCheck (s : State) : Option Nat := if s.planned O.TEMP_DERATE < s.planned O.TEMP_WARN then some abortValue else none

/-- THERMAL_SHUTDOWN_TRIP (R91, R92, R93): the permit goes, the islands take their preload, and the control die is held in reset. -/
def thermalTrip (s : State) : State :=
  if s.sup.thermal ∨ s.sup.vinUp = false ∨ s.sup.asleep ≠ 0 then s
  else
    let n := s.getN O.THERM_SHUTDOWN_COUNT
    let latch := s.get O.THERM_MODE_ACTIVE == 1
    let s := s.set O.THERM_SHUTDOWN_COUNT (if n < 65535 then n + 1 else n)
    let s := { s with sup := { s.sup with thermal := true, thermLatch := latch, thermLog := true, hold := { s.sup.hold with thermal := true } } }
    s.gauntlet.dieReset 3

/-- THERMAL_DWELL_END: all sensors below 145.0 °C for 100 ms (Table 3.11); the latch behaviour does not restart. -/
def dwellEnd (s : State) : State :=
  if s.sup.thermal && !s.sup.thermLatch then
    let s := { s with sup := { s.sup with thermal := false, hold := { s.sup.hold with thermal := false } } }
    if s.sup.hold.none then s.enterBoot else s
  else s

/-! ### The commands -/

def execVinPorRise (s : State) : Host.Outcome State Fault Refusal := .next (vinPor s)

def execVinPorFall (s : State) : Host.Outcome State Fault Refusal := .next (vinPorLost s)

def execVinValidRise (straps : BitVec 2) (s : State) : Host.Outcome State Fault Refusal := .next (vinValidUp straps s)

def execVinUvFall (s : State) : Host.Outcome State Fault Refusal := .next (vinLow s)

/-- VIN above VIN_HI+ reports VIN_HIGH; above 45 V the behaviour is not specified (R71). -/
def execVinHighRise (vinMv : Nat) (s : State) : Host.Outcome State Fault Refusal :=
  if 45000 < vinMv then .fault .vinBeyondLimit else .next (vinHighSet true s)

def execVinHighFall (s : State) : Host.Outcome State Fault Refusal := .next (vinHighSet false s)

def execVinWarnLowCross (below : Bool) (s : State) : Host.Outcome State Fault Refusal := .next (warnLow below s)

def execVddioOutOfBand (s : State) : Host.Outcome State Fault Refusal := .next (vddioOut s)

def execVddioBackInBand (s : State) : Host.Outcome State Fault Refusal := .next (vddioBack s)

def execRailOutOfWindow (rail : Rail) (s : State) : Host.Outcome State Fault Refusal := .next (railOut rail s)

def execClockCheckWindow (dom : ClockDomain) (devPpt : Int) (s : State) : Host.Outcome State Fault Refusal := .next (clockWindow dom devPpt s)

def execPllLossOfLock (pll : Pll) (s : State) : Host.Outcome State Fault Refusal := .next (pllLost pll s)

def execCrystalLoss (s : State) : Host.Outcome State Fault Refusal := .next (crystalLost s)

def execStartAttemptCheck (xtalOk railsOk pllsOk : Bool) (vddioMv : Nat) (s : State) : Host.Outcome State Fault Refusal :=
  .next (attemptCheck xtalOk railsOk pllsOk vddioMv s)

def execStartRetry (s : State) : Host.Outcome State Fault Refusal := .next (retry s)

def execResetNFall (lowNs : Nat) (s : State) : Host.Outcome State Fault Refusal := .next (resetLow lowNs s)

def execResetNRise (straps : BitVec 2) (s : State) : Host.Outcome State Fault Refusal := .next (resetHigh straps s)

def execSramClearDone (s : State) : Host.Outcome State Fault Refusal := .next (sramCleared s)

def execIslandSupplyReleaseTimer (s : State) : Host.Outcome State Fault Refusal := .next (releaseTimer s)

def execSleepEntryDone (wake timer : Bool) (s : State) : Host.Outcome State Fault Refusal := .next (sleepDone wake timer s)

def execWakeRise (highUs : Nat) (straps : BitVec 2) (s : State) : Host.Outcome State Fault Refusal := .next (wakeRise highUs straps s)

def execWakeTimerExpiry (straps : BitVec 2) (s : State) : Host.Outcome State Fault Refusal := .next (wakeTimer straps s)

def execTempScan (temps : List Int) (s : State) : Host.Outcome State Fault Refusal := .next (tempScan temps s)

/-- The sensor only tells which comparison tripped; the module acts alike for each (R91). -/
def execThermalShutdownTrip (_sensor : Fin 20) (s : State) : Host.Outcome State Fault Refusal := .next (thermalTrip s)

def execThermalDwellEnd (s : State) : Host.Outcome State Fault Refusal := .next (dwellEnd s)

/-- PROCESS_MONITOR_TICK (R94): the band 0 is the factory band. -/
def execProcessMonitorTick (code band : Nat) (s : State) : Host.Outcome State Fault Refusal :=
  .next (if s.sys.dev.runs then ((s.set O.PROCESS_CODE code).set O.PROCESS_STATE band).noteIf (band != 0) .processBand else s)

/-- ISL_POWER_AVERAGE (R74): reported from 1.5 W, left below 1.4 W (Table 3.12). -/
def execIslPowerAverage (n : IslIx) (mw : Nat) (s : State) : Host.Outcome State Fault Refusal :=
  let t := s.set O.ISL_POWER mw n.val
  .next (if 1500 ≤ mw then t.note .islPowerHigh n.val else if mw < 1400 then t.unnote .islPowerHigh n.val else t)

/-- TEMP_COMMIT (R95): TEMP_DERATE below TEMP_WARN is refused. -/
def execTempCommit (r : Req) (s : State) : Host.Outcome State Fault Refusal :=
  .next (s.commit r O.COMMIT_2A20 0 tempCheck)

/-- RESET_CAUSE_CLEAR: each bit is cleared by writing 1 (R81). -/
def execResetCauseClear (r : Req) (mask : Half) (s : State) : Host.Outcome State Fault Refusal :=
  .next (s.writeReq r O.RESET_CAUSE 0 mask.toNat fun id s =>
    (s.set O.RESET_CAUSE ((BitVec.ofInt 16 (s.get O.RESET_CAUSE) &&& ~~~ mask).toNat)).done id)

end Sys2Proof.Machine
end

