-- ==== Sys2Proof/Machine/Island.lean ====
section
/-! DEFINITION. Gate-drive islands: supply start, verification, edge-channel symbols, phases, interlock, bootstrap supply, probes, balancer and die isolation (R96..R134, R142..R147). -/

namespace Sys2Proof.Machine

/-- Detail of a fault of output k of island n (assumption 16): island in bits 7..0, output in bits 15..8. -/
def outDetail (n : IslIx) (k : Nat) : Nat := n.val + 0x100 * k

/-- Act on island n only while it is supplied. -/
def State.ifLive (s : State) (n : IslIx) (f : State → State) : State := if (s.island n).live then f s else s

/-- In TRACTION-1, with a token out, an island that falls back to its preload brings the safe state to the whole module (R38): the token stops everywhere. -/
def State.siblingRule (s : State) (n : IslIx) (was : Bool) : State :=
  if s.cfg = 0 ∧ s.sys.tokenOn = true ∧ was = false ∧ (s.island n).safeApplied = true then
    { s with sys := { s.sys with tokenOn := false }, isl := s.isl.map fun (i : Island) => { i with token := false } }.refreshIsl
  else s

/-- Change island n under the rule of R38. -/
def State.onIslR (s : State) (n : IslIx) (f : Island → Island) : State := (s.onIsl n f).siblingRule n (s.island n).safeApplied

/-- Island n sends a fast-fault code: it stays pending until acknowledged, and its record follows in an EVENT frame (R127). -/
def State.islFast (s : State) (n : IslIx) (c : BitVec 4) : State :=
  (s.updIsl n fun i => (i.fast c).pushUp 0xA#4).send [.fastFault n c]

/-- Present gate voltages of the outputs, 0.1 V. -/
def Island.gates (g : List Int) (i : Island) : Island :=
  { i with outs := i.outs.mapIdx fun k (o : Out) => match g[k]? with | some v => { o with gate := v } | none => o }

/-- A probe cut off by a symbol or a fault is discarded and scheduled again (R131). -/
def Out.cutProbe (o : Out) : Out := if o.probing then { o with probing := false, probeDue := true, miller := true } else o

def Island.cutProbes (i : Island) : Island := { i with outs := i.outs.map Out.cutProbe }

/-! ### Supply start and verification -/

/-- The supply of island n starts (Table 3.8): its rails take the set values (R97), and it holds FREEWHEEL until its first preload (R143). -/
def State.startSupply (s : State) (k : Nat) : State :=
  let n : IslIx := Fin.ofNat 12 k
  s.updIsl n fun i =>
    if i.supplyOn then i
    else { State.resetIsland with supplyOn := true, powered := true, uvlo := true, vposSet := s.get O.VPOS_SET k, vnegSet := s.get O.VNEG_SET k,
                                  epoch := i.epoch, partners := (partnersOf s.cfg n).map (fun p => ⟨p, false, false, false⟩),
                                  heartbeat := s.hlm.heartbeat, preRejected := i.preRejected }

/-- READY is still wanted, or a discharge waits for the islands (R84, R368). -/
def State.wantIslands (s : State) : Bool :=
  (s.sys.dev == .standby && s.ctrlBit 0) || (s.sys.dev == .discharge && s.get O.DISCH_STATE == 1)

/-- Cancel the transition (R84): the supplies go off and the module stays in STANDBY. -/
def State.cancelReady (s : State) : State :=
  let s := s.islandsOff
  (if s.sys.dev = .discharge then (({ s with disch := State.resetDisch }).set O.DISCH_STATE 0).toDev .standby else s).gauntlet

/-- ISLAND_GROUP_START: the next group of three transformers (Table 3.8). -/
def groupStart (s : State) : State :=
  match s.sup.readyPhase with
  | .group k =>
    if !s.wantIslands then s.cancelReady
    else
      let s := ((s.startSupply (3 * k.val)).startSupply (3 * k.val + 1)).startSupply (3 * k.val + 2)
      { s with sup := { s.sup with readyPhase := if k = 3 then .verify else .group (k + 1) } }
  | _ => s

/-- RILLYS_LINK_TRAINED (R140, R146): both ends start their sequence numbers anew. -/
def linkTrained (n : IslIx) (s : State) : State :=
  s.ifLive n fun s =>
    if s.sup.readyPhase ≠ .idle ∧ s.wantIslands = false then s.cancelReady
    else
      s.onIsl n fun i =>
        { i with trained := true, linkOk := true, down := State.resetDir, up := State.resetDir, downQ := [], upQ := [],
                 step := if s.sup.readyPhase ≠ .idle then 1 else if i.verified then 11 else 0 }

/-- Functions required on an island (Table 2.9): SHUNT, VDC. -/
def reqFuncs (cfg : Nat) (n : Nat) : Bool × Bool :=
  if n % 2 = 0 then (false, false)
  else match cfg with
    | 0 => (n < 6, n = 1 || n = 3)
    | 1 => (true, n != 5 && n != 11)
    | _ => (n < 6 || n = 11, n = 1 || n = 3 || n = 11)

/-- Declarations cover every required function (step 2 of Table 4.16). -/
def State.declOk (s : State) (n : IslIx) : Bool :=
  let (sh, vd) := reqFuncs s.cfg n.val
  (!sh || s.funcDecl n 0) && (!vd || s.funcDecl n 1)

/-- Active dies of the switch position of island n, and those declared. -/
def State.posDies (s : State) (n : IslIx) : Nat × Nat :=
  (siblingsOf s.cfg n).foldl (fun a p =>
    (List.range 4).foldl (fun (a : Nat × Nat) k =>
      if s.declared p k then (a.1 + (if ((s.island p).outs.getD k State.resetOut).isolated then 0 else 1), a.2 + 1) else a) a) (0, 0)

/-- Control period of the bridge of island n. -/
def State.islPeriod (s : State) (n : IslIx) : Nat := s.getN O.PERIOD_COUNT (bridgeOf s.cfg n)

/-- No transition of the present control period qualifies for balancing: a die of the position is isolated in it (R129). -/
def State.dropKti (s : State) (n : IslIx) : State :=
  if !s.carrier then s
  else
    let per := s.islPeriod n
    let drop := fun (o : Out) => { o with ktiOn := o.ktiOn.filter fun x => x.1 != per, ktiOff := o.ktiOff.filter fun x => x.1 != per }
    ((siblingsOf s.cfg n).foldl (fun (s : State) p => s.updIsl p fun i => { i with outs := i.outs.map drop }) s).updIsl n fun i =>
      { i with isoPeriod := some per }

/-- Isolate output k of island n (R134). -/
def State.isolate (s : State) (n : IslIx) (k : Nat) : State :=
  let s := (s.dropKti n).updIsl n fun i => { i with outs := i.outs.modify k fun o => { o with failed := true, isolated := true } }
  let s := s.degrade 7 .islDieIsolated (outDetail n k)
  if ((s.posDies n).1 : Int) < s.get O.POS_DIE_MIN then s.post .islDieShortage n.val else s

/-- A declared, active die is classed as failed (R133): isolated at the next OFF of the position, or a shortage at once with ISOLATE_ENABLE = 0. -/
def State.dieFail (s : State) (n : IslIx) (k : Nat) : State :=
  let o := (s.island n).outs.getD k State.resetOut
  if o.failed || !s.declared n k then s
  else
    let s := s.updIsl n fun i => { i with outs := i.outs.modify k fun o => { o with failed := true } }
    if s.getB O.ISOLATE_ENABLE then s else s.post .islDieShortage n.val

/-- A declared die fails step 7 or 8 of verification (R147). -/
def State.dieFailVerify (s : State) (n : IslIx) (k : Nat) : State :=
  if s.getB O.ISOLATE_ENABLE then s.isolate n k else s.dieFail n k

/-- A die passes verification: its isolation ends (R134, Table 4.18). -/
def State.diePass (s : State) (n : IslIx) (k : Nat) : State :=
  let s := s.updIsl n fun i => { i with outs := i.outs.modify k fun o => { o with failed := false, isolated := false, probeBad := 0, vgBad := 0, shareBad := 0, tmoOn := 0, tmoOff := 0 } }
  let s := s.undegrade 7 .islDieIsolated (outDetail n k)
  if s.get O.POS_DIE_MIN ≤ ((s.posDies n).1 : Int) then s.leave .islDieShortage n.val else s

/-- ISL_VERIFY_FAIL with the island and step (R147): the module stays in STANDBY with the island supplies off. -/
def State.verifyFail (s : State) (n : IslIx) (step : Nat) : State :=
  let s := if s.sys.dev = .discharge then (({ s with disch := State.resetDisch }).set O.DISCH_STATE 0).toDev .standby else s
  (s.islandsOff).post .islVerifyFail (n.val + 0x100 * step)

/-- Gate path in 0.2..50 Ω (step 7). -/
def gatePath (mohm : Nat) : Bool := decide (200 ≤ mohm) && decide (mohm ≤ 50000)

/-- Kelvin path within R_RETURN ± 30 % ± 0.5 Ω (step 8), in mΩ; R_RETURN in 0.1 Ω. -/
def kelvinOk (rReturn : Int) (mohm : Nat) : Bool :=
  decide (70 * rReturn - 500 ≤ (mohm : Int)) && decide ((mohm : Int) ≤ 130 * rReturn + 500)

/-- What one verification step finds: the failing step if the island fails, and the declared dies that fail. -/
def State.verifyStep (s : State) (n : IslIx) (step : Nat) (m : VerifyMeas) : Bool × List Nat :=
  if step = 2 then (m.ok && s.declOk n, [])
  else if step = 7 then
    let k4 := List.range 4
    (m.ok && k4.all (fun k => s.declared n k || decide (50000 < m.rg.getD k 50001)),
     k4.filter fun k => s.declared n k && !gatePath (m.rg.getD k 0))
  else if step = 8 then
    (m.ok, (List.range 4).filter fun k => s.declared n k && !kelvinOk (s.get O.R_RETURN n.val) (m.kelvin.getD k 0))
  else (m.ok, [])

/-- Every island is verified: READY is entered, or the discharge that waited starts its paths (R84, R146, R368). -/
def State.verifyDone (s : State) : State :=
  let s := { s with sup := { s.sup with readyPhase := .idle, keepSupplies := false, releaseFrom := none } }
  let s := s.set O.READY_TIME ((s.elapsed s.sup.readyFrom) / 1000)
  let s := s.hlmEval.writePreload
  if s.sys.dev = .discharge then s.dischPaths.gauntlet
  else ((s.toDev .ready).levelActs).gauntlet

/-- One verification step of island n ends (R146, R147). -/
def verifyStepDone (n : IslIx) (m : VerifyMeas) (s : State) : State :=
  let i := s.island n
  if i.step = 0 ∨ 10 < i.step ∨ s.sup.readyPhase = .idle ∨ i.trained = false then s
  else if !s.wantIslands then s.cancelReady
  else
    let (ok, dies) := s.verifyStep n i.step m
    if !ok then s.verifyFail n i.step
    else
      let s := dies.foldl (fun (s : State) k => s.dieFailVerify n k) s
      let s := if i.step = 8 then
          ((List.range 4).filter fun k => s.declared n k && !dies.contains k && !((s.island n).outs.getD k State.resetOut).failed).foldl
            (fun (s : State) k => s.diePass n k) s
        else if i.step = 7 then
          ((List.range 4).filter fun k => s.declared n k && !dies.contains k).foldl
            (fun (s : State) k => s.updIsl n fun i => { i with outs := i.outs.modify k fun o => { o with failed := false } }) s
        else s
      let s := s.updIsl n fun i =>
        { i with step := i.step + 1, verified := i.verified || i.step == 10, testSeen := i.testSeen || i.step == 6,
                 edgeOk := i.edgeOk || i.step == 4,
                 preload := if i.step = 9 then s.hlm.choice else i.preload,
                 epoch := if i.step = 10 then s.sys.epoch else i.epoch,
                 offConf := i.offConf || i.step == 5,
                 partners := if i.step = 5 then i.partners.map (fun (p : Partner) => { p with offConf := true, fresh := true }) else i.partners }
      let s := s.settleIsl n
      if s.isl.all (fun i => i.verified && i.step == 11) && !s.coll.held.any (fun x => x.cls == 4) then s.verifyDone else s

/-! ### Edge-channel symbols -/

/-- A symbol has arrived (R111). -/
def Island.symbol (i : Island) : Island := { i with edgeOk := true }

/-- The outputs are commanded off by the edge channel: the bar of R116 ends, and dies classed as failed are isolated (R134). -/
def State.symbolOff (s : State) (n : IslIx) (adopted : Bool) : State :=
  let s := s.onIslR n fun i =>
    let i := i.symbol.cutProbes
    { i with cmd := false, barred := false, claim := if i.claim = .denied then .idle else i.claim }
  let s := if adopted then s.bump O.EDGE_CORRECTIONS else s
  let fails := (List.range 4).filter fun k =>
    let o := (s.island n).outs.getD k State.resetOut
    o.failed && !o.isolated && s.getB O.ISOLATE_ENABLE
  fails.foldl (fun (s : State) k => s.isolate n k) s

/-- The outputs are commanded on (R110, R115). -/
def State.symbolOn (s : State) (n : IslIx) (adopted : Bool) : State :=
  let old := (s.island n).claim
  let s := s.onIslR n fun i => { i.symbol.cutProbes with cmd := true }
  let s := if adopted then s.bump O.EDGE_CORRECTIONS else s
  if old ≠ .denied ∧ (s.island n).claim = .denied then s.send [.fastFault n 0x4#4] else s

def keepOffSym (n : IslIx) (s : State) : State :=
  s.ifLive n fun s => if (s.island n).cmd then s.symbolOff n true else s.updIsl n Island.symbol

def keepOnSym (n : IslIx) (s : State) : State :=
  s.ifLive n fun s => if (s.island n).cmd then s.updIsl n Island.symbol else s.symbolOn n true

def offSym (n : IslIx) (gates : List Int) (s : State) : State :=
  s.ifLive n fun s => (s.updIsl n (Island.gates gates)).symbolOff n false

def onSym (n : IslIx) (gates : List Int) (s : State) : State :=
  s.ifLive n fun s => (s.updIsl n (Island.gates gates)).symbolOn n false

/-- OFF_SOFT (Table 4.4, R107, R126): a soft-off where the edge channel decides; the latch of ISL_DESAT in every case. -/
def offSoftSym (n : IslIx) (s : State) : State :=
  s.ifLive n fun s =>
    let l := s.levels n
    s.onIslR n fun i =>
      let i := i.symbol.cutProbes
      let i := if i.row = 6 then { i.allOff l true with cmd := false } else i
      { i with desatLatched := i.desatLatched || i.desatSent }

/-- PROBE starts the scheduled gate-resistance probe (R131) in an off-interval. -/
def probeSym (n : IslIx) (s : State) : State :=
  s.ifLive n fun s => s.updIsl n fun i =>
    let i := i.symbol
    match i.outs.findIdx? (fun o => o.probeDue && o.phase == .holdOff && !o.isolated) with
    | some k => { i with outs := i.outs.modify k fun o => { o with probing := true, probeDue := false, miller := false } }
    | none => i

/-- A reserved symbol is ignored and counted as a correction (Table 4.4). -/
def reservedSym (n : IslIx) (s : State) : State :=
  s.ifLive n fun s => (s.updIsl n Island.symbol).bump O.EDGE_CORRECTIONS

/-- EDGE_LOST: no symbol for 600 ns (R111); the last commanded level is held. -/
def edgeGone (n : IslIx) (s : State) : State :=
  s.ifLive n fun s => (s.updIsl n fun i => { i with edgeOk := false }).islFast n 0x9#4

/-! ### Phases -/

/-- PRE ends by its level, where PRE_END selects the level, or by its time (R101). -/
def preEnd (n : IslIx) (k : OutIx) (byLevel : Bool) (s : State) : State :=
  let o := (s.island n).outs.getD k.val State.resetOut
  let q := o.prof.getD (s.profile n)
  let l : Levels := { s.levels n with preOn := q.preOn, platOn := q.platOn, preOff := q.preOff, platOff := q.platOff }
  let on := o.phase == .preOn
  let mode := if on then q.endOn else q.endOff
  if byLevel && mode == 0 then s
  else
    s.onIsl n fun i => { i with outs := i.outs.modify k.val fun o => match o.phase with
      | .preOn =>
        let g := if byLevel && decide (o.gate < l.preOn) then l.preOn else o.gate
        if l.platOn < g then { o with phase := .holdOn, gate := l.vpos, prof := none } else { o with phase := .slopeOn, gate := g, prof := none }
      | .preOff =>
        let g := if byLevel && decide (l.preOff < o.gate) then l.preOff else o.gate
        if g < l.platOff then { o with phase := .holdOff, gate := l.vneg, miller := true, prof := none } else { o with phase := .slopeOff, gate := g, prof := none }
      | _ => o }

/-- Output at the end of its SLOPE phase (R101, R106, R112). -/
def Out.slopeEnd (l : Levels) (edge : Option Nat) (o : Out) : Out :=
  match o.phase with
  | .slopeOn => { o with phase := .holdOn, gate := l.vpos, edgeOn := match edge with | some t => some t | none => o.edgeOn }
  | .slopeOff => { o with phase := .holdOff, gate := l.vneg, miller := true, soft := false,
                          edgeOff := match edge with | some t => some t | none => o.edgeOff }
  | _ => o

/-- SLOPE ends by its level: a run of timeouts of the normal profiles ends (R104). -/
def slopeEnd (n : IslIx) (k : OutIx) (edge : Nat) (s : State) : State :=
  let l := s.levels n
  let o := (s.island n).outs.getD k.val State.resetOut
  if o.phase = .slopeOn ∨ o.phase = .slopeOff then
    let on := o.phase == .slopeOn
    let soft := o.soft && !on
    let s := s.onIsl n fun i => { i with outs := i.outs.modify k.val fun o =>
      let o := o.slopeEnd l (some edge)
      if soft then o else if on then { o with tmoOn := 0 } else { o with tmoOff := 0 } }
    if soft then s else s.unnote .islSlopeTmo (outDetail n k.val)
  else s

/-- SLOPE ends on its time limit (R104): reported, and the fourth in one direction is a gate-path failure; a soft-off reports nothing and counts for nothing. -/
def slopeTmo (n : IslIx) (k : OutIx) (s : State) : State :=
  let l := s.levels n
  let o := (s.island n).outs.getD k.val State.resetOut
  if o.phase = .slopeOn ∨ o.phase = .slopeOff then
    let on := o.phase == .slopeOn
    let runs := (if on then o.tmoOn else o.tmoOff) + 1
    let soft := o.soft && !on
    let s := s.onIsl n fun i => { i with outs := i.outs.modify k.val fun o =>
      let o := o.slopeEnd l none
      if soft then o else if on then { o with tmoOn := runs } else { o with tmoOff := runs } }
    if soft then s
    else
      let s := (s.updIsl n (Island.pushUp 0xA#4)).note .islSlopeTmo (outDetail n k.val)
      if 4 ≤ runs then s.dieFail n k.val else s
  else s

/-! ### Interlock -/

/-- Every declared output has its gate below VG_OFF_TH (R114). -/
def State.gatesOff (s : State) (n : IslIx) : Bool :=
  (List.range 4).all fun k => !s.declared n k || decide (((s.island n).outs.getD k State.resetOut).gate < s.get O.VG_OFF_TH)

/-- OFF_CONF follows the gates (R114). -/
def offConfNow (n : IslIx) (gates : List Int) (s : State) : State :=
  s.ifLive n fun s =>
    let s := s.updIsl n (Island.gates gates)
    s.updIsl n fun i => { i with offConf := s.gatesOff n }

/-- A claim that is newly granted starts its outputs; ISL_ILK_TMO leaves with a grant within ILK_TMO (R115, Table 4.18). -/
def State.grantNow (s : State) (n : IslIx) : State :=
  let t1 := s.cfg == 0
  let before := (s.island n).claim
  let s := s.onIsl n (Island.tryGrant t1)
  if before = .waiting ∧ (s.island n).claim = .granted then s.leave .islIlkTmo n.val else s

def Island.setPartner (p : IslIx) (f : Partner → Partner) (i : Island) : Island :=
  { i with partners := i.partners.map fun q => if q.isl = p then f q else q }

def partnerOff (n p : IslIx) (v : Bool) (s : State) : State :=
  s.ifLive n fun s => (s.updIsl n (Island.setPartner p fun q => { q with offConf := v, fresh := true })).grantNow n

/-- A partner's CLAIM seen in the island's own window denies the island (R116). -/
def partnerClaims (n p : IslIx) (v : Bool) (s : State) : State :=
  s.ifLive n fun s =>
    let known := (s.island n).partners.any fun q => q.isl == p
    let s := s.updIsl n (Island.setPartner p fun q => { q with claim := v, fresh := true })
    if known && v && (s.island n).claim == .window then
      (s.onIslR n Island.deny).send [.fastFault n 0x4#4]
    else s.grantNow n

/-- The claim window closes with no partner CLAIM seen (R115). -/
def claimClose (n : IslIx) (s : State) : State :=
  s.ifLive n fun s =>
    if (s.island n).claim = .window then (s.updIsl n fun i => { i with claim := .waiting }).grantNow n else s

/-- ILK_TMO without a grant: the outputs stay off and the code is sent; the claim goes on waiting, and its grant is no longer one within ILK_TMO (R119; assumption 17). -/
def ilkTimeout (n : IslIx) (s : State) : State :=
  s.ifLive n fun s =>
    if (s.island n).claim = .window then s.islFast n 0x7#4
    else if (s.island n).claim = .waiting then (s.updIsl n fun i => { i with claim := .late }).islFast n 0x7#4
    else s

def refreshLost (n p : IslIx) (s : State) : State :=
  s.ifLive n fun s => s.updIsl n (Island.setPartner p fun q => { q with fresh := false, claim := false })

/-- The loss of a partner's refresh has lasted 1 µs (R119). -/
def ilkGone (n : IslIx) (s : State) : State :=
  s.ifLive n fun s => if (s.island n).partners.any (fun q => !q.fresh) then s.islFast n 0x8#4 else s

/-- A gate stays above VG_OFF_TH past the start of HOLD-off (R120). -/
def gateStuckNow (n : IslIx) (k : OutIx) (s : State) : State :=
  s.ifLive n fun s =>
    let o := (s.island n).outs.getD k.val State.resetOut
    if s.declared n k.val && o.phase == .holdOff then
      let th := s.get O.VG_OFF_TH
      (s.updIsl n fun i => { i with offConf := false, outs := i.outs.modify k.val fun o => { o with gate := if o.gate < th then th else o.gate } }).islFast n 0x2#4
    else s

/-! ### Gate rails and bootstrap supply -/

def uvloFall (n : IslIx) (s : State) : State :=
  s.ifLive n fun s => (s.onIslR n fun i => { i.cutProbes with uvlo := true }).islFast n 0x3#4

def uvloRelease (n : IslIx) (s : State) : State := s.ifLive n fun s => s.onIsl n fun i => { i with uvlo := false }

/-- VPOS beyond ±5 % or VNEG beyond ±0.3 V of the values of the supply mode (R100); measurements in 0.01 V. -/
def railDevNow (s : State) (n : IslIx) (vpos vneg : Int) : Bool :=
  let i := s.island n
  let neg := if i.bootstrap then -200 else 10 * i.vnegSet
  (!i.bootstrap && decide (5 * 10 * i.vposSet < 100 * absI (vpos - 10 * i.vposSet))) || decide (30 < absI (vneg - neg))

def railDev (n : IslIx) (vpos vneg : Int) (s : State) : State :=
  s.ifLive n fun s =>
    let s := (s.set O.VPOS_MEAS vpos n.val).set O.VNEG_MEAS vneg n.val
    if railDevNow s n vpos vneg then s.note .islRailDev n.val else s

/-- A VDDI failure resets the island logic (R100): every gate at VNEG; the link appears lost. -/
def vddiFail (n : IslIx) (s : State) : State :=
  s.ifLive n fun s =>
    s.onIslR n fun i => { State.resetIsland with supplyOn := i.supplyOn, powered := i.powered, bootstrap := i.bootstrap, vposSet := i.vposSet,
                                                 vnegSet := i.vnegSet, epoch := i.epoch, preRejected := i.preRejected, heartbeat := s.hlm.heartbeat,
                                                 partners := i.partners.map fun (q : Partner) => { q with offConf := false, claim := false, fresh := false } }

/-- Changeover to bootstrap supply (R121): an even island with BST declared whose isolated supply fails while it is driven. -/
def bstOn (n : IslIx) (s : State) : State :=
  let i := s.island n
  if n.low = false ∧ s.funcDecl n 3 = true ∧ i.supplyOn = true ∧ i.powered = true ∧ i.bootstrap = false then
    let s := s.onIsl n fun i => { i with bootstrap := true, powered := false }
    if s.sys.dev.runs then ((s.degrade 6 .islOnBootstrap n.val).hlmEval).writePreload else s
  else s

/-- Back on the isolated supply after 100 ms in window (R121). -/
def bstOff (n : IslIx) (s : State) : State :=
  if (s.island n).bootstrap then
    let s := s.onIsl n fun i => { i with bootstrap := false, powered := true, bstLow := false }
    if s.sys.dev.runs then (((s.unnote .islBstLow n.val).undegrade 6 .islOnBootstrap n.val).hlmEval).writePreload else s
  else s

def bstLowNow (n : IslIx) (low : Bool) (s : State) : State :=
  if (s.island n).bootstrap then
    let s := s.updIsl n fun i => { i with bstLow := low }
    if s.sys.dev.runs then s.noteIf low .islBstLow n.val else s
  else s

/-- A confirmed DESAT (R125, R126): the code is sent; the outputs are not changed. -/
def desatNow (n : IslIx) (s : State) : State :=
  s.ifLive n fun s =>
    if s.funcDecl n 4 && (s.island n).outs.any (fun o => o.phase.isOn) then
      (s.updIsl n fun i => { i with desatSent := true }).islFast n 0x1#4
    else s

/-! ### Current sharing -/

/-- Phase current that flows from drain to source of the position of island n, A (R129); none where no bridge leg of the FLE has it. -/
def State.posCurrent (s : State) (n : IslIx) : Option Rat :=
  if s.charger ∧ 6 ≤ n.val then none
  else
    let leg := n.val % 6 / 2 + (if s.cfg = 1 ∧ 6 ≤ n.val then 3 else 0)
    let i := s.fl.iPhase.getD leg 0
    some (if n.low then -i else i)

/-- A transition qualifies for balancing (R129). -/
def State.qualifies (s : State) (n : IslIx) : Bool :=
  match s.posCurrent n with
  | none => false
  | some i => decide (s.getQ O.BAL_MIN_CURRENT ≤ i) && decide (0 < i) &&
      (siblingsOf s.cfg n).all fun p => (s.island p).isoPeriod != some (s.islPeriod n)

def meanI (l : List Int) : Rat := divQ (sumQ (l.map fun (x : Int) => (x : Rat))) l.length

def meanQ (l : List Rat) : Rat := divQ (sumQ l) l.length

/-- One die of a switch position as the balancer sees it. -/
structure BalDie where
  n : IslIx
  k : Nat
  aOn : Rat
  aOff : Rat
  tj : Rat

/-- Active outputs of a switch position (R130). -/
def State.balDies (s : State) (pos : IslIx) : List BalDie :=
  (siblingsOf s.cfg pos).flatMap fun n => ((List.range 4).filter fun k =>
      s.declared n k && !((s.island n).outs.getD k State.resetOut).isolated).map fun k =>
    let o := (s.island n).outs.getD k State.resetOut
    let gain := mkRat (s.get O.KTI_GAIN (4 * n.val + k)) 32768
    ⟨n, k, meanI (o.ktiOn.map Prod.snd) * gain, meanI (o.ktiOff.map Prod.snd) * gain, mkRat (s.get O.TJ_EST (4 * n.val + k)) 10⟩

/-- The part of a gate trim that the on-state voltage can follow, 0.1 V (R113). -/
def State.vgHeld (s : State) (n : IslIx) (t : Int) : Int :=
  let v := (s.island n).vposSet
  clampI 150 210 (v + t) - v

/-- Offsets of one die after an update (R130), clamped so that the applied values hold; ISL_BAL_LIMIT at a clamp. -/
def State.balDie (s : State) (mOn mOff tM : Rat) (d : BalDie) : State :=
  let o := (s.island d.n).outs.getD d.k State.resetOut
  let band := mkRat (s.get O.BAL_DEADBAND) 1000
  let step := s.get O.BAL_TD_STEP
  let e := divQ d.aOff mOff - 1 + (if s.get O.BAL_MODE = 1 then mkRat 4 1000 * (d.tj - tM) else 0)
  let vg := o.vgBal + (if band < e then -1 else if e < -band then 1 else 0)
  let e := divQ d.aOn mOn - 1
  let td := o.tdBal + (if band < e then step else if e < -band then -step else 0)
  let vgA := s.vgHeld d.n (s.vgApplied (4 * d.n.val + d.k) vg)
  let tdA := s.tdApplied (4 * d.n.val + d.k) td
  let vgBase := s.get O.VG_TRIM (4 * d.n.val + d.k)
  let tdBase := s.get O.TD_ON (4 * d.n.val + d.k)
  let lim := vgA != vgBase + vg || tdA != tdBase + td
  let s := s.updIsl d.n fun i => { i with outs := i.outs.modify d.k fun o =>
    { o with vgBal := vgA - vgBase, tdBal := tdA - tdBase, ktiOn := [], ktiOff := [] } }
  s.noteIf lim .islBalLimit (outDetail d.n d.k)

/-- Share of die j in one qualifying turn-off is outside 0.25..2.5 while every other die is within 0.5..1.5 (Table 4.11). -/
def shareFails (vals : List Rat) (j : Nat) : Bool :=
  let m := meanQ vals
  let sh := vals.map fun v => divQ v m
  let mine := sh.getD j 1
  (decide (mine < 1 / 4) || decide (5 / 2 < mine)) &&
  (sh.mapIdx fun i v => i == j || (decide (1 / 2 ≤ v) && decide (v ≤ 3 / 2))).all id

/-- Last qualifying turn-off of a die: its control period and a_off (R129). -/
def State.lastOff (s : State) (d : BalDie) : Option (Nat × Rat) :=
  ((s.island d.n).outs.getD d.k State.resetOut).ktiOff.getLast?.map fun x =>
    (x.1, (x.2 : Rat) * mkRat (s.get O.KTI_GAIN (4 * d.n.val + d.k)) 32768)

/-- A turn-off seen on every active die of the position is judged by the shares (Table 4.11). -/
def State.shareCheck (s : State) (n : IslIx) (per : Nat) : State :=
  let dies := s.balDies n
  let offs := dies.map s.lastOff
  if dies.length < 2 ∨ offs.any (fun x => x.map Prod.fst != some per) = true then s
  else
    let vals := offs.map fun x => (x.map Prod.snd).getD 0
    (dies.mapIdx fun j d => (j, d)).foldl (fun (s : State) jd =>
      let d := jd.2
      let run := if shareFails vals jd.1 then ((s.island d.n).outs.getD d.k State.resetOut).shareBad + 1 else 0
      let s := s.updIsl d.n fun i => { i with outs := i.outs.modify d.k fun o => { o with shareBad := run } }
      if 32 ≤ run then s.dieFail d.n d.k else s) s

/-- The balancer runs: enabled, and no Main pair takeover suspends it (R130). -/
def State.balRuns (s : State) : Bool :=
  s.get O.BAL_ENABLE == 1 && !bit (s.get O.DEG_MODES) 0 && !s.sys.m0.inReset && !s.sys.m1.inReset

/-- KTI_WINDOW_END: the integral less the drop of the die's own gate current (R128), in 0.05 nV·s; while the balancer does not run, a die keeps its last result only (assumption 98). -/
def ktiEnd (n : IslIx) (k : OutIx) (on : Bool) (raw drop : Int) (s : State) : State :=
  s.ifLive n fun s =>
    let v := Ty.fit .i16 (raw - drop)
    let s := s.set (if on then O.KTI_ON else O.KTI_OFF) v (4 * n.val + k.val)
    if s.qualifies n then
      let per := s.islPeriod n
      let add := fun (l : List (Nat × Int)) => (if s.balRuns then l else []) ++ [(per, v)]
      let s := s.updIsl n fun i => { i with outs := i.outs.modify k.val fun o =>
        if on then { o with ktiOn := add o.ktiOn } else { o with ktiOff := add o.ktiOff } }
      if on then s else s.shareCheck n per
    else s

/-- BALANCER_UPDATE of one switch position (R129, R130). -/
def balance (pos : IslIx) (s : State) : State :=
  let dies := s.balDies pos
  let count := fun (d : BalDie) => ((s.island d.n).outs.getD d.k State.resetOut).ktiOff.length
  if s.balRuns = false ∨ dies.length < 2 ∨ dies.any (fun d => decide (count d < 8)) = true then s
  else
    let mOn := meanQ (dies.map fun d => d.aOn)
    let mOff := meanQ (dies.map fun d => d.aOff)
    let tM := meanQ (dies.map fun d => d.tj)
    dies.foldl (fun (s : State) d => s.balDie mOn mOff tM d) s

/-! ### Gate-resistance probes -/

/-- PROBE_INTERVAL: the next probe of an active output falls due (R131). -/
def probeDue (n : IslIx) (k : OutIx) (s : State) : State :=
  let o := (s.island n).outs.getD k.val State.resetOut
  if s.getB O.PROBE_ENABLE && s.declared n k.val && !o.isolated && (s.island n).verified then
    (s.updIsl n fun i => { i with outs := i.outs.modify k.val fun o => { o with probeDue := true } }).updIsl n (Island.pushDown 0x1#4)
  else s

/-- RG_INT in mΩ from the three samples in µV (R131): (V0 − V_pre) / 10 mA − R_GATE_EXT − R_RETURN. -/
def rgInt (vpre v50 v150 rGate rReturn : Int) : Int :=
  quantQ (((v50 : Rat) - ((v150 : Rat) - v50) / 2 - vpre) / 10 - 10 * rGate - 100 * rReturn)

/-- TJ_EST of an output, 0.1 °C, from the mean of its last eight probes (R132). -/
def State.tjEst (s : State) (n : IslIx) (k : Nat) (probes : List Int) : Option Rat :=
  let alpha := s.get O.RG_ALPHA (4 * n.val + k)
  if alpha = 0 ∨ probes = [] then none
  else some ((s.get O.T_REF n.val : Rat) + 10 * ((meanI probes - s.get O.RG_REF (4 * n.val + k)) * 1000 / alpha))

/-- PROBE_DONE (R131..R133). -/
def probeEnd (n : IslIx) (k : OutIx) (vpre v50 v150 : Int) (s : State) : State :=
  let o := (s.island n).outs.getD k.val State.resetOut
  if !o.probing then s
  else
    let p := 4 * n.val + k.val
    let rg := rgInt vpre v50 v150 (s.get O.R_GATE_EXT n.val) (s.get O.R_RETURN n.val)
    let probes := (rg :: o.probes).take 8
    let bad := if rg < 200 ∨ 50000 < rg then o.probeBad + 1 else 0
    let s := s.updIsl n fun i => { i with outs := i.outs.modify k.val fun o => { o with probing := false, miller := true, probes := probes, probeBad := bad } }
    let s := s.set O.RG_INT (Ty.fit .u16 rg) p
    let s := match s.tjEst n k.val probes with
      | none => s.set O.TJ_EST (-32768) p
      | some t =>
        let s := s.setQ O.TJ_EST t p
        if (s.get O.TJ_HIGH : Rat) < t then s.note .islTjHigh (outDetail n k.val)
        else if t ≤ (s.get O.TJ_HIGH : Rat) - 50 then s.unnote .islTjHigh (outDetail n k.val) else s
    if 3 ≤ bad then s.dieFail n k.val else s

/-- A value the module stores itself in a persistent member of a group: staged, and durable in the log (R132, R409). -/
def State.keep (s : State) (o : Obj) (p : Nat) (v : Int) : State :=
  (s.stage o p v).saveRec (o.key p) v

/-- CAL_CMD = 1 (R132, step 2): means of 64 probes to RG_REF, NTC1 to T_REF. -/
def calFirst (n : IslIx) (rg : List Nat) (ntc : Int) (id : ReqId) (s : State) : State :=
  if !(s.island n).verified then s.refuse id abortState
  else
    let s := (List.range 4).foldl (fun (s : State) k => if s.declared n k then s.keep O.RG_REF (4 * n.val + k) (rg.getD k 0) else s) s
    (s.keep O.T_REF n.val ntc).done id

/-- CAL_CMD = 2 (R132, step 3): RG_ALPHA in µΩ/K; refused with less than 30 K. -/
def calSecond (n : IslIx) (rg : List Nat) (ntc : Int) (id : ReqId) (s : State) : State :=
  if !(s.island n).verified then s.refuse id abortState
  else
    let dT := ntc - s.getStaged O.T_REF n.val
    if absI dT < 300 then s.refuse id abortValue
    else
      ((List.range 4).foldl (fun (s : State) k =>
        if s.declared n k then
          let r := s.getStaged O.RG_REF (4 * n.val + k)
          s.keep O.RG_ALPHA (4 * n.val + k) (Ty.fit .i16 (quantQ (((rg.getD k 0 : Rat) - r) * 10000 / dT)))
        else s) s).done id

/-! ### Gauntlet channel and DRV_EN -/

/-- PRELOAD_WORD at island n (R142): accepted only when the complement matches. -/
def preloadIn (n : IslIx) (w : Byte) (s : State) : State :=
  s.ifLive n fun s =>
    let code := w.toNat / 64
    let comp := w.toNat / 16 % 4
    if code + comp = 3 then
      (s.onIsl n fun i => { i with preload := SafeCode.ofNum code, preCount := BitVec.ofNat 4 w.toNat, preStale := false })
        |>.unnote .islPreloadStale n.val
    else s.updIsl n fun i => { i with preRejected := countNext 32 i.preRejected }

/-- PRELOAD_STALE: 50 ms without a refresh; the island keeps its preload (R25, R143). -/
def preloadOld (n : IslIx) (s : State) : State :=
  s.ifLive n fun s =>
    let s := s.updIsl n fun i => { i with preStale := true }
    if s.sys.dev.runs then s.note .islPreloadStale n.val else s

/-- HEARTBEAT_LOST: 20 µs without a toggle make the permit invalid (R24). -/
def heartbeatGone (n : IslIx) (s : State) : State :=
  s.onIslR n fun i => ({ i with heartbeat := false }).setPermit s.hlm.permit s.pins.drvEn

/-- A low on DRV_EN that is acted on (R26, R145): every permit is invalid and every token expires, which opens the check of an ASC chosen (R354); a CONVERT session ends with BLOCK (R334). -/
def drvLow (s : State) : State :=
  let asc := s.hlm.permit && (s.hlm.choice == .ascLow || s.hlm.choice == .ascHigh)
  let s := { s with pins := { s.pins with drvEn := false }, hlm := { s.hlm with ascCheck := s.hlm.ascCheck || asc } }.refreshIsl
  if s.charger ∧ s.sys.dev = .run then ((s.blockCharger).toDev .ready).gauntlet else s.tokenStop

/-- DRV_EN_FALL: under 50 ns ignored, 50 ns to 200 ns open (R145; assumption 7). -/
def drvFall (ns : Nat) (s : State) : State :=
  if ns < 50 ∨ s.pins.drvEn = false then s
  else if ns < 200 then (if Config.freeBit s.freeIx then drvLow s.draw else s.draw)
  else drvLow s

/-- Clear the island latches whose cause has gone (R145). -/
def Island.clearLatches (off : Bool) (i : Island) : Island :=
  let outsOff := i.outs.all fun o => !o.phase.isOn
  { i with desatLatched := i.desatLatched && !outsOff, desatSent := i.desatSent && !(i.desatLatched && outsOff),
           stuckLatched := i.stuckLatched && !off }

/-- DRV_EN_RISE after a low: from 10 µs on it is a clearing pulse (R145). -/
def drvRise (ns : Nat) (s : State) : State :=
  if s.pins.drvEn then s
  else
    let s := { s with pins := { s.pins with drvEn := true } }
    let s := if 10000 ≤ ns then
        (allIslands.foldl (fun (s : State) n => if (s.island n).live then s.updIsl n (Island.clearLatches (s.gatesOff n)) else s) s).bump O.DRV_EN_CLEARS
      else s
    s.refreshIsl.tokenStop

/-! ### The commands -/

def execIslandGroupStart (s : State) : Host.Outcome State Fault Refusal := .next (groupStart s)
def execRillysLinkTrained (n : IslIx) (s : State) : Host.Outcome State Fault Refusal := .next (linkTrained n s)
def execIslandVerifyStepDone (n : IslIx) (meas : VerifyMeas) (s : State) : Host.Outcome State Fault Refusal := .next (verifyStepDone n meas s)
def execKeepOff (n : IslIx) (s : State) : Host.Outcome State Fault Refusal := .next (keepOffSym n s)
def execKeepOn (n : IslIx) (s : State) : Host.Outcome State Fault Refusal := .next (keepOnSym n s)
def execOff (n : IslIx) (gates : List Int) (s : State) : Host.Outcome State Fault Refusal := .next (offSym n gates s)
def execOn (n : IslIx) (gates : List Int) (s : State) : Host.Outcome State Fault Refusal := .next (onSym n gates s)
def execOffSoft (n : IslIx) (s : State) : Host.Outcome State Fault Refusal := .next (offSoftSym n s)
def execProbe (n : IslIx) (s : State) : Host.Outcome State Fault Refusal := .next (probeSym n s)
def execReservedSymbol (n : IslIx) (s : State) : Host.Outcome State Fault Refusal := .next (reservedSym n s)
def execPrePhaseEnd (n : IslIx) (k : OutIx) (byLevel : Bool) (s : State) : Host.Outcome State Fault Refusal := .next (preEnd n k byLevel s)
def execSlopePhaseEnd (n : IslIx) (k : OutIx) (edgeTime : Nat) (s : State) : Host.Outcome State Fault Refusal := .next (slopeEnd n k edgeTime s)
def execSlopeTimeout (n : IslIx) (k : OutIx) (s : State) : Host.Outcome State Fault Refusal := .next (slopeTmo n k s)
def execEdgeLost (n : IslIx) (s : State) : Host.Outcome State Fault Refusal := .next (edgeGone n s)
def execOffConfChange (n : IslIx) (gates : List Int) (s : State) : Host.Outcome State Fault Refusal := .next (offConfNow n gates s)
def execPartnerOffConf (n p : IslIx) (v : Bool) (s : State) : Host.Outcome State Fault Refusal := .next (partnerOff n p v s)
def execPartnerClaim (n p : IslIx) (v : Bool) (s : State) : Host.Outcome State Fault Refusal := .next (partnerClaims n p v s)
def execClaimWindowClose (n : IslIx) (s : State) : Host.Outcome State Fault Refusal := .next (claimClose n s)
def execIlkTmo (n : IslIx) (s : State) : Host.Outcome State Fault Refusal := .next (ilkTimeout n s)
def execInterlockRefreshLoss (n p : IslIx) (s : State) : Host.Outcome State Fault Refusal := .next (refreshLost n p s)
def execIlkLost (n : IslIx) (s : State) : Host.Outcome State Fault Refusal := .next (ilkGone n s)
def execGateStuck (n : IslIx) (k : OutIx) (s : State) : Host.Outcome State Fault Refusal := .next (gateStuckNow n k s)
def execIslUvloFall (n : IslIx) (s : State) : Host.Outcome State Fault Refusal := .next (uvloFall n s)
def execIslUvloRelease (n : IslIx) (s : State) : Host.Outcome State Fault Refusal := .next (uvloRelease n s)
def execIslRailDev (n : IslIx) (vpos vneg : Int) (s : State) : Host.Outcome State Fault Refusal := .next (railDev n vpos vneg s)
def execVddiFailure (n : IslIx) (s : State) : Host.Outcome State Fault Refusal := .next (vddiFail n s)
def execBootstrapChangeover (n : IslIx) (s : State) : Host.Outcome State Fault Refusal := .next (bstOn n s)
def execBootstrapReturn (n : IslIx) (s : State) : Host.Outcome State Fault Refusal := .next (bstOff n s)
def execBstLow (n : IslIx) (low : Bool) (s : State) : Host.Outcome State Fault Refusal := .next (bstLowNow n low s)
def execDesatConfirm (n : IslIx) (s : State) : Host.Outcome State Fault Refusal := .next (desatNow n s)
def execKtiWindowEnd (n : IslIx) (k : OutIx) (on : Bool) (raw gateDrop : Int) (s : State) : Host.Outcome State Fault Refusal := .next (ktiEnd n k on raw gateDrop s)
def execBalancerUpdate (pos : Fin 12) (s : State) : Host.Outcome State Fault Refusal := .next (balance pos s)
def execProbeInterval (n : IslIx) (k : OutIx) (s : State) : Host.Outcome State Fault Refusal := .next (probeDue n k s)
def execProbeDone (n : IslIx) (k : OutIx) (vpre v50 v150 : Int) (s : State) : Host.Outcome State Fault Refusal := .next (probeEnd n k vpre v50 v150 s)

def execCalCmdFirst (r : Req) (n : IslIx) (rgMeans : List Nat) (ntc : Int) (s : State) : Host.Outcome State Fault Refusal :=
  .next (s.writeReq r O.CAL_CMD n.val 1 (calFirst n rgMeans ntc))

def execCalCmdSecond (r : Req) (n : IslIx) (rgMeans : List Nat) (ntc : Int) (s : State) : Host.Outcome State Fault Refusal :=
  .next (s.writeReq r O.CAL_CMD n.val 2 (calSecond n rgMeans ntc))

/-- ISLAND_GLOBAL_COMMIT (R150): every island is concerned. -/
def execIslandGlobalCommit (r : Req) (s : State) : Host.Outcome State Fault Refusal :=
  .next (s.commit r O.COMMIT_260F 0 (fun _ => none) allIslands)

/-- ISLAND_COMMIT of island n (R141, R151). -/
def execIslandCommit (r : Req) (n : IslIx) (s : State) : Host.Outcome State Fault Refusal :=
  .next (profHook s (s.commit r O.COMMIT_ISL n.val (fun _ => none) [n]))

def execPreloadWord (n : IslIx) (w : Byte) (s : State) : Host.Outcome State Fault Refusal := .next (preloadIn n w s)
def execPreloadStale (n : IslIx) (s : State) : Host.Outcome State Fault Refusal := .next (preloadOld n s)
def execHeartbeatLost (n : IslIx) (s : State) : Host.Outcome State Fault Refusal := .next (heartbeatGone n s)
def execDrvEnFall (lowNs : Nat) (s : State) : Host.Outcome State Fault Refusal := .next (drvFall lowNs s)
def execDrvEnRise (lowNs : Nat) (s : State) : Host.Outcome State Fault Refusal := .next (drvRise lowNs s)

end Sys2Proof.Machine
end

