-- ==== Sys2Proof/Machine/Sensing.lean ====
section
/-! DEFINITION. Sensing: SARU conversions and injected groups, island samples, NTCs, the DC-link window, references, calibration and comparators (R152..R199). -/

namespace Sys2Proof.Machine

/-! ### References -/

/-- Voltage of a reference code (Table 5.12; assumption 18). -/
def refVolts (sel : Int) : Rat := if sel = 0 then 5 / 2 else if sel = 1 then Config.vrefIn else Config.vana

/-- Bit of REF_STATUS that shows a reference settled (Table 5.13). -/
def State.refOk (s : State) (sel : Int) : Bool := bit (s.get O.REF_STATUS) sel.toNat

def refNum : RefSel → Nat
  | .internal => 0 | .vrefIn => 1 | .vana => 2

/-- A code of full scale n for a voltage, and whether it is over range by more than 10 mV (R154, R174, R185). -/
def codeOf (n : Nat) (v ref : Rat) : Nat × Bool :=
  if ref + 1 / 100 < v then (n - 1, true)
  else if v < -(1 / 100) then (0, true)
  else ((clampI 0 (n - 1) (roundQ (divQ (n * v) ref))).toNat, false)

/-! ### SARU units and injected groups -/

/-- The two units that input ain reaches (R153). -/
def unitsOf (ain : Nat) : Nat × Nat := (ain / 8 % 4, (ain / 8 + 1) % 4)

/-- The twin of unit u for an input. -/
def twinOf (ain u : Nat) : Nat := if (unitsOf ain).1 = u then (unitsOf ain).2 else (unitsOf ain).1

/-- Input at a mux position of unit u (Table 5.2). -/
def muxAin (u pos : Nat) : Nat := if pos < 8 then 8 * u + pos else 8 * ((u + 3) % 4) + (pos - 8)

/-- How objects are read: the values in force, or those a COMMIT would put in force. -/
abbrev Getter := Obj → Nat → Int

def State.inForce (s : State) : Getter := fun o p => s.get o p

/-- Entries of an injected group as input and unit, none for auto; INJ0, and INJ1 in TRACTION-2, come from 0x2502 (R157). -/
def groupEntries (cfg : Nat) (get : Getter) (g : Nat) : List (Nat × Option Nat) :=
  let iline := fun (b : Nat) => ((List.range 3).filter fun p => get O.ILINE_AIN (3 * b + p) != 255).map fun p =>
    ((get O.ILINE_AIN (3 * b + p)).toNat, (none : Option Nat))
  if g = 0 then iline 0
  else if g = 1 ∧ cfg = 1 then iline 1
  else (List.range (get O.INJ_COUNT g).toNat).map fun e =>
    let w := (get O.INJ_ENTRY (4 * g + e)).toNat
    (w % 256, if w / 256 = 255 then none else some (w / 256))

/-- Trigger line of a group, none when off. -/
def groupLine (cfg : Nat) (get : Getter) (g : Nat) : Option Nat :=
  if g = 0 then some 0
  else if g = 1 ∧ cfg = 1 then some 1
  else if get O.INJ_TRIGGER g = 255 then none else some (get O.INJ_TRIGGER g).toNat

/-- Instant of a trigger line in the control period of B0, 0.1 ns; none when it has none (R156, R247). -/
def State.lineInstant (s : State) (pt : Nat) : Option Nat :=
  if pt = 0 then some 0
  else if pt = 1 ∧ s.cfg = 1 then some (s.getN O.CARRIER_PERIOD * s.getN O.B1_PHASE / 3600)
  else
    let v := s.getN O.PT_INSTANT (pt - 1)
    if v = 0xFFFFFFFF then none else some v

/-- All ways to give every auto entry a unit that no other entry uses. -/
def autoPlaces (used : List Nat) : List (Nat × Option Nat) → List (List (Nat × Nat))
  | [] => [[]]
  | (ain, some u) :: t => (autoPlaces used t).map fun l => (ain, u) :: l
  | (ain, none) :: t =>
    let (a, b) := unitsOf ain
    [a, b].flatMap fun u => if u ∈ used then [] else (autoPlaces (u :: used) t).map fun l => (ain, u) :: l

/-- Entries whose twin for their input is free in a placement. -/
def freeTwins (l : List (Nat × Nat)) : Nat :=
  (l.filter fun e => !(l.any fun x => x.2 == twinOf e.1 e.2)).length

/-- Placement with the most free twins, the first of them (R157; assumption 21). -/
def bestPlace : List (List (Nat × Nat)) → Option (List (Nat × Nat))
  | [] => none
  | l :: t => match bestPlace t with
    | none => some l
    | some m => if freeTwins l < freeTwins m then some m else some l

/-- Groups that fire at the same instant as group g, ascending, g included. -/
def State.sameInstant (s : State) (get : Getter) (g : Nat) : List Nat :=
  match groupLine s.cfg get g with
  | none => []
  | some l => (List.range 8).filter fun h => match groupLine s.cfg get h with
    | some m => m == l || (s.lineInstant m != none && s.lineInstant m == s.lineInstant l)
    | none => false

/-- Units of the entries of a group with those of its instant (R157); none when two would share a unit. -/
def State.placed (s : State) (get : Getter) (g : Nat) : Option (List (Nat × Nat)) :=
  let gs := s.sameInstant get g
  let all := gs.flatMap (groupEntries s.cfg get)
  let before := ((gs.takeWhile (fun h => h != g)).flatMap (groupEntries s.cfg get)).length
  (bestPlace (autoPlaces (all.filterMap fun e => e.2) all)).map fun l => (l.drop before).take (groupEntries s.cfg get g).length

/-- Every group can be served, and every named unit reaches its input (R157). -/
def State.groupsOk (s : State) (get : Getter) : Bool :=
  (List.range 8).all fun g => groupLine s.cfg get g == none ||
    ((groupEntries s.cfg get g).all (fun e => decide (e.1 < 32) &&
      (match e.2 with | none => true | some u => u == (unitsOf e.1).1 || u == (unitsOf e.1).2)) && (s.placed get g).isSome)

def State.updSaru (s : State) (u : Nat) (f : Saru → Saru) : State := { s with sense := { s.sense with saru := s.sense.saru.modify u f } }
def State.saru (s : State) (u : Nat) : Saru := s.sense.saru.getD u State.resetSaru

/-- Low 8 bits of the control-period count. -/
def State.periodTag (s : State) : Nat := s.getN O.PERIOD_COUNT % 256

/-- A calibration of unit u is aborted; the eighth in succession reports CAL_STARVED (R182). -/
def State.starve (s : State) (aborts detail : Nat) : State :=
  if aborts = 8 then (s.bump O.CAL_STARVED_COUNT).note .calStarved detail else s

def State.abortCal (s : State) (u : Nat) : State :=
  if (s.saru u).calRun then
    let s := (s.updSaru u fun x => { x with calRun := false }).set O.SARU_STATE 0 u
    let s := s.bump O.CAL_ABORTS u
    s.starve (s.getN O.CAL_ABORTS u) u
  else s

/-- A calibration that is due starts when no injected conversion is pending (R182); the SUSPECT count is spent first (R184). -/
def State.startCal (s : State) (u : Nat) : State :=
  let x := s.saru u
  if x.calDue && !x.calRun && x.jobs.isEmpty && s.get O.SARU_STATE u == 0 then
    (s.updSaru u fun x => { x with calRun := true, suspect := 0 }).set O.SARU_STATE 1 u
  else s

/-- The unit carries a field-loop entry: INJ0, and INJ1 in TRACTION-2 (R183). -/
def State.fieldEntries (s : State) (u : Nat) : List (Nat × Nat) :=
  let gs := if s.cfg = 1 then [0, 1] else [0]
  gs.flatMap fun g => ((s.placed s.inForce g).getD []).filter fun e => e.2 == u

/-- An idle twin exists: no entry of the same instant uses the other unit of any field-loop entry (R183). -/
def State.idleTwin (s : State) (u : Nat) : Bool :=
  let gs := if s.cfg = 1 then [0, 1] else [0]
  gs.all fun g =>
    let mine := ((s.placed s.inForce g).getD []).filter fun e => e.2 == u
    let all := (s.sameInstant s.inForce g).flatMap fun h => (s.placed s.inForce h).getD []
    mine.all fun e => !(all.any fun x => x.2 == twinOf e.1 u) && s.get O.SARU_STATE (twinOf e.1 u) == 0

/-- A result repeated as the last valid one (Table 5.3, bit 20). -/
def staleWord (w : Nat) : Nat := if (w >>> 20) % 2 = 1 then w else w + 2 ^ 20

/-- One entry of a group that fires. -/
def State.fireEntry (s : State) (g e : Nat) (x : Nat × Nat) : State :=
  let u := x.2
  let st := s.get O.SARU_STATE u
  let add := fun (s : State) (v : Nat) (tw : Bool) =>
    (s.abortCal v).updSaru v fun y => { y with jobs := y.jobs ++ [(⟨some (g, e), x.1, s.periodTag, tw⟩ : Job)] }
  if (s.saru u).moved then add s (twinOf x.1 u) true
  else if 2 ≤ st then
    let w := staleWord (s.getN O.AIN_RESULT x.1)
    (s.set O.AIN_RESULT w x.1).set O.INJ_RESULT w (4 * g + e)
  else add s u false

/-- A group is triggered (R157, R159): dropped while its conversions are pending. -/
def State.fireGroup (s : State) (g : Nat) : State :=
  if s.sense.saru.any (fun x => x.jobs.any fun j => match j.grp with | some q => q.1 == g | none => false) then
    (s.bump O.TRIG_OVERRUN).note .snsTrigOverrun g
  else
    ((((s.placed s.inForce g).getD []).mapIdx fun e x => (e, x))).foldl (fun (s : State) ex => s.fireEntry g ex.1 ex.2) s

/-- The regular sequence of unit u starts from its first entry (R158, R159). -/
def State.startRegular (s : State) (u : Nat) : State := s.updSaru u fun x => { x with reg := some 0 }

/-- A trigger line fires (R156). -/
def State.firePt (s : State) (pt : Nat) : State :=
  let s := ((List.range 8).filter fun g => groupLine s.cfg s.inForce g == some pt).foldl (fun (s : State) g => s.fireGroup g) s
  ((List.range 4).filter fun u => s.get O.REG_MODE u == 2 && s.get O.REG_TRIGGER u == pt).foldl (fun (s : State) u => s.startRegular u) s

/-- TRIGGER_FIRE: PT2..PT15, and PT1 outside TRACTION-2; the boundaries fire the others themselves. -/
def triggerFire (pt : Fin 16) (s : State) : State :=
  if !s.sys.dev.runs || pt.val = 0 || (pt.val = 1 && s.cfg = 1) || s.lineInstant pt.val = none then s else s.firePt pt.val

/-- In-line sensor that entry e of the field-loop group of bridge b measures, 0..5. -/
def ilineOf (get : Getter) (b e : Nat) : Nat :=
  3 * b + ((List.range 3).filter fun p => get O.ILINE_AIN (3 * b + p) != 255).getD e 0

/-- An in-line result: its current and its marks (R161, R163). -/
def State.ilineIn (s : State) (i : Nat) (v : Rat) (ovr unset : Bool) : State :=
  let amps := (v - mkRat (s.get O.ILINE_ZERO i + s.get O.ILINE_OFFSET_MEAS i) 1000) * s.getQ O.ILINE_GAIN i
  let s := s.setQ O.I_LINE (1000 * amps) i
  { s with sense := { s.sense with iline := s.sense.iline.modify i fun x =>
      { x with ovr := if ovr then x.ovr + 1 else 0, unset := if unset then x.unset + 1 else 0, fresh := true } } }

/-- Unit u is about to finish: its oldest injected conversion, else its regular entry (R159). -/
def State.currentJob (s : State) (u : Nat) : Option Job :=
  match (s.saru u).jobs with
  | j :: _ => some j
  | [] => match (s.saru u).reg with
    | some k => some ⟨none, muxAin u (s.getN O.REG_ENTRY (16 * u + k)), s.periodTag, false⟩
    | none => none

/-- SARU_CONVERSION_DONE with the voltage held (R154, R155, R185). -/
def saruDone (u : Fin 4) (uv : Int) (s : State) : State :=
  match (if s.sys.dev.runs && !(s.saru u.val).calRun then s.currentJob u.val else none) with
  | none => s
  | some j =>
    let sel := s.get O.REF_SEL_SARU
    let (code, ovr) := codeOf 16384 (mkRat uv 1000000) (refVolts sel)
    let unset := !s.refOk sel
    let susp := decide (0 < (s.saru u.val).suspect) || unset
    let w := ofBits [ovr, susp, false, unset, false, j.twin]
    let word : Nat := code + w * 2 ^ 16 + u.val * 2 ^ 22 + j.tag * 2 ^ 24
    let s := s.updSaru u.val fun x =>
      { x with suspect := if ovr then 2 else x.suspect - 1,
               jobs := x.jobs.drop 1,
               reg := match j.grp, x.reg with
                 | none, some k => if k + 1 < s.getN O.REG_LENGTH u.val then some (k + 1) else none
                 | _, r => r }
    let s := s.set O.AIN_RESULT word j.ain
    let s := if ovr then (s.bump O.OVR_COUNT).note .snsOvr j.ain else s.unnote .snsOvr j.ain
    let s := if susp then s.bump O.SUSPECT_COUNT else s
    let v := mkRat code 16384 * refVolts sel
    let s := match j.grp with
      | none => s
      | some (g, e) =>
        let s := s.set O.INJ_RESULT word (4 * g + e)
        if g = 0 ∨ (g = 1 ∧ s.cfg = 1) then s.ilineIn (ilineOf s.inForce g e) v ovr unset else s
    if (s.saru u.val).jobs.isEmpty then s.startCal u.val else s

/-- REGULAR_SEQUENCE_START: the interval of timed mode has passed (R158). -/
def regularStart (u : Fin 4) (s : State) : State :=
  if s.sys.dev.runs && s.get O.REG_MODE u.val == 1 && !(s.saru u.val).calDue && s.get O.SARU_STATE u.val == 0 then s.startRegular u.val else s

/-! ### Island samples -/

def State.conv (s : State) (n : IslIx) : IslConv := s.sense.conv.getD (n.val / 2) State.resetConv
def State.updConv (s : State) (n : IslIx) (f : IslConv → IslConv) : State :=
  { s with sense := { s.sense with conv := s.sense.conv.modify (n.val / 2) f } }

/-- Full scale of the shunt input, V (Table 5.8). -/
def shuntScale (range : Int) : Rat := if range = 0 then 1 / 20 else if range = 1 then 1 / 10 else 1 / 5

/-- Shunt code, offset binary, with its over range (Table 5.7, R185). -/
def shuntCode (fs v : Rat) : Nat × Bool :=
  if fs + 1 / 100 < v then (0x3FFF, true)
  else if v < -fs - 1 / 100 then (0, true)
  else ((clampI 0 0x3FFF (0x2000 + roundQ (8192 * v / fs))).toNat, false)

/-- Every active low-side gate of the island is on (Table 5.7, LOW_ON). -/
def State.lowOn (s : State) (n : IslIx) : Bool :=
  (List.range 4).all fun k =>
    let o := (s.island n).outs.getD k State.resetOut
    !s.declared n k || o.isolated || o.phase == .holdOn

/-- One shunt and VDC instant of a low-side island (R169, R170, R182, R185): a calibration is aborted, and the RESULT word goes to the head of the queue. -/
def State.sampleAt (s : State) (n : IslIx) (inst : Nat) (shuntUv vdcUv : Int) : State :=
  if !n.low then s
  else
    let c := s.conv n
    let s := if c.calRun then (s.updConv n fun c => { c with aborts := c.aborts + 1 }).starve (c.aborts + 1) (0x100 + n.val) else s
    let (sh, shOvr) := shuntCode (shuntScale (s.get O.SHUNT_RANGE (n.val / 2))) (mkRat shuntUv 1000000)
    let (vd, vdOvr) := codeOf 16384 (mkRat vdcUv 1000000) 2
    let sus1 := decide (0 < c.suspect)
    let left := if shOvr then 2 else c.suspect - 1
    let sus2 := decide (0 < left)
    let left := if vdOvr then 2 else left - 1
    let tag := s.periodTag
    let word : Nat := ofBits [s.lowOn n, sus2, vdOvr, sus1, shOvr] * 2 ^ 21 + (inst % 4) * 2 ^ 26 + tag * 2 ^ 28 + vd * 2 ^ 36 + sh * 2 ^ 50
    let s := s.updConv n fun c => { c with suspect := left }
    s.updIsl n fun i => ({ i with results := i.results ++ [BitVec.ofNat 64 word] } : Island).pushUp 0x8#4

/-- ISLAND_SAMPLE_INSTANT: an additional instant ordered by the last CMD frame (R169). -/
def sampleInstant (n : IslIx) (inst : Nat) (shuntUv vdcUv : Int) (s : State) : State :=
  s.ifLive n fun s => if 1 ≤ inst ∧ inst ≤ (s.island n).offsets.length then s.sampleAt n inst shuntUv vdcUv else s

/-- MARK at island n: the sample of the boundary, and a confirmed parameter set goes in force (R141, R169, R173). -/
def markSym (n : IslIx) (shuntUv vdcUv : Int) (s : State) : State :=
  s.ifLive n fun s =>
    let i := s.island n
    let k := n.val / 2
    let changes := fun (o : Obj) => i.applyNext && i.staged.any fun e => e.1 == o.key k
    let s := s.updConv n fun c => { c with hiInit := c.hiInit || changes O.DCW_HIGH, loInit := c.loInit || changes O.DCW_LOW }
    let s := s.onIslR n fun i =>
      let i := i.symbol
      if i.applyNext then { i with applied := i.staged, applyNext := false } else i
    if (s.island n).verified then s.sampleAt n 0 shuntUv vdcUv else s

/-- Temperature of a thermistor from its resistance, 0.1 °C (assumption 22). -/
def State.ntcTemp (s : State) (ohm : Nat) : Rat :=
  10 * (divQ 1 (mkRat 100 29815 + divQ (Config.ln (divQ ohm (s.get O.NTC_RNOM))) (s.get O.NTC_BETA)) - mkRat 27315 100)

/-- NTC_CONVERSION (R172): readings of the declared thermistors; one outside −55..200 °C is unavailable (Table 4.18). -/
def ntcDone (n : IslIx) (r1 r2 : Nat) (s : State) : State :=
  s.ifLive n fun s =>
    let one := fun (s : State) (o : Obj) (f r k : Nat) =>
      if !s.funcDecl n f then s.set o (-32768) n.val
      else
        let t := s.ntcTemp r
        if t < -550 ∨ 2000 < t then (s.set o (-32768) n.val).note .islNtcFail (outDetail n k) else s.setQ o t n.val
    one (one s O.NTC1_TEMP 5 r1 0) O.NTC2_TEMP 6 r2 1

/-- DC_LINK_WINDOW_CROSS: the filtered output of a level moves (R173). -/
def dcWindow (n : IslIx) (upper trip : Bool) (s : State) : State :=
  s.ifLive n fun s =>
    if !n.low then s
    else
      let init := if upper then (s.conv n).hiInit else (s.conv n).loInit
      if !trip then s.updConv n fun c => if upper then { c with hiInit := false } else { c with loInit := false }
      else if init || (!upper && s.get O.DCW_LOW (n.val / 2) == 0) then s
      else s.islFast n (if upper then 0x5#4 else 0x6#4)

/-- A RESULT word taken at the control die (R164, R170). -/
def State.resultIn (s : State) (n : IslIx) (w : DWord) : State :=
  let k := n.val / 2
  let f := fun (lo len : Nat) => (w.extractLsb' lo len).toNat
  let shOvr := w.getLsbD 25
  let shSus := w.getLsbD 24
  let vdOvr := w.getLsbD 23
  let vdSus := w.getLsbD 22
  let bad := (s.conv n).bad
  let fs := shuntScale (s.get O.SHUNT_RANGE k)
  let ma := divQ (((f 50 14 : Rat) - 8192) / 8192 * fs * 1000 * 1000000000) (s.get O.SHUNT_RES k)
  let volts := mkRat (f 36 14 * 2) 16384 * s.get O.VDC_RATIO k / 1000
  let inst := f 26 2
  let x : IslSample := ⟨inst, ma, w.getLsbD 21, !(shOvr || shSus || bad), !(vdOvr || vdSus || bad), volts⟩
  let s := if f 28 8 = s.periodTag then { s with sense := { s.sense with smp := s.sense.smp.modify k (fun l => l ++ [x]) } } else s
  let s := if inst = 0 then (s.setQ O.SHUNT_MEAS ma k).setQ O.VDC_MEAS (10 * volts) k else s
  let s := if shOvr || vdOvr then s.bump O.OVR_COUNT else s
  let s := if shSus || vdSus then s.bump O.SUSPECT_COUNT else s
  (s.noteIf shOvr .snsOvr (0x100 + n.val)).noteIf vdOvr .snsOvr (0x200 + n.val)

/-! ### Comparators and windows -/

def State.winOn (s : State) (w : Nat) : Bool := s.getB O.WIN_ENABLE w

/-- Code of a window (Table 5.15) from the levels of its comparators. -/
def State.winCode (s : State) (w : Nat) : Nat :=
  let lv := s.get O.CMP_LEVEL
  let bi := s.get O.CMP_BAND_INIT
  if bit bi (2 * w) || bit bi (2 * w + 1) then 3 else ofBits [bit lv (2 * w), bit lv (2 * w + 1)]

/-- What can trip: comparators 0..15 outside enabled windows, windows 16..23 (R190). -/
def State.tripped (s : State) (k : Nat) : Bool :=
  if k < 16 then !s.winOn (k / 2) && bit (s.get O.CMP_LEVEL) k
  else s.winOn (k - 16) && (let c := s.winCode (k - 16); if s.get O.WIN_MODE (k - 16) = 0 then c != 0 else c == 0 || c == 3)

def State.tripInit (s : State) (k : Nat) : Bool :=
  if k < 16 then bit (s.get O.CMP_BAND_INIT) k else s.winCode (k - 16) == 3

def State.tripAction (s : State) (k : Nat) : Int := if k < 16 then s.get O.ACTION k else s.get O.WIN_ACTION (k - 16)

/-- Window objects follow their comparators (Table 5.15). -/
def State.showWindows (s : State) : State :=
  let ws := (List.range 8).map s.winCode
  (s.set O.WIN_STATE (((ws.mapIdx fun w c => c * 4 ^ w).foldl (· + ·) 0 : Nat) : Int)).set O.WIN_BAND_INIT (ofBits (ws.map fun c => c == 3))

/-- A trip acts (R191): the fault logic sends OFF_SOFT to every island for actions 2 and 3. Outside DRIVE and CONVERT a band initialisation raises nothing (R193). -/
def State.tripActs (s : State) (k : Nat) : State :=
  if s.tripInit k && s.sys.dev != .run then s
  else match s.tripAction k with
    | 1 => s.note .cmpNote k
    | 2 => (s.send (allIslands.map fun n => Sent.symbol n 0x4#3)).post .cmpSafe k
    | 3 => (s.send (allIslands.map fun n => Sent.symbol n 0x4#3)).post .cmpLatch k
    | _ => s

/-- Back on the non-trip side: CMP_NOTE leaves at once, CMP_LATCH can be cleared by an edge; CMP_SAFE leaves after 1 ms (Table 5.19). -/
def State.tripEnds (s : State) (k : Nat) : State := (s.leave .cmpNote k).leave .cmpLatch k

/-- Change comparator bits and let the trips that begin or end act. -/
def State.cmpChange (s : State) (f : State → State) : State :=
  let t := (f s).showWindows
  (List.range 24).foldl (fun (a : State) k =>
    if t.tripped k && (!s.tripped k || (t.tripInit k && !s.tripInit k)) then a.tripActs k
    else if s.tripped k && !t.tripped k then a.tripEnds k else a) t

def State.setCmp (s : State) (c : Nat) (level init : Bool) : State :=
  (s.set O.CMP_LEVEL (setBit (s.get O.CMP_LEVEL) c level)).set O.CMP_BAND_INIT (setBit (s.get O.CMP_BAND_INIT) c init)

/-- Band initialisation begins for comparators (R192). -/
def State.cmpInit (s : State) (cs : List Nat) : State :=
  s.cmpChange fun s => cs.foldl (fun (s : State) c => s.setCmp c true true) s

/-- CMP_TRIP: the filtered output moves to the trip side (R187, R188). -/
def cmpTrip (c : Fin 16) (s : State) : State :=
  if !s.sys.dev.runs then s else s.cmpChange fun s => s.setCmp c.val true (bit (s.get O.CMP_BAND_INIT) c.val)

/-- CMP_RELEASE: a filter length outside the band on the non-trip side (R188, R192); not while the reference is unsettled (R180). -/
def cmpRelease (c : Fin 16) (s : State) : State :=
  if !s.sys.dev.runs || !s.refOk (s.get O.REF_SEL_CMP) then s else s.cmpChange fun s => s.setCmp c.val false false

/-- Band initialisation of comparators or windows with action 2 or 3 keeps the module out of DRIVE and CONVERT (R193). -/
def State.cmpHolds (s : State) : Bool :=
  (List.range 24).any fun k => s.tripInit k && s.tripped k && decide (2 ≤ s.tripAction k)

/-! ### References and calibration commands -/

/-- REF_SETTLED (R180): comparators on that reference start their band initialisation again (R192). -/
def refSettled (r : RefSel) (s : State) : State :=
  if !s.sys.dev.runs then s
  else
    let c : Nat := refNum r
    let was := s.refOk c
    let st := setBit (s.get O.REF_STATUS) c true
    let s := s.set O.REF_STATUS (if c = 1 then setBit st 3 true else st)
    let s := { s with sense := { s.sense with hadRef := s.sense.hadRef.set c true } }
    if !was && s.get O.REF_SEL_CMP == (c : Int) then s.cmpInit (List.range 16) else s

/-- REF_LOST (R180): reported when a block selects it and it had been settled; its comparators report their trip side. -/
def refLost (r : RefSel) (inRange : Bool) (s : State) : State :=
  if !s.sys.dev.runs then s
  else
    let c : Nat := refNum r
    let st := setBit (s.get O.REF_STATUS) c false
    let s := s.set O.REF_STATUS (if c = 1 then setBit st 3 inRange else st)
    let used := s.get O.REF_SEL_SARU == (c : Int) || s.get O.REF_SEL_ICU == (c : Int) || s.get O.REF_SEL_CMP == (c : Int)
    let s := if used && s.sense.hadRef.getD c false then s.note .snsRefFail c else s
    if s.get O.REF_SEL_CMP = (c : Int) then s.cmpInit (List.range 16) else s

/-- A calibration falls due (R181): a unit with field-loop entries and an idle twin waits for the boundary that moves them (R183). -/
def State.calIsDue (s : State) (u : CalUnit) : State :=
  match u with
  | .saru u =>
    if s.get O.SARU_STATE u.val = 3 then s
    else
      let s := s.updSaru u.val fun x => { x with calDue := true }
      if !(s.fieldEntries u.val).isEmpty && s.idleTwin u.val then s else s.startCal u.val
  | .island n => if n.low && (s.island n).live && !(s.conv n).bad then s.updConv n fun c => { c with calDue := true, calRun := true } else s

def calDue (u : CalUnit) (s : State) : State := if s.sys.dev.runs then s.calIsDue u else s

/-- A calibration result out of limits: ±64 LSB, ±1.0 % in 0.01 % (R184). -/
def calBad (offset gain : Int) : Bool := decide (64 < absI offset) || decide (100 < absI gain)

/-- CAL_DONE (R182, R184). -/
def calDone (u : CalUnit) (offset gain : Int) (s : State) : State :=
  match u with
  | .saru u =>
    if !(s.saru u.val).calRun then s
    else
      let s := (s.updSaru u.val fun x => { x with calRun := false, calDue := false }).set O.CAL_ABORTS 0 u.val
      let s := s.unnote .calStarved u.val
      if calBad offset gain then
        let keep := s.idleTwin u.val
        (((s.updSaru u.val fun x => { x with moved := keep }).set O.SARU_STATE 3 u.val).note .snsCalFail u.val).carrierFails (8 + u.val)
      else s.set O.SARU_STATE 0 u.val
  | .island n =>
    if !(s.conv n).calRun then s
    else
      let b := calBad offset gain
      let s := s.updConv n fun c => { c with calRun := false, calDue := false, aborts := 0, bad := c.bad || b }
      let s := s.unnote .calStarved (0x100 + n.val)
      if b then s.note .snsCalFail (0x100 + n.val) else s

/-- Calibrations at a boundary (R183): entries move to their idle twins, or back once the unit serves again. -/
def State.calBoundary (s : State) : State :=
  (List.range 4).foldl (fun (s : State) u =>
    let x := s.saru u
    if x.calDue && !x.calRun && !x.moved && !(s.fieldEntries u).isEmpty && s.idleTwin u then
      (s.updSaru u fun x => { x with moved := true }).startCal u
    else if x.moved && s.get O.SARU_STATE u == 0 then s.updSaru u fun x => { x with moved := false }
    else s) s

/-- CAL_REQUEST (0x2501:10): bit u makes a calibration of SARUu due. -/
def calRequest (mask : Byte) (id : ReqId) (s : State) : State :=
  ((List.finRange 4).foldl (fun (s : State) u => if mask.getLsbD u.val then s.calIsDue (.saru u) else s) s).done id

/-! ### ICU -/

/-- Results of one ICU window (R174..R178, R186). -/
def State.icuEnd (s : State) (u : Nat) (x : IcuSample) (late : Bool) : State :=
  let icu := s.sense.icu.getD u State.resetIcu
  let ch := s.getN O.SEQ_CH (4 * u + icu.entry)
  let sel := s.get O.REF_SEL_ICU
  let (code, _) := codeOf 1048576 (mkRat x.meanUv 1000000) (refVolts sel)
  let tracked := s.get O.WINDOW u == 2
  let lost := tracked && (late || decide (x.len < 150000) || s.get O.PLL_STATE == 0)
  let s := s.bump O.WIN_COUNT u
  let susp := icu.suspect || x.ovr || !s.refOk sel
  let word : Nat := code + ofBits [x.ovr, susp, lost] * 2 ^ 20 + (s.getN O.WIN_COUNT u % 256) * 2 ^ 24
  let len := s.getN O.SEQ_LEN u
  let s := { s with sense := { s.sense with icu := s.sense.icu.modify u fun i =>
      { entry := if i.entry + 1 < len then i.entry + 1 else 0, suspect := x.ovr } } }
  let s := (s.set O.ICU_MEAN word (4 * u + ch)).set O.WIN_LEN x.len u
  let s := if len = 1 then s.set O.ICU_RMS x.rms u else s
  let e : Nat := u / 2 * 2
  let paired := s.getN O.SEQ_LEN e == 1 && s.getN O.SEQ_LEN (e + 1) == 1 && s.get O.WINDOW e == s.get O.WINDOW (e + 1)
  let s := if u = e then s.set O.ICU_PRODUCT (if paired then x.product else -0x80000000) e else s
  let s := if x.ovr then (s.bump O.OVR_COUNT).note .snsOvr (0x300 + 4 * u + ch) else s.unnote .snsOvr (0x300 + 4 * u + ch)
  let s := if susp then s.bump O.SUSPECT_COUNT else s
  if tracked then s.noteIf lost .icuUntracked u else s

/-! ### COMMIT -/

/-- Checks of the sensing COMMIT (R157, R176, R190). -/
def sensingCheck (s : State) : Option Nat :=
  let get : Getter := fun o p => s.planned o p
  if !s.groupsOk get then some abortValue
  else if !s.charger && (List.range 8).any (fun u => get O.WINDOW u == 2) then some abortValue
  else if (List.range 8).any (fun w => get O.WIN_ENABLE w == 1 && decide (get O.THRESH (2 * w + 1) ≤ get O.THRESH (2 * w))) then some abortValue
  else none

/-- Comparators whose input, level, hysteresis, sense or filter a COMMIT has changed (R192). -/
def cmpChanged (old s : State) : List Nat :=
  (List.range 16).filter fun c =>
    [O.INPUT, O.THRESH, O.HYS, O.SENSE, O.FILTER_2530].any (fun o => old.get o c != s.get o c) ||
    (old.get O.REF_SEL_CMP != s.get O.REF_SEL_CMP) || (old.get O.WIN_ENABLE (c / 2) != s.get O.WIN_ENABLE (c / 2))

/-- What new sensing values start: band initialisations, and sequences from their first entry. -/
def sensingHook (old s : State) : State :=
  let cs := cmpChanged old s
  let s := if cs.isEmpty then s else s.cmpInit cs
  { s with sense := { s.sense with icu := s.sense.icu.mapIdx fun u i => if old.get O.SEQ_LEN u = s.get O.SEQ_LEN u then i else { i with entry := 0 } } }

/-- Odd islands: their values of 0x2550+k go through the CFG exchange (R199, R141). -/
def lowIslands : List IslIx := [1, 3, 5, 7, 9, 11]

/-! ### The commands -/

def execTriggerFire (pt : Fin 16) (s : State) : Host.Outcome State Fault Refusal := .next (triggerFire pt s)
def execSaruConversionDone (u : Fin 4) (uv : Int) (s : State) : Host.Outcome State Fault Refusal := .next (saruDone u uv s)
def execRegularSequenceStart (u : Fin 4) (s : State) : Host.Outcome State Fault Refusal := .next (regularStart u s)
def execIslandSampleInstant (n : IslIx) (inst : Nat) (shuntUv vdcUv : Int) (s : State) : Host.Outcome State Fault Refusal :=
  .next (sampleInstant n inst shuntUv vdcUv s)
def execMark (n : IslIx) (shuntUv vdcUv : Int) (s : State) : Host.Outcome State Fault Refusal := .next (markSym n shuntUv vdcUv s)
def execNtcConversion (n : IslIx) (r1 r2 : Nat) (s : State) : Host.Outcome State Fault Refusal := .next (ntcDone n r1 r2 s)
def execDcLinkWindowCross (n : IslIx) (upper trip : Bool) (s : State) : Host.Outcome State Fault Refusal := .next (dcWindow n upper trip s)
def execRefSettled (ref : RefSel) (s : State) : Host.Outcome State Fault Refusal := .next (refSettled ref s)
def execRefLost (ref : RefSel) (inRange : Bool) (s : State) : Host.Outcome State Fault Refusal := .next (refLost ref inRange s)
def execCalDue (unit : CalUnit) (s : State) : Host.Outcome State Fault Refusal := .next (calDue unit s)
def execCalDone (unit : CalUnit) (offset gain : Int) (s : State) : Host.Outcome State Fault Refusal := .next (calDone unit offset gain s)
def execCalRequest (r : Req) (mask : Byte) (s : State) : Host.Outcome State Fault Refusal :=
  .next (s.writeReq r O.CAL_REQUEST 0 mask.toNat (calRequest mask))
def execCmpTrip (c : Fin 16) (s : State) : Host.Outcome State Fault Refusal := .next (cmpTrip c s)
def execCmpRelease (c : Fin 16) (s : State) : Host.Outcome State Fault Refusal := .next (cmpRelease c s)
def execSensingCommit (r : Req) (s : State) : Host.Outcome State Fault Refusal :=
  .next (sensingHook s (s.commit r O.COMMIT_25FF 0 sensingCheck lowIslands))

end Sys2Proof.Machine
end

