-- ==== Sys2Proof/Machine/Position.lean ====
section
/-! DEFINITION. Rotor position and speed: sensor interfaces, the channels at their latch instants, standstill start, catch, encoder emulation and position compare (R200..R242). -/

namespace Sys2Proof.Machine

/-! ### Angles -/

/-- Map an angle difference into −32,768..32,767 units. -/
def wrapA (x : Int) : Int := (x + 32768) % 65536 - 32768

/-- Two's complement value of 32 bits. -/
def wrap32 (x : Int) : Int := (x + 2147483648) % 4294967296 - 2147483648

/-- Size of an angle difference in 0.1°. -/
def tenthDeg (d : Int) : Rat := mkRat (absI d * 3600) 65536

/-- Counts per revolution of the encoder (R206). -/
def State.cpr (s : State) : Nat := 4 * s.getN O.ENC_LINES

/-- Position channel in service (R200). -/
def State.chanOn (s : State) (ch : Nat) : Bool := if ch = 0 then s.traction else s.cfg == 1 && s.get O.ARRANGEMENT == 0

def State.chan (s : State) (ch : Nat) : PosChan := s.pos.chans.getD ch State.resetChan
def State.updChan (s : State) (ch : Nat) (f : PosChan → PosChan) : State := { s with pos := { s.pos with chans := s.pos.chans.modify ch f } }

def State.src (s : State) (ch : Nat) : Nat := s.getN O.SENSOR_SRC ch

/-- Channel that an interface serves (R240). -/
def State.servedBy (s : State) (src : Nat) : Option Nat := [0, 1].find? fun ch => s.src ch == src

/-- DETAIL of a sensor code (R240). -/
def State.sensorDetail (s : State) (src : Nat) : Nat := 256 * (s.servedBy src).getD 255 + src

/-- The interface has been declared failed. -/
def State.srcFailed (s : State) (src : Nat) : Bool :=
  match src with
  | 1 => s.pos.enc.failed
  | 2 => s.pos.hall.failed
  | 3 => s.pos.res.failed
  | 4 => (s.pos.sent.getD 0 State.resetSerial).failed
  | 5 => (s.pos.sent.getD 1 State.resetSerial).failed
  | 6 => s.pos.ssi.failed
  | _ => true

/-- Set or clear a bit of POS_STATUS. -/
def State.posBit (s : State) (ch b : Nat) (v : Bool) : State := s.set O.POS_STATUS (setBit (s.get O.POS_STATUS ch) b v) ch

/-- The estimator becomes the main source of a mode-0 channel (R231). -/
def State.toSensorless (s : State) (ch : Nat) (f : FaultCode) (detail : Nat) : State :=
  let s := s.updChan ch fun c => { c with fallback := .sensorless, est := true }
  s.degrade 2 f detail

/-- ROTOR_LOST (R229): no source carries the main angle. -/
def State.rotorLost (s : State) (ch : Nat) : State :=
  (s.updChan ch fun c => { c with est := false, fallback := .none, start := .again }).post .rotorLost (256 * ch)

/-- A sensor is declared failed: its code, and what the channel it serves does (R229, R231). -/
def State.sensorFailed (s : State) (src : Nat) (f : FaultCode) : State :=
  let d := s.sensorDetail src
  let s := s.note f d
  match s.servedBy src with
  | none => s
  | some ch =>
    let s := s.posBit ch 8 true
    if !s.chanOn ch then s
    else
      let c := s.chan ch
      if s.get O.POS_MODE ch = 0 then
        if c.obsLost then (if s.sys.dev = .run then s.rotorLost ch else s)
        else if c.fallback = .sensorless then s else s.toSensorless ch f d
      else if c.fallback = .sensor ∧ s.sys.dev = .run then s.rotorLost ch
      else s

/-- Units of 65,536 per revolution that time µs takes at a speed in 0.1 rpm, per mechanical revolution. -/
def travel (speed : Int) (us : Rat) : Rat := mkRat (speed * 65536) 600000000 * us

/-- Boundary between Hall sectors s − 1 and s, units (Table 6.3). -/
def State.hallEdge (s : State) (k : Nat) : Int := ((k % 6 : Nat) * 65536 / 6 + s.get O.HALL_OFFSET * 65536 / 3600) % 65536

/-- Hall angle now (R214): from the last boundary on at the channel's speed, one unit short of the next. -/
def State.hallTheta (s : State) (ch : Nat) : Option Nat :=
  match s.pos.hall.sector with
  | none => none
  | some k =>
    let adv := quantQ (absQ (travel (s.get O.SPEED ch) (s.now - s.pos.hall.at' : Nat)) * s.get O.POLE_PAIRS ch)
    let room := absI (wrapA ((if s.pos.hall.neg then s.hallEdge k else s.hallEdge (k + 1)) - s.pos.hall.angle)) - 1
    let adv := if adv < room then adv else room
    some ((s.pos.hall.angle + (if s.pos.hall.neg then -adv else adv)) % 65536).toNat

/-- Sensor angle θs within a sensor period, where the interface gives one (Table 6.1, R220, R221). -/
def State.sensorTheta (s : State) (ch src : Nat) : Option Nat :=
  let ser := fun (x : SerialSensor) (lat : Rat) => x.theta.map fun t =>
    ((t + quantQ (travel (s.get O.SPEED ch) ((s.now - x.at' : Nat) + lat))) % 65536).toNat
  match src with
  | 1 => some ((s.pos.enc.r % s.cpr).toNat * 65536 / s.cpr)
  | 3 => if s.pos.res.valid then some s.pos.res.theta else none
  | 4 => ser (s.pos.sent.getD 0 State.resetSerial) (s.get O.SENT_LATENCY 0)
  | 5 => ser (s.pos.sent.getD 1 State.resetSerial) (s.get O.SENT_LATENCY 1)
  | 6 => ser s.pos.ssi 0
  | _ => none

/-- Electrical angle of the channel's sensor (R202); an unreferenced encoder counts from its start angle (R211). -/
def State.sensorAngle (s : State) (ch : Nat) : Option Nat :=
  let src := s.src ch
  if s.srcFailed src then none
  else if src = 2 then s.hallTheta ch
  else match s.sensorTheta ch src with
    | none => none
    | some t =>
      let t : Int := if s.getB O.DIR_INVERT ch then 65536 - (t : Int) else t
      let pps := if src = 3 then s.get O.RES_POLE_PAIRS else 1
      let e := t * s.get O.POLE_PAIRS ch / pps
      if src = 1 ∧ !(s.pos.enc.referenced && s.get O.INDEX_MODE == 1) then
        s.pos.enc.zero.map fun z => ((e + z) % 65536).toNat
      else some ((e + s.get O.ANGLE_OFFSET ch) % 65536).toNat

/-- Mechanical angle (R202). -/
def State.mechAngle (s : State) (ch : Nat) : Option Nat :=
  let src := s.src ch
  (s.sensorTheta ch src).map fun t =>
    (if s.getB O.DIR_INVERT ch then (65536 - t) % 65536 else t) / (if src = 3 then s.getN O.RES_POLE_PAIRS else 1)

/-- A healthy sensor: valid, not failed, and for an encoder not UNCERTAIN (R229). -/
def State.healthy (s : State) (ch : Nat) : Bool := (s.sensorAngle ch).isSome && !(s.src ch == 1 && s.pos.enc.uncertain)

/-! ### Trace triggers and position compare -/

/-- A trigger source of the trace fires (R304); ignored while the trace is not armed. -/
def State.traceTrig (s : State) (src : Nat) : State :=
  if s.get O.TRACE_STATE = 1 ∧ s.get O.TRIG_SRC = src then { s with fl := { s.fl with trace := { s.fl.trace with trig := true } } } else s

/-- The main source of a channel is the encoder. -/
def State.encMain (s : State) (ch : Nat) : Bool := s.src ch == 1 && s.get O.POS_MODE ch == 0 && (s.chan ch).fallback == .none

/-- Multi-turn position of a channel in source counts (R237). -/
def State.multi (s : State) (ch : Nat) : Int := if s.encMain ch then s.pos.enc.r else s.get O.POS_MULTI ch

/-- Single-turn range of a channel's source. -/
def State.turn (s : State) (ch : Nat) : Nat := if s.encMain ch then s.cpr else 65536

/-- Mode fields of a compare (Table 6.9): channel, direction bits, WRAP, FIRE_IF_PASSED, ENABLE. -/
def pcmpCh (m : Int) : Nat := m.toNat % 2

/-- A crossing from a value before v to v or beyond (R237). -/
def crosses (wrap : Bool) (turn : Nat) (v a b : Int) : Bool :=
  if wrap then
    if a < b then decide ((a - v) / turn < (b - v) / turn) else decide ((v - a) / turn < (v - b) / turn)
  else
    let x := wrap32 (a - v)
    let y := wrap32 (b - v)
    if a < b then decide (x < 0) && decide (0 ≤ y) else decide (0 < x) && decide (y ≤ 0)

/-- The value lies at or behind the position in a direction of motion (R238). -/
def isBehind (wrap neg : Bool) (turn : Nat) (v p : Int) : Bool :=
  let d := if wrap then p % turn - v else wrap32 (p - v)
  if neg then decide (d ≤ 0) else decide (0 ≤ d)

def State.showPcmp (s : State) (p : Nat) : State :=
  let x := s.pos.pcmp.getD p State.resetPcmp
  s.set O.PCMP_STATUS (ofBits [bit (s.get O.PCMP_MODE p) 5, x.behind, x.fired]) p

def State.updPcmp (s : State) (p : Nat) (f : Pcmp → Pcmp) : State := { s with pos := { s.pos with pcmp := s.pos.pcmp.modify p f } }

/-- A compare fires (R237). -/
def State.firePcmp (s : State) (p : Nat) : State :=
  let s := (s.updPcmp p fun x => { x with fired := true, behind := false, due := false }).bump O.PCMP_FIRES p
  let s := if s.getB O.ENCO_ENABLE ∧ s.get O.ENCO_Z_SRC = p + 1 then s.send (s.out ++ [.pulse p]) else s
  s.traceTrig (3 + p)

/-- Evaluate a compare at the present position (R237, R238); none fires in CHARGER (R200). -/
def State.evalPcmp (s : State) (p : Nat) : State :=
  let m := s.get O.PCMP_MODE p
  let ch := pcmpCh m
  let x := s.pos.pcmp.getD p State.resetPcmp
  let now := s.multi ch
  let wrap := bit m 3
  let v := s.get O.PCMP_VALUE p
  if !bit m 5 || !s.chanOn ch then s.updPcmp p fun x => { x with last := now }
  else if now = x.last ∧ x.due = false then s
  else
    let neg := decide (now < x.last)
    let moved := decide (now ≠ x.last)
    let dirOk := if neg then bit m 2 else bit m 1
    let hit := x.due || (moved && dirOk && crosses wrap (s.turn ch) v x.last now)
    let clear := x.behind && moved && !isBehind wrap neg (s.turn ch) v now
    let s := s.updPcmp p fun x => { x with last := now, behind := x.behind && !clear }
    (if hit then s.firePcmp p else s).showPcmp p

def State.evalChan (s : State) (ch : Nat) : State :=
  ((List.range 4).filter fun p => pcmpCh (s.get O.PCMP_MODE p) == ch).foldl (fun (s : State) p => s.evalPcmp p) s

/-! ### Encoder emulation -/

/-- The output count follows its target at one count per 100 ns (R236); each lag beyond 16 counts is an overrun. -/
def State.encoStep (s : State) (ch : Nat) : State :=
  if !s.getB O.ENCO_ENABLE || s.get O.ENCO_CH != ch || !bit (s.get O.POS_STATUS ch) 0 then s
  else
    let e := s.pos.enco
    let room : Int := 10 * ((s.now - e.at' : Nat) : Int)
    let out := if absI (e.q - e.out) ≤ room then e.q else if e.out < e.q then e.out + room else e.out - room
    let q := s.multi ch * s.get O.ENCO_N / s.get O.ENCO_M
    let lag := decide (16 < absI (q - out))
    let s := { s with pos := { s.pos with enco := ⟨q, out, s.now, lag⟩ } }
    if lag && !e.lagging then (s.bump O.ENCO_OVERRUN).note .encoOverrun (256 * ch) else s

/-! ### ABZ encoder -/

/-- Place of a level pair in the positive order: A leads B (R206; assumption 91). -/
def quad (a b : Bool) : Nat := match a, b with | false, false => 0 | true, false => 1 | true, true => 2 | false, true => 3

/-- r follows c with one count of reversal hysteresis (R207). -/
def Enc.follow (e : Enc) : Enc :=
  if e.r < e.c then { e with r := e.c, neg := false }
  else if e.c < e.r - 1 then { e with r := e.c + 1, neg := true }
  else e

def State.updEnc (s : State) (f : Enc → Enc) : State := { s with pos := { s.pos with enc := f s.pos.enc } }

def State.showEnc (s : State) : State :=
  ((s.set O.ENC_RAW (s.pos.enc.c % s.cpr)).set O.ENC_COUNT (s.pos.enc.r % s.cpr)).set O.ENC_MULTI (wrap32 s.pos.enc.c)

/-- An event that counts toward the failure of R209. -/
def State.encBad (s : State) : State :=
  let r := s.pos.enc.r
  let near := s.pos.enc.bad.filter fun q => decide (absI (r - q) < s.cpr)
  let bad := near ++ [r]
  let s := s.updEnc fun e => { e with bad := bad }
  if 3 ≤ bad.length ∧ s.pos.enc.failed = false then (s.updEnc fun e => { e with failed := true }).sensorFailed 1 .encFail else s

/-- What uses r after it has moved: index supervision (R210), ENCO and compares. -/
def State.encMoved (s : State) : State :=
  let far := match s.pos.enc.indexAt with | some q => decide (3 * (s.cpr : Int) ≤ 2 * absI (s.pos.enc.r - q)) | none => false
  let s := if s.get O.INDEX_MODE = 1 ∧ far = true ∧ s.pos.enc.missing = false then
      (s.updEnc fun e => { e with missing := true }).note .encIndexMissing (s.sensorDetail 1) else s
  [0, 1].foldl (fun (s : State) ch => if s.encMain ch then (s.encoStep ch).evalChan ch else s) s

/-- ENCODER_EDGE: filtered levels after a change (R206..R208). -/
def encoderEdge (a b : Bool) (s : State) : State :=
  if !s.sys.dev.runs then s
  else
    let (a, b) := if s.getB O.ENC_SWAP then (b, a) else (a, b)
    let e := s.pos.enc
    let d := (quad a b + 4 - quad e.a e.b) % 4
    let s := s.updEnc fun e => { e with a := a, b := b }
    if d = 0 then s
    else if d = 2 then
      (((s.updEnc fun e => { e with uncertain := true, agree := 0 }).bump O.ENC_ILLEGAL_COUNT).note .encIllegal (s.sensorDetail 1)).encBad
    else
      let s := (s.updEnc fun e => ({ e with c := if d = 1 then e.c + 1 else e.c - 1 } : Enc).follow).showEnc
      if s.pos.enc.r = e.r then s else s.encMoved

/-- UNCERTAIN clears (R208). -/
def State.certain (s : State) : State :=
  if s.pos.enc.uncertain then (s.updEnc fun e => { e with uncertain := false, agree := 0 }).unnote .encIllegal (s.sensorDetail 1) else s

/-- Deviation in the wrapped domain. -/
def wrapN (n : Nat) (x : Int) : Int := (x + n / 2) % n - n / 2

/-- INDEX_EVENT in INDEX_MODE 1 (R210, R211). -/
def indexEvent (s : State) : State :=
  if !s.sys.dev.runs || s.get O.INDEX_MODE != 1 then s
  else
    let d := wrapN s.cpr (s.pos.enc.c - s.get O.INDEX_POS)
    let first := !s.pos.enc.referenced
    let ch := (s.servedBy 1).getD 0
    let before := s.sensorAngle ch
    let s := (s.updEnc fun e => { e with c := e.c - d, r := e.c - d, referenced := true, indexAt := some (e.c - d), missing := false }).showEnc
    let s := (s.certain).unnote .encIndexMissing (s.sensorDetail 1)
    let s := s.posBit ch 4 true
    if first then
      match before, s.sensorAngle ch with
      | some x, some y => if (s.get O.PLAUS_TOL ch : Rat) < tenthDeg (wrapA ((y : Int) - x)) then s.note .encIndexDev (s.sensorDetail 1) else s
      | _, _ => s
    else
      let s := s.set O.INDEX_CORR d
      if 1 < absI d then (s.note .encIndexDev (s.sensorDetail 1)).encBad else s.unnote .encIndexDev (s.sensorDetail 1)

/-- ENC_WIRE_FAULT (R209). -/
def encWire (s : State) : State :=
  if !s.sys.dev.runs || s.pos.enc.failed then s else (s.updEnc fun e => { e with failed := true }).sensorFailed 1 .encFail

/-! ### Hall -/

/-- Sector of a Hall state (Table 6.3). -/
def hallSector (c : BitVec 3) : Option Nat :=
  match c.toNat with
  | 1 => some 0 | 3 => some 1 | 2 => some 2 | 6 => some 3 | 4 => some 4 | 5 => some 5 | _ => none

def State.updHall (s : State) (f : Hall → Hall) : State := { s with pos := { s.pos with hall := f s.pos.hall } }

def State.hallFail (s : State) : State :=
  if s.pos.hall.failed then s else (s.updHall fun h => { h with failed := true }).sensorFailed 2 .hallFail

/-- An illegal Hall event (R213). -/
def State.hallBad (s : State) : State :=
  let s := (s.bump O.HALL_ILLEGAL_COUNT).note .hallIllegal (s.sensorDetail 2)
  let near := s.pos.hall.bad.filter fun q => decide (s.pos.hall.changes < q + 6)
  let bad := near ++ [s.pos.hall.changes]
  let s := s.updHall fun h => { h with bad := bad }
  if 3 ≤ bad.length then s.hallFail else s

/-- HALL_CHANGE (R212..R214): a change that reverts within the debounce time is noise. -/
def hallChange (code : BitVec 3) (stable : Bool) (s : State) : State :=
  if !s.sys.dev.runs then s
  else if !stable then (s.bump O.HALL_NOISE_COUNT).note .hallNoise (s.sensorDetail 2)
  else
    let s := s.set O.HALL_STATE code.toNat
    match hallSector code, s.pos.hall.sector with
    | none, _ => s.hallBad
    | some k, none =>
      let ang := (s.hallEdge k + Config.freeNat s.freeIx % 10922) % 65536
      (s.updHall fun h => { h with sector := some k, angle := ang.toNat, at' := s.now }).draw
    | some k, some j =>
      if k = j then s
      else if k = (j + 1) % 6 then
        s.updHall fun h => { h with sector := some k, angle := (s.hallEdge k).toNat, at' := s.now, neg := false, changes := h.changes + 1 }
      else if j = (k + 1) % 6 then
        s.updHall fun h => { h with sector := some k, angle := (s.hallEdge j).toNat, at' := s.now, neg := true, changes := h.changes + 1 }
      else s.hallBad

/-- HALL_ILLEGAL_TIMEOUT: an illegal state has lasted 1 ms (R213). -/
def hallTimeout (s : State) : State :=
  if s.sys.dev.runs && (s.get O.HALL_STATE == 0 || s.get O.HALL_STATE == 7) then s.hallFail else s

/-! ### Resolver, SENT, SSI -/

def State.updRes (s : State) (f : Resolver → Resolver) : State := { s with pos := { s.pos with res := f s.pos.res } }

def State.resFail (s : State) (f : FaultCode) : State :=
  if s.pos.res.failed then s else (s.updRes fun r => { r with failed := true, valid := false }).sensorFailed 3 f

/-- RESOLVER_CHECK: one excitation period (R216, R217). -/
def resolverCheck (amp : Nat) (trackErr : Int) (excFault : Bool) (theta : Nat) (s : State) : State :=
  if !s.sys.dev.runs then s
  else
    let s := (s.set O.RES_AMP_MEAS (O.RES_AMP_MEAS.ty.fit amp)).set O.RES_TRACK_ERR (O.RES_TRACK_ERR.ty.fit trackErr)
    let nom := s.getN O.RES_AMP_NOM
    let bad := decide (2 * amp < nom) || decide (3 * nom < 2 * amp)
    let run := if bad then s.pos.res.ampRun + 1 else 0
    let s := s.updRes fun r => { r with ampRun := run, theta := theta % 65536, valid := r.valid && !bad }
    if excFault then s.resFail .resExcFail else if 2 ≤ run then s.resFail .resLos else s

/-- The position field of a word of n bits, first bit first, as an angle (R220, R221). -/
def posField (word n spec : Nat) (gray : Bool) : Nat :=
  let first := spec / 256
  let len := spec % 256
  let f := (word >>> (n - first - len)) % 2 ^ len
  let f := if gray then (List.range len).foldl (fun a i => a ^^^ (f >>> (i + 1))) f else f
  f * 65536 / 2 ^ len

def State.updSent (s : State) (k : Nat) (f : SerialSensor → SerialSensor) : State := { s with pos := { s.pos with sent := s.pos.sent.modify k f } }

/-- The frame passes the checks of R219. -/
def sentOk (tick : Nat) (last : Option Nat) (f : SentFrame) : Bool :=
  let nom := 56 * tick * 20
  decide (3 * nom ≤ 4 * f.calPulse) && decide (4 * f.calPulse ≤ 5 * nom) &&
  (match last with | none => true | some c => decide (64 * absI ((f.calPulse : Int) - c) ≤ c)) &&
  f.nibbleTicks.all (fun t => decide (12 ≤ t) && decide (t ≤ 27)) && f.crcOk

/-- SENT_FRAME (R218..R220). -/
def sentFrame (k : Fin 2) (f : SentFrame) (s : State) : State :=
  if !s.sys.dev.runs then s
  else
    let x := s.pos.sent.getD k.val State.resetSerial
    let d := s.sensorDetail (4 + k.val)
    if sentOk (s.getN O.SENT_TICK k.val) x.lastCal f then
      let bits := 4 * s.getN O.SENT_NIBBLES k.val
      let data := f.data.toNat % 2 ^ bits
      let s := (s.set O.SENT_DATA data k.val).set O.SENT_STATUS f.status.toNat k.val
      let s := match f.slow with | some w => s.set O.SENT_SLOW w.toNat k.val | none => s
      let s := s.updSent k.val fun x =>
        { x with theta := some (posField data bits (s.getN O.SENT_POS_FIELD k.val) false), at' := s.now, lastCal := some f.calPulse, good := x.good + 1 }
      if 100 ≤ x.good + 1 then s.unnote .sentErr d else s
    else ((s.updSent k.val fun x => { x with good := 0 }).bump O.SENT_ERR_COUNT k.val).note .sentErr d

/-- SENT_TIMEOUT: no frame accepted for SENT_TMO (R219). -/
def sentTimeout (k : Fin 2) (s : State) : State :=
  let x := s.pos.sent.getD k.val State.resetSerial
  if !s.sys.dev.runs || x.failed || (s.servedBy (4 + k.val)).isNone then s
  else (s.updSent k.val fun x => { x with failed := true }).sensorFailed (4 + k.val) .sentFail

/-- SSI_FRAME_DONE (R221, R222). -/
def ssiDone (f : SsiFrame) (s : State) : State :=
  if !s.sys.dev.runs then s
  else
    let bits := s.getN O.SSI_BITS
    let w := f.word.toNat % 2 ^ bits
    let eb := s.getN O.SSI_ERR_BIT
    let err := eb != 255 && bit w (bits - 1 - eb)
    let bad := !f.idleHigh || err || (s.getB O.SSI_DOUBLE && w != f.copy.toNat % 2 ^ bits)
    let d := s.sensorDetail 6
    if bad then
      let run := s.pos.ssi.bad + 1
      let s := ({ s with pos := { s.pos with ssi := { s.pos.ssi with bad := run, good := 0 } } }).bump O.SSI_ERR_COUNT
      let s := s.note .ssiErr d
      if 3 ≤ run ∧ s.pos.ssi.failed = false then
        ({ s with pos := { s.pos with ssi := { s.pos.ssi with failed := true } } }).sensorFailed 6 .ssiFail
      else s
    else
      let th := posField w bits (s.getN O.SSI_POS_FIELD) (s.get O.SSI_CODE == 1)
      let good := s.pos.ssi.good + 1
      let s := ({ s with pos := { s.pos with ssi := { s.pos.ssi with theta := some th, at' := s.now, bad := 0, good := good } } }).set O.SSI_WORD w
      if 100 ≤ good then s.unnote .ssiErr d else s

/-! ### A channel at its latch instant -/

/-- Speeds SW and SW + BB of a channel in 0.1 rpm (R224). -/
def State.swSpeed (s : State) (ch : Nat) : Rat := mkRat (s.get O.SWITCH_SPEED * s.get O.BASE_SPEED ch) 100
def State.bbSpeed (s : State) (ch : Nat) : Rat := s.swSpeed ch + mkRat (s.get O.BLEND_BAND * s.get O.BASE_SPEED ch) 100
def State.ssSpeed (s : State) (ch : Nat) : Rat := mkRat (s.get O.SS_SPEED * s.get O.BASE_SPEED ch) 100

/-- Observer weight (R224). -/
def State.obsWeight (s : State) (ch : Nat) (speed : Int) : Rat :=
  let n := absQ speed
  clampQ 0 1 (divQ (n - s.swSpeed ch) (s.bbSpeed ch - s.swSpeed ch))

/-- Injection runs (R224). -/
def State.injOn (s : State) (ch : Nat) (w : Rat) : Bool :=
  decide (w < 1) && (s.chan ch).est &&
    (s.getN O.POS_MODE ch == 1 || s.getB O.INJ_DIVERSE || (s.chan ch).fallback == .sensorless)

/-- The estimator's angle (R224). -/
def estAngle (w : Rat) (x : PosSample) : Nat :=
  if w ≤ 0 then x.injTheta % 65536
  else if 1 ≤ w then x.obsTheta % 65536
  else ((x.injTheta + quantQ (w * wrapA ((x.obsTheta : Int) - x.injTheta))) % 65536).toNat

/-- The condition of R229 in this period. -/
def State.lossCond (s : State) (ch : Nat) (w : Rat) (x : PosSample) : Bool :=
  (decide (0 < w) && (decide (s.get O.OBS_RES_LIM < x.residual) || decide (s.get O.OBS_PLL_LIM < x.pllErr))) ||
  (s.injOn ch w && !x.injLocked)

/-- The loss of the rotor is confirmed in the second period (R229). -/
def State.confirmLoss (s : State) (ch : Nat) : State :=
  let c := s.chan ch
  if c.obsLost || s.sys.dev != .run then s.updChan ch fun c => { c with est := c.est && c.obsLost }
  else if s.get O.POS_MODE ch = 0 then
    if c.fallback = .sensorless then s.rotorLost ch
    else (s.updChan ch fun c => { c with obsLost := true }).note .obsLost (256 * ch)
  else if s.healthy ch then
    (s.updChan ch fun c => { c with obsLost := true, fallback := .sensor }).degrade 3 .obsLost (256 * ch)
  else s.rotorLost ch

/-- An ALIGN_CMD may run (R202 procedure, step 2): DRIVE, mode 1, above SW + BB, small torque. -/
def State.alignOk (s : State) (ch : Nat) : Bool :=
  let m := if s.cfg = 1 ∧ s.get O.ARRANGEMENT = 0 then ch else 0
  let top := match s.nv.activeBank.bind (fun b => (s.nv.banks.getD b ⟨0, none, 0, []⟩).set) with
    | none => 0
    | some ms => (ms.maps.filter (fun d => d.role == 8 && d.machine == m)).foldl (fun a d => d.cells.foldl maxQ a) 0
  s.sys.dev == .run && s.chanOn ch && s.get O.POS_MODE ch == 1 && s.src ch != 0 && (s.sensorAngle ch).isSome && decide (s.bbSpeed ch < absQ (s.get O.SPEED ch)) &&
    decide (10 * absQ (s.getQ O.TORQUE_EST m) ≤ top)

/-- Status objects of a channel (Tables 6.2, 6.9). -/
def State.showChan (s : State) (ch : Nat) (main : Option Nat) (speed : Int) (div : Option Nat) (divSpeed : Int) (less disagree : Bool)
    (w : Rat) (period : Rat) : State :=
  let c := s.chan ch
  let old := s.get O.POS_STATUS ch
  let dir := if 0 < speed then false else if speed < 0 then true else bit old 3
  let st := ofBits [main.isSome, less, speed == 0, dir, s.src ch == 1 && s.pos.enc.referenced, s.src ch == 1 && s.pos.enc.uncertain,
    s.injOn ch w, c.est && decide (0 < w), bit old 8 || (s.src ch != 0 && s.srcFailed (s.src ch)), div.isSome, c.fallback != .none,
    disagree, (match c.start with | .none => false | _ => true)]
  let s := s.set O.POS_STATUS st ch
  let s := match main with | some t => s.set O.THETA_E t ch | none => s
  let s := match div with | some t => s.set O.THETA_DIVERSE t ch | none => s
  let s := (((s.set O.SPEED (O.SPEED.ty.fit speed) ch).set O.FREQ_E (O.FREQ_E.ty.fit (quantQ (mkRat (speed * s.get O.POLE_PAIRS ch) 6))) ch)).set O.SPEED_DIVERSE
    (O.SPEED_DIVERSE.ty.fit divSpeed) ch
  let f := s.get O.SPEED_FILT ch
  let s := s.setQ O.SPEED_FILT (f + (speed - f) * (1 - Config.exp (divQ (-period) (100 * s.get O.SPD_FILT)))) ch
  let tm := match s.mechAngle ch with
    | some t => t
    | none => (s.getN O.THETA_M ch)
  let multi := if s.encMain ch then wrap32 s.pos.enc.r else wrap32 (s.get O.POS_MULTI ch + wrapA ((tm : Int) - s.get O.THETA_M ch))
  (s.set O.POS_MULTI multi ch).set O.THETA_M tm ch

/-- POSITION_LATCH and ROTOR_LOSS_CHECK of a channel (R203, R223, R224, R229, R232); period in µs. Answers the angle and speed that the FLE uses. -/
def State.latch (s : State) (ch : Nat) (x : PosSample) (period : Rat) : State :=
  let res := s.src ch == 3 && !s.pos.res.failed
  let s := if res then
      let tooMuch := decide (150 < x.trackErr)
      let run := if tooMuch then s.pos.res.trackRun + 1 else 0
      let s := (s.updRes fun r => { r with theta := x.sensorTheta % 65536, trackRun := run, valid := x.sensorFresh && !tooMuch }).set O.RES_TRACK_ERR (O.RES_TRACK_ERR.ty.fit x.trackErr)
      if 2 ≤ run then s.resFail .resLot else s
    else s
  let s := match s.sys.dev with
    | .run | .safeHold | .faultLatched | .discharge => s
    | _ => s.updChan ch fun c => { c with est := false, lostRun := 0 }
  let w := s.obsWeight ch x.obsSpeed
  let e := estAngle w x
  let c := s.chan ch
  let starting := match c.start with | .none => false | _ => true
  let cond := c.est && !starting && s.lossCond ch w x
  let run := if cond then c.lostRun + 1 else 0
  let s := s.set O.OBS_RESIDUAL (O.OBS_RESIDUAL.ty.fit x.residual)
  let s := s.updChan ch fun c => { c with lostRun := run, goodTheta := if cond then c.goodTheta else e,
                                          goodSpeed := if cond then c.goodSpeed else x.obsSpeed,
                                          goodFrom := if cond || !c.est then s.now else c.goodFrom }
  let s := if 2 ≤ run then s.confirmLoss ch else s
  let c := s.chan ch
  let pp := s.get O.POLE_PAIRS ch
  let e := if cond then ((c.goodTheta + quantQ (travel c.goodSpeed period * pp)) % 65536).toNat else e
  let mode0 : Bool := s.getN O.POS_MODE ch == 0
  let less := (mode0 && c.fallback == .sensorless) || (!mode0 && c.fallback != .sensor)
  let sens := s.sensorAngle ch
  let estOk := c.est && !starting
  let main := if less then (if estOk then some e else none) else sens
  let estDiv := if estOk && !c.obsLost && !cond && (decide (s.swSpeed ch ≤ absQ x.obsSpeed) || s.getB O.INJ_DIVERSE) then some e else none
  let div := if less then (if s.healthy ch && !(s.src ch == 3 && decide (50 < x.trackErr)) then sens else none)
    else if mode0 then estDiv else (if estOk && !cond then some e else none)
  let both := main.isSome && div.isSome && c.fallback == .none && !starting && !(s.src ch == 1 && s.pos.enc.uncertain)
  let far := both && decide ((s.get O.PLAUS_TOL ch : Rat) < tenthDeg (wrapA ((main.getD 0 : Int) - div.getD 0)))
  let apart := if far then c.apart + 1 else 0
  let agree := if both && !far then (match c.agreeFrom with | some t => some t | none => some s.now) else none
  let s := s.updChan ch fun c => { c with apart := apart, agreeFrom := agree }
  let s := if 16 ≤ apart then s.post .posDisagree (256 * ch)
    else match agree with
      | some t => if t + 100000 ≤ s.now then s.leave .posDisagree (256 * ch) else s
      | none => s
  let s := if s.src ch = 1 ∧ s.pos.enc.uncertain = true then
      let near : Bool := estOk && !cond && (match sens with | some t => decide (tenthDeg (wrapA ((t : Int) - e)) ≤ s.get O.PLAUS_TOL ch) | none => false)
      let n : Nat := if near then s.pos.enc.agree + 1 else 0
      let s := s.updEnc fun q => { q with agree := n }
      if 16 ≤ n then s.certain else s
    else s
  let speed := if less then x.obsSpeed else x.sensorSpeed
  let s := s.showChan ch main speed div (if less then x.sensorSpeed else x.obsSpeed) less far w period
  let s := match c.aligning with
    | some id => if s.alignOk ch then s else (s.updChan ch fun c => { c with aligning := none }).replyLate id (.abort abortState)
    | none => s
  if s.encMain ch then s else (s.encoStep ch).evalChan ch

/-! ### Standstill start, catch, recovery -/

/-- A DRIVE request, or the windings path, needs an angle of a channel (R204): none when neither a standstill start nor a catch can give one. -/
def State.startAngle (s : State) (ch : Nat) : Option State :=
  if bit (s.get O.POS_STATUS ch) 0 ∧ (s.get O.POS_MODE ch = 0 ∨ (s.chan ch).est = true) then some s
  else if s.get O.POS_MODE ch = 1 ∨ s.srcFailed (s.src ch) = true ∨ s.src ch = 1 then
    let known := s.healthy ch || s.src ch == 1
    let slow := known && decide (absQ (s.get O.SPEED ch) < s.ssSpeed ch)
    some (s.updChan ch fun c => { c with start := if slow then .standstill else .again })
  else none

/-- Angle and magnitude of the axis fit (R225, step 2): arg S / 2 in radians, and σ. -/
def axisFit (ik : List Rat) : Rat × Rat :=
  let c := sumQ (ik.mapIdx fun k i => i * Config.cos (Config.pi * k / 3))
  let d := sumQ (ik.mapIdx fun k i => i * Config.sin (Config.pi * k / 3))
  (Config.atan2 d c / 2, divQ (Config.sqrt (c * c + d * d)) (6 * meanQ ik))

/-- Units of an angle in radians. -/
def radUnits (r : Rat) : Nat := (quantQ (divQ (r * 65536) (2 * Config.pi)) % 65536).toNat

/-- The channel takes its start angle; an unreferenced encoder counts from it (R211). -/
def State.giveAngle (s : State) (ch : Nat) (a : Nat) : State :=
  let s := s.updChan ch fun c => { c with est := true, obsLost := false, lostRun := 0, goodTheta := a, goodFrom := s.now }
  if s.src ch = 1 ∧ !(s.pos.enc.referenced && s.get O.INDEX_MODE == 1) then
    let e := ((s.sensorTheta ch 1).getD 0 : Int)
    let e := if s.getB O.DIR_INVERT ch then 65536 - e else e
    s.updEnc fun x => { x with zero := some ((a - e * s.get O.POLE_PAIRS ch) % 65536).toNat }
  else s

/-- DRIVE is running again on every channel after a flying restart. -/
def State.flyDone (s : State) : State :=
  if s.sys.flying ∧ (s.pos.chans.mapIdx fun ch c => !s.chanOn ch || (match c.start with | .none => true | _ => false)).all id
  then { s with sys := { s.sys with flying := false } } else s

/-- An attempt has failed (R234). -/
def State.attemptFails (s : State) (ch : Nat) : State :=
  let s := (s.updChan ch fun c => { c with start := .again, est := false }).set O.CATCH_RESULT 3
  ({ s with hlm := { s.hlm with catchPermit := false } }).gauntlet

/-- A failed standstill start (R226): the request ends in READY, a windings discharge loses its path, a catch has failed. -/
def State.standstillFails (s : State) (ch : Nat) : State :=
  let s := s.note .ssFail (256 * ch)
  if s.coll.cond .rotorLost then s.attemptFails ch
  else
    let s := s.updChan ch fun c => { c with start := .none, est := false }
    if s.sys.dev = .run then (s.toDev .ready).gauntlet
    else if s.disch.windings then { s with disch := { s.disch with windings := false, windingsBad := true } }.gauntlet
    else s

/-- STANDSTILL_START_DONE (R225, R226). -/
def standstillDone (ch : Fin 2) (m : SsMeas) (s : State) : State :=
  if (s.chan ch.val).start ≠ .standstill then s
  else
    let (alpha, sigma) := axisFit m.ik
    let s := s.setQ O.SS_SALIENCY (1000 * sigma)
    let mach := if s.cfg = 1 ∧ s.get O.ARRANGEMENT = 0 then ch.val else 0
    if 1000 * sigma < s.get O.SS_MIN_SAL then s.standstillFails ch.val
    else
      let mu := fun (a b : Rat) => divQ (a - b) (a + b)
      let lim := mkRat (s.get O.SS_MIN_POL) 1000
      let mu1 := mu m.iPlus m.iMinus
      let mu2 := if absQ mu1 < lim then mu m.iPlus2 m.iMinus2 else mu1
      let syn := s.isSynRel mach
      let s := if syn then s else s.setQ O.SS_POL_MARGIN (1000 * mu2)
      if !syn && decide (absQ mu2 < lim) then s.standstillFails ch.val
      else
        let axis := if syn then alpha + Config.pi / 2 else if 0 < mu2 then alpha else alpha + Config.pi
        let a := radUnits axis
        let s := (s.set O.SS_ANGLE a).unnote .ssFail (256 * ch.val)
        let s := (s.giveAngle ch.val a).set O.CATCH_RESULT 2
        let s := s.updChan ch.val fun c => { c with start := .none }
        ((s.posBit ch.val 0 true).flyDone).leave .rotorLost (256 * ch.val)

/-- OBS_RECOVERY: ρ and the PLL have stayed within their limits for 1 s (R230). -/
def obsRecovery (ch : Fin 2) (s : State) : State :=
  let c := s.chan ch.val
  if !c.obsLost then s
  else
    let s := s.updChan ch.val fun c => { c with obsLost := false, fallback := if c.fallback = .sensor then .none else c.fallback, est := true, lostRun := 0 }
    if c.fallback = .sensor then s.undegrade 3 .obsLost (256 * ch.val) else s.unnote .obsLost (256 * ch.val)

/-- A catch that has found its angle succeeds (R233, R276, R364). -/
def State.caught (s : State) (ch : Nat) (result : Int) : State :=
  let s := (s.updChan ch fun c => { c with start := .none, est := true, obsLost := false, lostRun := 0 }).set O.CATCH_RESULT result
  let s := { s with hlm := { s.hlm with catchPermit := false } }
  ((s.posBit ch 0 true).flyDone.gauntlet).leave .rotorLost (256 * ch)

/-- CATCH_ATTEMPT (R233..R235, R364): from the state in which the outputs are held. -/
def catchAttempt (ch : Fin 2) (s : State) : State :=
  let c := s.chan ch.val
  if c.start ≠ .again ∨ !s.chanOn ch.val then s
  else
    let recent := c.tries.filter fun t => decide (s.now < t + 2000000)
    if 3 ≤ recent.length then
      (s.updChan ch.val fun c => { c with start := .none }).post .flyCatchFail (256 * ch.val)
    else
      let s := (s.updChan ch.val fun c => { c with tries := recent ++ [s.now] }).set O.CATCH_COUNT ((recent.length + 1 : Nat) : Int)
      let mach := if s.cfg = 1 ∧ s.get O.ARRANGEMENT = 0 then ch.val else 0
      let asc := s.hlm.choice == .ascLow || s.hlm.choice == .ascHigh
      if s.healthy ch.val then
        (s.giveAngle ch.val ((s.sensorAngle ch.val).getD 0)).updChan ch.val fun c => { c with start := .follow s.now false }
      else if c.est && decide (c.goodFrom + 20000 ≤ s.now) then s.caught ch.val 1
      else if asc then s.updChan ch.val fun c => { c with est := true, start := .follow s.now false }
      else if s.isSynRel mach then
        if s.ssSpeed ch.val < absQ (s.get O.SPEED ch.val) then s.attemptFails ch.val
        else s.updChan ch.val fun c => { c with start := .standstill }
      else
        let s := s.updChan ch.val fun c => { c with start := .pulses [] }
        if s.sys.dev = .run then s
        else if s.coll.rotorOnly then (({ s with hlm := { s.hlm with catchPermit := true } }).gauntlet).tokenIssue
        else s.attemptFails ch.val

/-- CATCH_PULSE_END: the angle of one zero-vector pulse; after the third, the speed and its check (R233). -/
def catchPulse (ch : Fin 2) (angle : Nat) (emfSpeed : Int) (s : State) : State :=
  match (s.chan ch.val).start with
  | .pulses l =>
    let l := l ++ [angle % 65536]
    if l.length < 3 then s.updChan ch.val fun c => { c with start := .pulses l }
    else
      let s := ({ s with hlm := { s.hlm with catchPermit := false } }).gauntlet
      let d := wrapA ((l.getD 2 0 : Int) - l.getD 0 0)
      let n := divQ (mkRat (d * 6000000) 65536) (s.get O.POLE_PAIRS ch.val)
      if mkRat (absI emfSpeed) 5 < absQ (n - emfSpeed) then s.attemptFails ch.val
      else if absQ n < s.ssSpeed ch.val then s.updChan ch.val fun c => { c with start := .standstill }
      else (s.giveAngle ch.val (l.getD 2 0)).updChan ch.val fun c => { c with start := .follow s.now false }
  | _ => s

/-- CATCH_DONE: the estimator has, or has not, stayed within its limits for 20 ms (R233). -/
def catchDone (ch : Fin 2) (ok : Bool) (s : State) : State :=
  match (s.chan ch.val).start with
  | .follow _ st => if ok then s.caught ch.val (if st then 2 else 1) else s.attemptFails ch.val
  | _ => s

/-- ALIGN_CMD (0x2400+ch:08): the reply follows the second of averaging. -/
def alignCmd (ch : Fin 2) (id : ReqId) (s : State) : State :=
  if !s.alignOk ch.val || (s.chan ch.val).aligning.isSome then s.refuse id abortState
  else (s.updChan ch.val fun c => { c with aligning := some id }).defer id

/-- ALIGN_DONE: the average goes to ANGLE_OFFSET. -/
def alignDone (ch : Fin 2) (avg : Nat) (s : State) : State :=
  match (s.chan ch.val).aligning with
  | none => s
  | some id =>
    let s := s.updChan ch.val fun c => { c with aligning := none }
    if s.alignOk ch.val then (s.keep O.ANGLE_OFFSET ch.val ((avg % 65536 : Nat) : Int)).replyLate id (.ok [])
    else s.replyLate id (.abort abortState)

/-! ### Position compare writes and COMMIT -/

/-- A compare is written (R237, R238): evaluated at once. -/
def State.armPcmp (s : State) (p : Nat) : State :=
  let m := s.get O.PCMP_MODE p
  let ch := pcmpCh m
  let neg := if s.src ch = 1 then s.pos.enc.neg else bit (s.get O.POS_STATUS ch) 3
  let b := isBehind (bit m 3) neg (s.turn ch) (s.get O.PCMP_VALUE p) (s.multi ch)
  (s.updPcmp p fun x => { x with last := s.multi ch, behind := b, due := b && bit m 4 }).showPcmp p

def pcmpValue (p : Fin 4) (v : Int) (id : ReqId) (s : State) : State :=
  let m := s.get O.PCMP_MODE p.val
  if bit m 3 && (decide (v < 0) || decide ((s.turn (pcmpCh m) : Int) ≤ v)) then s.refuse id abortValue
  else ((s.set O.PCMP_VALUE v p.val).armPcmp p.val).done id

def pcmpMode (p : Fin 4) (m : Int) (id : ReqId) (s : State) : State :=
  ((s.set O.PCMP_MODE m p.val).armPcmp p.val).done id

/-- INJ_FREQ divides the control rate into an even integer (R227); rates in mHz. -/
def injOk (rate freq : Int) : Bool :=
  decide (5000 ≤ freq) && decide (freq ≤ 20000) && rate % (2000 * freq) == 0

/-- Checks of the position COMMIT (R201, R215, R227, R236). -/
def positionCheck (s : State) : Option Nat :=
  let g := fun (o : Obj) (p : Nat) => s.planned o p
  let bad0 := [0, 1].any fun ch => g O.POS_MODE ch == 0 && g O.SENSOR_SRC ch == 0
  let shared := g O.SENSOR_SRC 0 != 0 && g O.SENSOR_SRC 0 == g O.SENSOR_SRC 1
  let res := [0, 1].any fun ch => g O.SENSOR_SRC ch == 3 && g O.POLE_PAIRS ch % g O.RES_POLE_PAIRS 0 != 0
  let ch := (g O.ENCO_CH 0).toNat
  let src := if g O.SENSOR_SRC ch = 1 ∧ g O.POS_MODE ch = 0 then 4 * g O.ENC_LINES 0 else 65536
  let enco := g O.ENCO_ENABLE 0 == 1 && src * g O.ENCO_N 0 % (4 * g O.ENCO_M 0) != 0
  if bad0 || shared || res || enco || !injOk (s.get O.CTRL_RATE) (g O.INJ_FREQ 0) then some abortValue else none

/-- A channel whose source or mode changes starts anew. -/
def positionHook (old s : State) : State :=
  [0, 1].foldl (fun (s : State) ch =>
    if old.get O.SENSOR_SRC ch = s.get O.SENSOR_SRC ch ∧ old.get O.POS_MODE ch = s.get O.POS_MODE ch then s
    else (s.updChan ch fun _ => State.resetChan).set O.POS_STATUS 4 ch) s

/-! ### The commands -/

def execEncoderEdge (a b : Bool) (s : State) : Host.Outcome State Fault Refusal := .next (encoderEdge a b s)
def execIndexEvent (s : State) : Host.Outcome State Fault Refusal := .next (indexEvent s)
def execEncWireFault (s : State) : Host.Outcome State Fault Refusal := .next (encWire s)
def execHallChange (code : BitVec 3) (stable : Bool) (s : State) : Host.Outcome State Fault Refusal := .next (hallChange code stable s)
def execHallIllegalTimeout (s : State) : Host.Outcome State Fault Refusal := .next (hallTimeout s)
def execResolverCheck (amp : Nat) (trackErr : Int) (excFault : Bool) (theta : Nat) (s : State) : Host.Outcome State Fault Refusal :=
  .next (resolverCheck amp trackErr excFault theta s)
def execSentFrame (k : Fin 2) (frame : SentFrame) (s : State) : Host.Outcome State Fault Refusal := .next (sentFrame k frame s)
def execSentTimeout (k : Fin 2) (s : State) : Host.Outcome State Fault Refusal := .next (sentTimeout k s)
def execSsiFrameDone (frame : SsiFrame) (s : State) : Host.Outcome State Fault Refusal := .next (ssiDone frame s)
def execStandstillStartDone (ch : Fin 2) (meas : SsMeas) (s : State) : Host.Outcome State Fault Refusal := .next (standstillDone ch meas s)
def execObsRecovery (ch : Fin 2) (s : State) : Host.Outcome State Fault Refusal := .next (obsRecovery ch s)
def execCatchAttempt (ch : Fin 2) (s : State) : Host.Outcome State Fault Refusal := .next (catchAttempt ch s)
def execCatchPulseEnd (ch : Fin 2) (angle : Nat) (emfSpeed : Int) (s : State) : Host.Outcome State Fault Refusal := .next (catchPulse ch angle emfSpeed s)
def execCatchDone (ch : Fin 2) (ok : Bool) (s : State) : Host.Outcome State Fault Refusal := .next (catchDone ch ok s)
def execAlignCmd (r : Req) (ch : Fin 2) (s : State) : Host.Outcome State Fault Refusal := .next (s.writeReq r O.ALIGN_CMD ch.val 1 (alignCmd ch))
def execAlignDone (ch : Fin 2) (avg : Nat) (s : State) : Host.Outcome State Fault Refusal := .next (alignDone ch avg s)
def execPcmpValueWrite (r : Req) (p : Fin 4) (v : Int) (s : State) : Host.Outcome State Fault Refusal :=
  .next (s.writeReq r O.PCMP_VALUE p.val v (pcmpValue p v))
def execPcmpModeWrite (r : Req) (p : Fin 4) (mode : Byte) (s : State) : Host.Outcome State Fault Refusal :=
  .next (s.writeReq r O.PCMP_MODE p.val mode.toNat (pcmpMode p mode.toNat))
def execPositionCommit (r : Req) (s : State) : Host.Outcome State Fault Refusal :=
  .next (positionHook s (s.commit r O.COMMIT_24FF 0 positionCheck))

end Sys2Proof.Machine
end

