-- ==== Sys2Proof/Machine/FieldLoop.lean ====
section
/-! DEFINITION. The PWM timer unit and the Field Loop Engine: control periods, shunt planning and reconstruction, V_DC, current control and modulation (R19, R20, R36, R160..R168, R243..R264). -/

namespace Sys2Proof.Machine

/-! ### Periods -/

def State.bridge (s : State) (b : Nat) : Bridge := s.fl.br.getD b State.resetBridge
def State.updBr (s : State) (b : Nat) (f : Bridge → Bridge) : State := { s with fl := { s.fl with br := s.fl.br.modify b f } }
def State.mach (s : State) (m : Nat) : Solver := s.fl.mach.getD m State.resetSolver
def State.updMach (s : State) (m : Nat) (f : Solver → Solver) : State := { s with fl := { s.fl with mach := s.fl.mach.modify m f } }

/-- Carrier period in 0.1 ns for a frequency in Hz (R243). -/
def carrierPeriod (freq : Int) : Int := roundQ (divQ 10000000000 freq)

/-- Control rate in mHz (R243). -/
def controlRate (freq mode : Int) : Int := freq * 1000 * (1 + mode)

/-- Smallest N for which the control rate over N is at most the solver rate, 2 kHz in takeover (R294), or the outer-loop rate of the charger (R318). -/
def State.solverN (s : State) : Nat :=
  let rate := s.get O.CTRL_RATE / 1000
  let lim : Int := if s.charger then s.get O.CHG_LOOP_RATE else if bit (s.get O.DEG_MODES) 0 then (if s.get O.SOLVER_RATE < 2000 then s.get O.SOLVER_RATE else 2000) else s.get O.SOLVER_RATE
  max 1 ((rate + lim - 1) / lim).toNat

/-- Status objects that follow the field-loop configuration (R243, R247, R294). -/
def State.syncField (s : State) : State :=
  let f := s.get O.CARRIER_FREQ
  let s := (s.set O.CARRIER_PERIOD (carrierPeriod f)).set O.CTRL_RATE (controlRate f (s.get O.UPDATE_MODE))
  s.set O.SOLVER_RATE_ACT (s.get O.CTRL_RATE / 1000 / s.solverN)

/-- Control period, µs. -/
def State.period (s : State) : Rat := mkRat (s.get O.CARRIER_PERIOD) 10000 / (1 + s.get O.UPDATE_MODE)

/-- Machine that a bridge serves (Table 7.1). -/
def State.machOf (s : State) (b : Nat) : Nat := if s.cfg = 1 ∧ s.get O.ARRANGEMENT = 0 then b else 0

/-- Bridges of a machine. -/
def State.bridgesOf (s : State) (m : Nat) : List Nat := if s.cfg = 1 then (if s.get O.ARRANGEMENT = 0 then [m] else [0, 1]) else [0]

/-- AFE and DAB switch: phases 4 to 7, and a stop until its OFF commands (Table 8.7, R333). -/
def State.chgSwitch (s : State) : Bool :=
  let p := s.getN O.CHG_PHASE
  s.charger && s.sys.dev == .run && s.sys.tokenOn &&
    ((decide (4 ≤ p) && decide (p ≤ 7)) || (p == 8 && (s.chg.stop == .ramp || s.chg.stop == .waitCurrent)))

/-- The bridge switches under current control: DRIVE with the token out, or the windings path of a discharge, with a valid main angle (R204, R259). -/
def State.driving (s : State) (b : Nat) : Bool :=
  let m := s.machOf b
  s.traction && s.sys.tokenOn && (s.sys.dev == .run || (s.sys.dev == .discharge && s.disch.windings)) &&
    (s.bridge b).valid && (match (s.chan m).start with | .none => true | _ => false)

/-! ### Pulses -/

/-- High-side pulse of a duty in a period of length T (R244). -/
def pulseOf (double peak : Bool) (t d : Rat) : Pulse :=
  if d ≤ 0 then ⟨t, t⟩
  else if !double then ⟨(1 - d) * t / 2, (1 + d) * t / 2⟩
  else if peak then ⟨0, d * t⟩ else ⟨(1 - d) * t, t⟩

/-- High-side islands of leg x of a bridge. -/
def State.bridgeHigh (s : State) (b x : Nat) : List IslIx := siblingsOf s.cfg (Fin.ofNat 12 (2 * x + 6 * b))

/-- The pulse of a leg after MIN_PULSE (R248) and the limits of bootstrap supply (R122, R123), which take precedence; a 100 % command gets its refresh at the start of a carrier period. -/
def State.legPulse (s : State) (b x : Nat) (peak : Bool) (d : Rat) : Pulse :=
  let t := s.period
  let carrier := mkRat (s.get O.CARRIER_PERIOD) 10000
  let least := mkRat (s.get O.MIN_PULSE) 1000
  let double := s.get O.UPDATE_MODE == 1
  let hi := (s.bridgeHigh b x).map fun n => s.island n
  let d' := if d * t < least then 0 else d
  if hi.any (fun i => i.bootstrap) = false then pulseOf double peak t (if (1 - d') * t < least then 1 else d')
  else
    let low := hi.any fun i => i.bstLow
    let r := mkRat (s.get O.T_REFRESH) 1000 * (if low then 2 else 1)
    if d < 1 then pulseOf double peak t (minQ d' (1 - divQ r carrier))
    else if !peak && (low || decide (200 < (s.bridge b).refresh.getD x 0 + carrier)) then ⟨r, t⟩
    else pulseOf double peak t 1

/-- Time without a refresh after a pulse (R122). -/
def refreshAfter (t w : Rat) (p : Pulse) : Rat := if p.fall < t ∨ p.fall ≤ p.rise then 0 else if 0 < p.rise then t - p.rise else w + t

/-- The high side is on at a time within the period. -/
def Pulse.high (p : Pulse) (t : Rat) : Bool := decide (p.rise ≤ t) && decide (t < p.fall)

/-- The commanded low-side on-interval about the start of a period: from, to (R164). -/
def lowSpan (t : Rat) (last now : Pulse) : Rat × Rat :=
  (if last.fall ≤ last.rise then -t else if last.fall < t then last.fall - t else 0,
   if now.fall ≤ now.rise then t else now.rise)

/-- Insert in ascending order, once. -/
def insQ (x : Rat) : List Rat → List Rat
  | [] => [x]
  | a :: l => if x = a then a :: l else if x < a then x :: a :: l else a :: insQ x l

/-- A constant switching state that gives a phase current (Table 5.5): start, end, phase, negative. -/
structure ActiveVec where
  from' : Rat
  upTo : Rat
  phase : Nat
  neg : Bool

/-- Phase and sign of a switching state U V W (Table 5.5). -/
def vecPhase (st : List Bool) : Option (Nat × Bool) :=
  match st with
  | [true, false, false] => some (0, false)
  | [false, true, false] => some (1, false)
  | [false, false, true] => some (2, false)
  | [false, true, true] => some (0, true)
  | [true, false, true] => some (1, true)
  | [true, true, false] => some (2, true)
  | _ => none

/-- The active vectors of a period. -/
def vectorsOf (t : Rat) (ps : List Pulse) : List ActiveVec :=
  let cuts := (ps.flatMap fun p => [p.rise, p.fall]).foldl (fun l x => if x < 0 ∨ t < x then l else insQ x l) [0, t]
  (cuts.zip (cuts.drop 1)).filterMap fun ab =>
    (vecPhase (ps.map fun p => p.high ((ab.1 + ab.2) / 2))).map fun q => ⟨ab.1, ab.2, q.1, q.2⟩

/-- Sum samples that the vectors allow (R166, R251). -/
def sumsOf (t minW budget : Rat) (vs : List ActiveVec) : List SumPlan :=
  (vs.filter fun v => decide (minW ≤ v.upTo - v.from') && decide (v.upTo - 1 / 10 ≤ 3 / 5 * t) && decide (v.upTo - 1 / 10 ≤ t - budget)).map
    fun v => ⟨v.upTo - 1 / 10, v.phase, v.neg⟩

/-- Sum samples for methods 3 and 4 of Table 5.4: the first of another phase than the leg, or two of different phases. -/
def pickSums (legs : List Nat) (sums : List SumPlan) : Option (List SumPlan) :=
  match legs with
  | [p] => (sums.find? fun x => x.phase != p).map fun x => [x]
  | _ => match sums with
    | [] => none
    | x :: l => (l.find? fun y => y.phase != x.phase && y.neg != x.neg).map fun y => [x, y]

/-- A pulse shifted later to lengthen the vector that its rising edge ends (R167); every permitted shift of the period. -/
def shiftsOf (t minW shiftMax dt : Rat) (ps : List Pulse) : List (List Pulse) :=
  (vectorsOf t ps).flatMap fun v =>
    let need := minW - (v.upTo - v.from')
    if need ≤ 0 ∨ shiftMax < need then []
    else (List.range ps.length).filterMap fun q =>
      let p := ps.getD q ⟨0, 0⟩
      if p.rise = v.upTo ∧ p.fall + need ≤ t - dt then some (ps.set q ⟨p.rise + need, p.fall + need⟩) else none

/-- The sampling plan of a period, and its pulses with the shift (R165, R167). -/
def State.planShunt (s : State) (b : Nat) (last ps : List Pulse) : ShuntPlan × List Pulse :=
  let t := s.period
  let mode := s.get O.SHUNT_MODE b
  let minW := mkRat (s.get O.MIN_WINDOW) 100
  let legs := (List.range 3).filter fun x =>
    let sp := lowSpan t (last.getD x ⟨0, 0⟩) (ps.getD x ⟨0, 0⟩)
    decide (sp.1 ≤ -(minW - 1 / 10)) && decide (1 / 10 ≤ sp.2)
  if mode = 0 then (⟨[], [], 0⟩, ps)
  else if legs.length = 3 then (⟨legs, [], 1⟩, ps)
  else if legs.length = 2 then (⟨legs, [], 2⟩, ps)
  else if mode = 1 ∨ (s.bridge b).newPeriod = true then (⟨[], [], 0⟩, ps)
  else
    let budget := if s.cfg = 1 then 17 / 2 else 53 / 10
    let dt := mkRat (s.get (if b = 1 then O.DT_MIN_2 else O.DT_MIN_1)) 10000
    let cands := ps :: shiftsOf t minW (mkRat (s.get O.SHIFT_MAX) 100) dt ps
    let find := fun (legs : List Nat) => cands.findSome? fun q => (pickSums legs (sumsOf t minW budget (vectorsOf t q))).map fun x => (x, q)
    match (if legs.length = 1 then find legs else none), find [] with
    | some (x, q), _ => (⟨legs, x, 3⟩, q)
    | none, some (x, q) => (⟨[], x, 4⟩, q)
    | none, none => (⟨[], [], 0⟩, ps)

/-! ### The boundary of a bridge -/

/-- Set in force at the period (R256). -/
def State.refsNow (s : State) (b : Nat) : RefSet :=
  let br := s.bridge b
  if s.getB O.REF_RAMP then
    let f := clampQ 0 1 (mkRat (br.k + 1) s.solverN)
    { br.upTo with id := br.from'.id + f * (br.upTo.id - br.from'.id), iq := br.from'.iq + f * (br.upTo.iq - br.from'.iq) }
  else br.upTo

/-- A set that was complete becomes visible at the boundary (R35, R256). -/
def State.takeRefs (s : State) (b : Nat) : State :=
  match (s.mach (s.machOf b)).pub with
  | some q => if q = (s.bridge b).upTo then s.updBr b fun x => { x with k := x.k + 1 }
    else
      let cur := s.refsNow b
      s.updBr b fun x => { x with from' := cur, upTo := q, k := 0 }
  | none => s

/-- New duties take effect (R249): the pulses of the period, with their limits and the plan of its shunt samples. -/
def State.newDuties (s : State) (b : Nat) : State :=
  let br := s.bridge b
  let d := br.shadow.getD br.duties
  let d := match br.brake with | some true => [1, 1, 1] | some false => [0, 0, 0] | none => d
  let double := s.get O.UPDATE_MODE == 1
  let ps := d.mapIdx fun x v => s.legPulse b x br.peak v
  let fresh := ps.mapIdx fun x p => refreshAfter s.period (br.refresh.getD x 0) p
  let (plan, ps) := s.planShunt b br.pulses ps
  let s := s.updBr b fun x =>
    { x with duties := d, shadow := none, last := x.pulses, pulses := ps, peak := double && !x.peak, late := false, newPeriod := false, refresh := fresh }
  { s with sense := { s.sense with plan := s.sense.plan.set b plan } }

/-- Samples of the last period are no longer present (R36). -/
def State.clearSamples (s : State) (b : Nat) : State :=
  { s with sense := { s.sense with smp := s.sense.smp.mapIdx fun k l => if k / 3 = b ∨ s.cfg ≠ 1 then [] else l,
                                   iline := s.sense.iline.mapIdx fun i x => if i / 3 = b then { x with fresh := false } else x } }

/-- The angle latched for the bridge (R203, R246); B1 of one dual three-phase machine lags by WINDING_SHIFT. -/
def State.bridgeAngle (s : State) (b : Nat) (fresh : Bool) : State :=
  let ch := s.machOf b
  let shift : Int := if b = 1 ∧ s.get O.ARRANGEMENT = 1 then s.get O.WINDING_SHIFT * 65536 / 3600 else 0
  s.updBr b fun x =>
    { x with theta := ((s.get O.THETA_E ch - shift) % 65536).toNat, speed := s.get O.SPEED ch,
             valid := bit (s.get O.POS_STATUS ch) 0, late := !fresh }

/-! ### Currents -/

/-- Sample of the low-side island of phase x of a bridge at an instant. -/
def State.shuntAt (s : State) (b x inst : Nat) : Option IslSample :=
  (s.sense.smp.getD (3 * b + x) []).find? fun q => q.inst == inst

/-- Shunt-reconstructed currents in A, the method, and the phases measured directly (Tables 5.4, 5.5, R164, R166, R168). -/
def State.reconstruct (s : State) (b : Nat) : Option (List Rat) × Nat × List Nat :=
  let plan := s.sense.plan.getD b State.resetPlan
  let legs := plan.legs.filterMap fun x =>
    match s.shuntAt b x 0 with
    | some q => if q.lowOn && q.shOk then some (x, -q.ma / 1000) else none
    | none => none
  let sums := (plan.sums.mapIdx fun k p => (k, p)).filterMap fun kp =>
    let qs := (List.range 3).filterMap fun x => (s.shuntAt b x (kp.1 + 1)).filter fun q => q.shOk
    if qs.length = 3 then
      let v := sumQ (qs.map fun q => q.ma) / 1000
      some (kp.2.phase, if kp.2.neg then -v else v)
    else none
  let full := fun (l : List (Nat × Rat)) =>
    let total := sumQ (l.map fun e => e.2)
    (List.range 3).map fun x => match l.lookup x with | some v => v | none => -total
  match legs with
  | [a, c, d] =>
    if (s.get O.SUM_TOL : Rat) < absQ (a.2 + c.2 + d.2) then (none, 0, []) else (some (full [a, c, d]), 1, [0, 1, 2])
  | [a, c] => (some (full [a, c]), 2, [a.1, c.1])
  | [a] => match sums.find? fun e => e.1 != a.1 with
    | some e => (some (full [a, e]), 3, [a.1, e.1])
    | none => (none, 0, [])
  | _ => match sums with
    | [e, f] => if e.1 = f.1 then (none, 0, []) else (some (full [e, f]), 4, [e.1, f.1])
    | _ => (none, 0, [])

/-- Method-1 currents sum to more than SUM_TOL (R168). -/
def State.sumOver (s : State) (b : Nat) : Bool :=
  let plan := s.sense.plan.getD b State.resetPlan
  let l := plan.legs.filterMap fun x => (s.shuntAt b x 0).filter fun q => q.lowOn && q.shOk
  l.length == 3 && decide ((s.get O.SUM_TOL : Rat) * 1000 < absQ (sumQ (l.map fun q => q.ma)))

/-- The runs of R168 after a period. -/
def State.shuntRuns (s : State) (b method : Nat) : State :=
  let tooMuch := s.sumOver b
  let r := s.sense.runs.getD b State.resetRun
  let r' : ShuntRun := ⟨if method = 0 then r.zero + 1 else 0, if tooMuch then r.tooMuch + 1 else 0,
    if tooMuch then 0 else if method = 1 then r.good + 1 else r.good⟩
  let s := { s with sense := { s.sense with runs := s.sense.runs.set b r' } }
  let s := s.set O.SHUNT_METHOD method b
  let s := if method = 0 then s.bump O.SHUNT_WINDOW_COUNT else s.unnote .snsShuntWindow b
  let s := if 8 ≤ r'.zero then s.note .snsShuntWindow b else s
  if 8 ≤ r'.tooMuch then s.note .snsShuntSum b else if 100 ≤ r'.good then s.unnote .snsShuntSum b else s

/-- Late inputs of a period (R36, R160): two in succession report SNS_LATE. -/
def State.lateInputs (s : State) (b : Nat) : State :=
  let fitted := (List.range 3).filter fun x => s.get O.ILINE_AIN (3 * b + x) != 255
  let isl := ((List.range 3).map fun x => 3 * b + x).filter fun k => s.funcDecl (Fin.ofNat 12 (2 * k + 1)) 0
  let lateL := fitted.filter fun x => !(s.sense.iline.getD (3 * b + x) State.resetIline).fresh
  let lateI := isl.filter fun k => (s.sense.smp.getD k []).isEmpty
  let some' := !lateL.isEmpty || !lateI.isEmpty
  let s := { s with sense := { s.sense with
    iline := s.sense.iline.mapIdx fun i x => if i / 3 = b then { x with late := if lateL.contains (i % 3) then x.late + 1 else 0 } else x,
    lateRun := s.sense.lateRun.mapIdx fun k n => if k / 3 = b then (if lateI.contains k then n + 1 else 0) else n,
    onTime := if some' then 0 else s.sense.onTime + 1 } }
  let s := if some' then (s.bump O.LATE_COUNT b).updBr b fun x => { x with late := true } else s
  let s := (List.range 6).foldl (fun (s : State) i =>
    if i / 3 = b ∧ 2 ≤ (s.sense.iline.getD i State.resetIline).late then s.note .snsLate i
    else if i / 3 = b ∧ 2 ≤ s.sense.lateRun.getD i 0 then s.note .snsLate (0x100 + 2 * i + 1) else s) s
  if 100 ≤ s.sense.onTime then
    ((s.coll.conds.filter fun c => c.1 == .snsLate).foldl (fun (s : State) c => s.unnote c.1 c.2) s)
  else s

/-- Loss of in-line sensors by their results or against the shunt value (R163). -/
def State.ilineChecks (s : State) (b : Nat) (shunt : Option (List Rat)) (direct : List Nat) : State :=
  (List.range 3).foldl (fun (s : State) x =>
    let i := 3 * b + x
    if s.get O.ILINE_AIN i = 255 then s
    else
      let q := s.sense.iline.getD i State.resetIline
      let run := match shunt with
        | some l => if direct.contains x then
            (if (s.get O.ILINE_TOL : Rat) < absQ (mkRat (s.get O.I_LINE i) 1000 - l.getD x 0) then q.diff + 1 else 0) else q.diff
        | none => q.diff
      let s := { s with sense := { s.sense with iline := s.sense.iline.modify i fun q => { q with diff := run } } }
      if 4 ≤ q.ovr ∨ 4 ≤ q.unset ∨ 8 ≤ run then s.ilineLoss i else s) s

/-- Phases of a bridge whose current comes from the shunts. -/
def State.shuntPhases (s : State) (b : Nat) : List Nat :=
  let fitted := (List.range 3).filter fun x => s.get O.ILINE_AIN (3 * b + x) != 255
  let lost := fitted.filter fun x => (s.sense.iline.getD (3 * b + x) State.resetIline).lost
  if fitted.length < 2 then (List.range 3).filter fun x => !fitted.contains x || lost.contains x else lost

/-- Phase currents that the FLE uses (R161, R163, R168, R254), and their sources brought up to date. -/
def State.currents (s : State) (b : Nat) : State :=
  let (sh, method, direct) := s.reconstruct b
  let s := (s.lateInputs b).shuntRuns b method
  let s := match sh with
    | some l => (List.range 3).foldl (fun (s : State) x => s.setQ O.I_SHUNT (1000 * l.getD x 0) (3 * b + x)) s
    | none => s
  let s := s.ilineChecks b sh direct
  let viaShunt := s.shuntPhases b
  let known := (List.range 3).filterMap fun x =>
    if viaShunt.contains x then some (x, mkRat (s.get O.I_SHUNT (3 * b + x)) 1000)
    else if s.get O.ILINE_AIN (3 * b + x) ≠ 255 then some (x, mkRat (s.get O.I_LINE (3 * b + x)) 1000) else none
  let total := sumQ (known.map fun e => e.2)
  let i := (List.range 3).map fun x => match known.lookup x with | some v => v | none => -total
  { s with fl := { s.fl with iPhase := s.fl.iPhase.mapIdx fun k v => if k / 3 = b then i.getD (k % 3) v else v } }

/-! ### V_DC -/

/-- V_DC of a bridge for the period (R258). -/
def State.vdcUpdate (s : State) (b : Nat) : State :=
  let ins := vdcInputs s.cfg b
  let ok := ins.filterMap fun k => ((s.sense.smp.getD k []).find? fun q => q.inst == 0 && q.vdcOk).map fun q => q.volts
  let old := s.fl.vdc.getD b 0
  let v := if ok.isEmpty then old else divQ (sumQ ok) ok.length
  let bad := if ok.isEmpty then (s.bridge b).vdcBad + 1 else 0
  let both := ok.length == ins.length
  let frm := if both then (match (s.bridge b).vdcFrom with | some t => some t | none => some s.now) else none
  let s := s.updBr b fun x => { x with vdcBad := bad, vdcFrom := frm }
  let s := { s with fl := { s.fl with vdc := s.fl.vdc.set b v } }
  let s := s.setQ O.VDC_USED v b
  if 2 ≤ bad then s.post .vdcLost b
  else match frm with
    | some t => if t + 10000 ≤ s.now then s.leave .vdcLost b else s
    | none => s

/-- The moving average of V_DC over 1 ms moves on at a boundary (R258). -/
def State.vdcHistory (s : State) (b : Nat) : State :=
  s.updBr b fun x => { x with vdcHist := (s.now, s.fl.vdc.getD b 0) :: x.vdcHist.filter fun e => decide (s.now ≤ e.1 + 1000) }

/-- V_DC filtered over 1 ms. -/
def State.vdcFilt (s : State) (b : Nat) : Rat :=
  let h := (s.bridge b).vdcHist
  if h.isEmpty then s.fl.vdc.getD b 0 else meanQ (h.map fun e => e.2)

/-! ### Current control and modulation -/

/-- Radians of an angle in units. -/
def radOf (t : Int) : Rat := 2 * Config.pi * mkRat t 65536

/-- Amplitude-invariant Clarke transform (R254). -/
def clarke (u v w : Rat) : Rat × Rat := ((2 * u - v - w) / 3, divQ (v - w) (Config.sqrt 3))

def park (ab : Rat × Rat) (th : Rat) : Rat × Rat :=
  (ab.1 * Config.cos th + ab.2 * Config.sin th, -ab.1 * Config.sin th + ab.2 * Config.cos th)

def invPark (dq : Rat × Rat) (th : Rat) : Rat × Rat :=
  (dq.1 * Config.cos th - dq.2 * Config.sin th, dq.1 * Config.sin th + dq.2 * Config.cos th)

/-- Leg voltages of a vector. -/
def legsOf (v : Rat × Rat) : List Rat :=
  [v.1, -v.1 / 2 + Config.sqrt 3 / 2 * v.2, -v.1 / 2 - Config.sqrt 3 / 2 * v.2]

/-- Modulation limit in force (R263). -/
def State.mLim (s : State) (b : Nat) : Rat :=
  let m := mkRat (s.get O.M_MAX) 1000
  let m := if s.getB O.OVM_EN then m else minQ m (9069 / 10000)
  let m := if s.getB O.SIX_STEP_EN then m else minQ m (9999 / 10000)
  if (s.shuntPhases b).isEmpty && !s.charger then m else minQ m (9069 / 10000)

/-- Duties of leg voltages about a common offset. -/
def dutiesOf (vdc v0 : Rat) (l : List Rat) : List Rat := l.map fun v => clampQ 0 1 (1 / 2 + divQ (v + v0) vdc)

/-- Zero-sequence voltage of min-max injection, and of the clamp of the largest leg (R262). -/
def svpwmZero (l : List Rat) : Rat := -(l.foldl maxQ (l.headD 0) + l.foldl minQ (l.headD 0)) / 2
def dpwmZero (vdc : Rat) (l : List Rat) : Rat :=
  let big := l.foldl (fun a v => if absQ a < absQ v then v else a) 0
  (if 0 ≤ big then vdc / 2 else -vdc / 2) - big

/-- The modulator (R262, Table 7.3): duties, MOD_STATE and DPWM of MOD_MODE 1. -/
def State.modulate (s : State) (b : Nat) (v : Rat × Rat) (m vdc : Rat) : List Rat × Nat × Bool :=
  let on := mkRat (s.get O.DPWM_ON) 1000
  let was := (s.bridge b).dpwm
  let dpwm := if was then decide (on - mkRat (s.get O.DPWM_HYS) 1000 ≤ m) else decide (on < m)
  let mode := s.get O.MOD_MODE
  if 1 ≤ m then ((legsOf v).map fun x => if 0 < x then 1 else 0, 4, dpwm)
  else if 9517 / 10000 ≤ m then
    let l := legsOf (Config.overmodII v.1 v.2 vdc)
    (dutiesOf vdc (svpwmZero l) l, 3, dpwm)
  else if 9069 / 10000 < m then
    let l := legsOf (Config.overmodI v.1 v.2 vdc)
    (dutiesOf vdc (svpwmZero l) l, 2, dpwm)
  else
    let l := legsOf v
    if mode = 2 ∨ (mode = 1 ∧ dpwm = true) then (dutiesOf vdc (dpwmZero vdc l) l, 1, dpwm)
    else (dutiesOf vdc (svpwmZero l) l, 0, dpwm)

/-- Error Δd of leg x from the measured edge times of the last period, with the dead time before each ON (R117), or fixed (R260, R261). -/
def State.dutyError (s : State) (b x : Nat) : Rat :=
  let i := s.fl.iPhase.getD (3 * b + x) 0
  let t := s.period
  let hi := 2 * x + 6 * b
  let e := fun (o : Obj) (n : Nat) => mkRat (s.get o n) 10000
  let missed := [hi, hi + 1].any fun n => decide (5 ≤ (s.isl.getD n State.resetIsland).telemMissed)
  let mode := s.get O.VEC_MODE b
  if mode = 0 then 0
  else if mode = 2 ∨ missed = true then
    let f := divQ (mkRat (s.get O.VEC_T_FIXED b) 10000) t
    if 0 < i then -f else if i < 0 then f else 0
  else
    let dt := mkRat (s.get (if b = 1 then O.DT_MIN_2 else O.DT_MIN_1)) 10000
    let pos := e O.EDGE_OFF_MEAS hi - e O.EDGE_ON_MEAS hi - dt
    let neg := e O.EDGE_ON_MEAS (hi + 1) + dt - e O.EDGE_OFF_MEAS (hi + 1)
    let thr := s.getQ O.VEC_I_THR b
    divQ (if thr ≤ i then pos else if i ≤ -thr then neg else (pos + neg) / 2) t

/-- TELEM frames that have not arrived by t_S are counted (R253, R261). -/
def State.telemLate (s : State) (b : Nat) : State :=
  let isl := (List.range 6).map fun k => k + 6 * b
  let late := isl.filter fun n => decide (1 ≤ (s.isl.getD n State.resetIsland).telemMissed)
  let s := { s with isl := s.isl.mapIdx fun n (i : Island) => if isl.contains n then { i with telemMissed := i.telemMissed + 1 } else i }
  let s := late.foldl (fun (s : State) _ => s.bump O.LATE_COUNT b) s
  if s.get O.VEC_MODE b = 1 then
    isl.foldl (fun (s : State) n => if 5 ≤ (s.isl.getD n State.resetIsland).telemMissed then s.note .vecDegraded n else s) s
  else s

/-- References that ASC braking imposes on the way to the short-circuit point (R278). -/
def State.brakeRefs (s : State) (m : Nat) (r : RefSet) : RefSet :=
  match (s.mach m).brake with
  | .entry since id iq isc =>
    let f := clampQ 0 1 (divQ ((s.now - since : Nat) : Rat) (1000 * s.get O.ASC_ENTRY_T))
    { r with id := id + f * (isc - id), iq := iq - f * iq }
  | _ => r

/-- References of the windings path (R370). -/
def State.dischRefs (s : State) (r : RefSet) : RefSet :=
  if s.sys.dev = .discharge then { r with id := -s.getQ O.DISCH_I, iq := 0 } else r

/-- CHARGER on a single-phase grid: the currents need a second component. -/
def State.singlePhase (s : State) : Bool := s.charger && s.get O.GRID_MODE == 2

/-- Measured currents of a bridge in the frame of its angle (R254). -/
def State.measDq (s : State) (b : Nat) : Rat × Rat :=
  let i := fun (x : Nat) => s.fl.iPhase.getD (3 * b + x) 0
  let line := i 0 + (if s.getB O.SP_PARALLEL then i 2 else 0)
  park (if s.singlePhase then (line, Config.betaOf line s.freeIx) else clarke (i 0) (i 1) (i 2))
    (radOf (if s.charger then s.chg.theta else (s.bridge b).theta))

/-- The bridge is not switching under current control (R259): no voltage is applied, and the currents are measured as before. -/
def State.fleIdle (s : State) (b : Nat) : State :=
  let dq := s.measDq b
  let s := if s.singlePhase then s.draw else s
  let s := s.updBr b fun x => { x with xd := 0, xq := 0, z := 0, next := none, busy := true, id := dq.1, iq := dq.2, v := (0, 0) }
  let s := (s.setQ O.I_D dq.1 b).setQ O.I_Q dq.2 b
  let s := ((s.setQ O.V_D 0 b).setQ O.V_Q 0 b).setQ O.M_DEM 0 b
  (s.set O.MOD_STATE 5 b).set O.FLE_STATE 3 b

/-- One computation of a bridge (R254..R263). -/
def State.fleCompute (s : State) (b : Nat) : State :=
  let br := s.bridge b
  let m := s.machOf b
  let oew := s.cfg == 1 && s.get O.ARRANGEMENT == 2
  let t := s.period / 1000000
  let th := radOf (if s.charger then s.chg.theta else br.theta)
  let single := s.singlePhase
  let par := s.getB O.SP_PARALLEL
  let i := fun (x : Nat) => s.fl.iPhase.getD (3 * b + x) 0
  let (id, iq) := s.measDq b
  let w := if s.charger then 2 * Config.pi * mkRat (s.get O.GRID_FREQ) 1000 else 2 * Config.pi * mkRat (br.speed * s.get O.POLE_PAIRS m) 600
  let r := s.dischRefs (s.brakeRefs m (s.refsNow b))
  let wc := 2 * Config.pi * s.get O.CC_BW b
  let ed := r.id - id
  let eq := r.iq - iq
  let dec := s.getB O.DECOUPLE_EN b
  let vd := wc * (r.ldd * ed + r.ldq * eq) / 1000000 + br.xd - (if dec then w * r.psiq else 0) + (if s.charger then s.chg.vd else 0)
  let vq := wc * (r.ldq * ed + r.lqq * eq) / 1000000 + br.xq + (if dec then w * r.psid else 0) + (if s.charger then s.chg.vq else 0)
  let vdc := (if oew then 2 else 1) * s.fl.vdc.getD b 0
  let unit := divQ (2 * vdc) Config.pi
  let mag := Config.sqrt (vd * vd + vq * vq)
  let mLim := s.mLim b
  let lim := decide (mLim * unit < mag)
  let k := if lim then divQ (mLim * unit) mag else 1
  let vd' := k * vd
  let vq' := k * vq
  let six := decide (1 ≤ mLim) && lim
  let same := fun (a c : Rat) => decide (0 < a * c)
  let holdD := (lim && same br.xd vd') || six
  let holdQ := lim && same br.xq vq'
  let rs := s.getQ O.R_S b
  let xd := if holdD then br.xd else br.xd + wc * rs * ed * t
  let xq := if holdQ then br.xq else br.xq + wc * rs * eq * t
  let thOut := th + (if s.getB O.DELAY_COMP b then 3 / 2 * w * t else 0)
  let ab := invPark (vd', vq') thOut
  let ab := if oew && b = 1 then (-(s.bridge 0).v.1, -(s.bridge 0).v.2) else if oew then (ab.1 / 2, ab.2 / 2) else ab
  let g := mkRat (s.get O.VEC_GAIN b) 1000
  let corr := clarke (-g * s.dutyError b 0 * s.fl.vdc.getD b 0) (-g * s.dutyError b 1 * s.fl.vdc.getD b 0) (-g * s.dutyError b 2 * s.fl.vdc.getD b 0)
  let v := (ab.1 + corr.1, ab.2 + corr.2)
  let i0 := (i 0 + i 1 + i 2) / 3
  let z := if oew && b = 1 then br.z + i0 * t else 0
  let v0 := if oew && b = 1 then Config.zeroSeq (s.get O.CC_BW 1) i0 z else 0
  let (d, st, dp) := s.modulate b v (minQ (divQ mag unit) mLim) (s.fl.vdc.getD b 0)
  let d := if single then dutiesOf (s.fl.vdc.getD b 0) 0 [v.1 / 2, -v.1 / 2, if par then v.1 / 2 else -(s.fl.vdc.getD b 0) / 2]
    else d.map fun x => clampQ 0 1 (x + divQ v0 (s.fl.vdc.getD b 0))
  let s := if single then s.draw else s
  let s := s.updBr b fun x =>
    { x with next := some d, busy := true, xd := xd, xq := xq, id := id, iq := iq, dpwm := dp, v := ab, z := z }
  let s := ((s.setQ O.I_D id b).setQ O.I_Q iq b)
  let s := (s.setQ O.V_D vd' b).setQ O.V_Q vq' b
  let s := (s.setQ O.M_DEM (1000 * divQ mag unit) b).set O.MOD_STATE st b
  s.set O.FLE_STATE s.fl.fle b

/-- FLE_START at t_S in the traction configurations (R36, R249, R253..R263). -/
def State.fleStart (s : State) (b : Nat) : State :=
  let s := ((s.vdcUpdate b).currents b).telemLate b
  if s.driving b && (s.bridge b).brake.isNone then s.fleCompute b else s.fleIdle b

/-! ### End of a computation, loading -/

/-- FLE_MISMATCH under the class its case calls for (R20, Table 9.3). -/
def State.fleFault (s : State) (c4 : Bool) (detail : Nat) : State :=
  let again := match s.coll.mismatchLeft with | some t => decide (s.now < t + 1000000) | none => false
  s.raise (if c4 || again then 4 else 3) .fleMismatch detail

/-- The computed duties are loaded into the shadow registers (R250), and the sampling of the next period is sent in CMD frames (R169). -/
def State.loadDuties (s : State) (b : Nat) : State :=
  let s := s.updBr b fun x => { x with shadow := x.next, next := none, busy := false }
  (lowIslands.filter fun n => decide (s.cfg ≠ 1) || n.val / 6 == b).foldl (fun (s : State) n => s.updIsl n (Island.pushDown 0x1#4)) s

/-- Equal results, or an error-free computation in single-FLE running: after 100 while the islands hold the safe state, FLE_MISMATCH leaves (Table 9.3). -/
def State.fleGood (s : State) (b : Nat) : State :=
  let n := (s.bridge b).equal + 1
  let s := s.updBr b fun x => { x with equal := n, differ := 0 }
  if 100 ≤ n ∧ s.safeAct ≠ 0xFF then
    (s.coll.conds.filter fun c => c.1 == .fleMismatch).foldl (fun (s : State) c => s.leave c.1 c.2) s
  else s

/-- FLE_COMPUTE_DONE (R19, R20, R250). -/
def fleComputeDone (b : Fin 2) (errA errB differ : Bool) (s : State) : State :=
  if !(s.bridge b.val).busy then s
  else if s.fl.fle = 0 then
    if errA && errB then ((s.updBr b.val fun x => { x with busy := false, next := none, equal := 0 }).fleFault true 2)
    else if errA || errB then
      let inst := if errA then 0 else 1
      let s := { s with fl := { s.fl with fle := if errA then 2 else 1 } }
      (s.degrade 1 .fleSingle inst).loadDuties b.val
    else if differ then
      let n := (s.bridge b.val).differ + 1
      let s := s.updBr b.val fun x => { x with shadow := some x.duties, next := none, busy := false, differ := n, equal := 0 }
      if 2 ≤ n then s.fleFault false 0 else s
    else (s.fleGood b.val).loadDuties b.val
  else
    let err := if s.fl.fle = 1 then errA else errB
    let other := 2 - s.fl.fle
    if err && (s.testing == some 4 || s.testing == some 5) then
      let s := (s.updBr b.val fun x => { x with busy := false, next := none }).fleReturns
      { s with fl := { s.fl with fle := other + 1 } }.degrade 1 .fleSingle (1 - other)
    else if err then (s.updBr b.val fun x => { x with busy := false, next := none, equal := 0 }).fleFault true (s.fl.fle - 1)
    else (s.fleGood b.val).loadDuties b.val

/-- DUTY_LOAD_DEADLINE (R252): duties not loaded are replaced by those of the previous period. -/
def dutyDeadline (b : Fin 2) (s : State) : State :=
  let br := s.bridge b.val
  if br.busy && br.shadow.isNone && (s.driving b.val || s.charger) then
    let n := br.overrun + 1
    let s := (s.updBr b.val fun x => { x with overrun := n, inTime := 0, busy := false, next := none, late := true }).bump O.OVERRUN_COUNT b.val
    if 2 ≤ n then s.post .fleOverrun b.val else s
  else
    let s := s.updBr b.val fun x => { x with overrun := 0, inTime := x.inTime + 1 }
    if 100 ≤ br.inTime + 1 then s.leave .fleOverrun b.val else s

/-! ### COMMIT -/

/-- Checks of the field-loop COMMIT (R227, R243, R246, R247, R255). -/
def fieldCheck (s : State) : Option Nat :=
  let g := fun (o : Obj) (p : Nat) => s.planned o p
  let f := g O.CARRIER_FREQ 0
  let rate := controlRate f (g O.UPDATE_MODE 0)
  let per := carrierPeriod f / (1 + g O.UPDATE_MODE 0)
  let pts := (List.range 15).any fun p => g O.PT_INSTANT p != 0xFFFFFFFF && decide (per ≤ g O.PT_INSTANT p)
  let bw := [0, 1].any fun b => decide (rate < 10000 * g O.CC_BW b)
  let oew := g O.ARRANGEMENT 0 == 2 && (List.range 3).any fun p => s.get O.ILINE_AIN p == 255
  if decide (rate < 2000000) || decide (100000000 < rate) || pts || bw || oew || !injOk rate (s.get O.INJ_FREQ) then some abortValue else none

/-- What new field-loop values change at once. -/
def fieldHook (old s : State) : State :=
  let s := s.syncField
  if old.get O.CARRIER_PERIOD = s.get O.CARRIER_PERIOD ∧ old.get O.UPDATE_MODE = s.get O.UPDATE_MODE then s
  else { s with fl := { s.fl with br := s.fl.br.map fun (b : Bridge) => { b with newPeriod := true, peak := false } } }

/-! ### The commands -/

def execFleComputeDone (b : Fin 2) (errA errB differ : Bool) (s : State) : Host.Outcome State Fault Refusal := .next (fleComputeDone b errA errB differ s)
def execDutyLoadDeadline (b : Fin 2) (s : State) : Host.Outcome State Fault Refusal := .next (dutyDeadline b s)

end Sys2Proof.Machine
end

