-- ==== Sys2Proof/Machine/Maps.lean ====
section
/-! DEFINITION. The map store, interpolation and the correction layer (R283..R300). -/

namespace Sys2Proof.Machine

/-! ### Interpolation -/

/-- An operating point: torque Nm, speed rpm, V_DC V, temperature °C (none: unavailable), currents A. -/
structure OpPoint where
  torque : Rat
  speed : Rat
  vdc : Rat
  temp : Option Rat
  id : Rat
  iq : Rat

/-- Input of an axis quantity (Table 7.8); an unavailable temperature is the highest breakpoint (R294). -/
def OpPoint.input (p : OpPoint) (q : Nat) (bps : List Rat) : Rat :=
  if q = 1 then p.torque
  else if q = 2 then p.speed
  else if q = 3 then p.vdc
  else if q = 4 then p.temp.getD (bps.getLastD 0)
  else if q = 5 then p.id
  else p.iq

/-- Place of a value on an axis: lower breakpoint, fraction towards the next, and whether the value lies outside (R293). -/
def axisAt (bps : List Rat) (x : Rat) : Nat × Rat × Bool :=
  let y := clampQ (bps.headD 0) (bps.getLastD 0) x
  let j := min (bps.length - 2) ((bps.takeWhile fun b => decide (b ≤ y)).length - 1)
  let a := bps.getD j 0
  (j, divQ (y - a) (bps.getD (j + 1) 0 - a), decide (y ≠ x))

def weigh (cells : Nat → Rat) (cs : List (Nat × Rat)) : Rat := sumQ (cs.map fun c => c.2 * cells c.1)

end Sys2Proof.Machine

namespace Sys2Proof

open Sys2Proof.Machine

/-- Surrounding cells of a point with their weights, last axis fastest (R285, R293). -/
def MapDesc.corners (d : MapDesc) (p : OpPoint) : List (Nat × Rat) :=
  (d.axisQ.zip d.axes).foldl (fun cs qa =>
    let (j, f, _) := axisAt qa.2 (p.input qa.1 qa.2)
    let n := qa.2.length
    if d.nearest then cs.map fun c => (c.1 * n + (if f ≤ 1 / 2 then j else j + 1), c.2)
    else cs.flatMap fun c => [(c.1 * n + j, c.2 * (1 - f)), (c.1 * n + j + 1, c.2 * f)]) [(0, (1 : Rat))]

/-- Bits of EXTRAP_AXES whose axis the point leaves. -/
def MapDesc.outside (d : MapDesc) (p : OpPoint) : List Nat :=
  (d.axisQ.zip d.axes).filterMap fun qa => if (axisAt qa.2 (p.input qa.1 qa.2)).2.2 then some (qa.1 - 1) else none

/-- Value of a map at a point, and the axes left. -/
def MapDesc.at' (d : MapDesc) (p : OpPoint) : Rat × List Nat := (weigh (fun i => d.cells.getD i 0) (d.corners p), d.outside p)

def MapSet.find (ms : MapSet) (role m : Nat) : Option MapDesc := ms.maps.find? fun d => d.role == role && d.machine == m

/-- Value of a role; 0 with no axes where the set has no such map. -/
def MapSet.look (ms : MapSet) (role m : Nat) (p : OpPoint) : Rat × List Nat :=
  match ms.find role m with
  | some d => d.at' p
  | none => (0, [])

/-- The point at which the operating-point maps are looked up, and whether i_q and LDQ change sign (R287). -/
def MapSet.mirror (ms : MapSet) (p : OpPoint) : OpPoint × Bool :=
  let flip := ms.mirrorSpeed && decide (p.speed < 0)
  let p := if flip then { p with torque := -p.torque, speed := -p.speed } else p
  let flop := ms.mirrorTorque && decide (p.torque < 0)
  (if flop then { p with torque := -p.torque } else p, flip != flop)

/-- T_MAX and T_MIN at a point (R287). -/
def MapSet.torqueRange (ms : MapSet) (m : Nat) (p : OpPoint) : Rat × Rat × List Nat :=
  if ms.mirrorSpeed ∧ p.speed < 0 then
    let q := { p with speed := -p.speed }
    let a := ms.look 9 m q
    let b := ms.look 8 m q
    (-a.1, -b.1, a.2 ++ b.2)
  else
    let a := ms.look 8 m p
    let b := ms.look 9 m p
    (a.1, b.1, a.2 ++ b.2)

/-- First cell of the correction grid of each flux map that fits, by role and machine, in descriptor order (R296). -/
def MapSet.grids (ms : MapSet) : List ((Nat × Nat) × Nat) :=
  (ms.maps.foldl (fun (acc : List ((Nat × Nat) × Nat) × Nat) d =>
    if (d.role = 6 ∨ d.role = 7) ∧ acc.2 + d.cells.length ≤ 1048576
    then (acc.1 ++ [((d.role, d.machine), acc.2)], acc.2 + d.cells.length) else acc) ([], 0)).1

end Sys2Proof

namespace Sys2Proof.Machine

/-- The active set (R283). -/
def State.mapSet (s : State) : Option MapSet := s.nv.activeBank.bind fun b => (s.nv.banks.getD b ⟨0, none, 0, []⟩).set

/-! ### Correction layer -/

def cellOf (corr : List (Nat × Int)) (i : Nat) : Int := (corr.lookup i).getD 0

/-- Flux of a map with its correction, Vs (R294, R296). -/
def State.flux (s : State) (role m : Nat) (p : OpPoint) : Rat × List Nat :=
  match s.mapSet with
  | none => (0, [])
  | some ms => match ms.find role m with
    | none => (0, [])
    | some d =>
      let v := d.at' p
      match ms.grids.lookup (role, m) with
      | none => v
      | some base => (v.1 + weigh (fun i => cellOf s.fl.corr (base + i)) (d.corners p) * mkRat (s.get O.CORR_LSB) 1000000, v.2)

/-- Cells with a value, cell numbers rising; a cell at 0 has no entry. -/
def putCell (l : List (Nat × Int)) (i : Nat) (v : Int) : List (Nat × Int) :=
  let l := l.filter fun e => e.1 != i
  if v = 0 then l else (l.takeWhile fun e => decide (e.1 < i)) ++ (i, v) :: l.dropWhile fun e => decide (e.1 < i)

/-- Cells that stand at their clamp are frozen and counted (R297). -/
def State.showCorr (s : State) : State :=
  let frozen := (s.fl.corr.filter fun e => decide (127 ≤ absI e.2)).length
  s.set O.CORR_LIMITED frozen

/-- Temperature of TEMP_SRC in °C, none where unavailable (R294). -/
def State.tempC (s : State) : Option Rat :=
  let src := s.getN O.TEMP_SRC
  let v := if src = 0 then s.get O.MACHINE_TEMP
    else if src < 0x20 then s.get O.NTC1_TEMP (src - 0x10) else s.get O.NTC2_TEMP (src - 0x20)
  if v = -32768 then none else some (mkRat v 10)

/-- The layer may learn (R297). -/
def State.corrMay (s : State) (m : Nat) : Bool :=
  let c := s.chan m
  let q := s.mach m
  decide (1 ≤ s.obsWeight m (s.get O.SPEED m)) && c.fallback == .none && !c.obsLost &&
    decide (s.get O.OBS_RESIDUAL m ≤ s.get O.OBS_RES_LIM) && decide (q.steadyFrom + 10000 ≤ s.now) && q.pub.isSome

/-- The macro of a correction cell is usable (Table 11.11): cell i stands at byte i of the region (assumption 26). -/
def State.cellUsable (s : State) (i : Nat) : Bool := !bit (s.get O.MACRO_UNUSABLE) (40 + i / 262144)

/-- One learning update of one map with error e in Vs. -/
def State.learn (s : State) (role m : Nat) (p : OpPoint) (e : Rat) : State :=
  match s.mapSet.bind fun ms => (ms.find role m).bind fun d => (ms.grids.lookup (role, m)).map fun b => (d, b) with
  | none => s
  | some (d, base) =>
    let gain := mkRat (s.get O.CORR_GAIN) 1000
    (d.corners p).foldl (fun (s : State) c =>
      let i := base + c.1
      let old := cellOf s.fl.corr i
      if 127 ≤ absI old || s.mem.frozen.contains i || !s.cellUsable i then s
      else
        let v := clampI (-127) 127 (old + roundQ (divQ (gain * c.2 * e * 1000000) (s.get O.CORR_LSB)))
        let s := { s with fl := { s.fl with corr := putCell s.fl.corr i v } }
        if 127 ≤ absI v then s.note .mapCorrLimit else s) s

/-- CORR_STATE (R297). -/
def State.corrState (s : State) (learning : Bool) : State :=
  s.set O.CORR_STATE (if s.fl.saving.isSome then 3 else if !s.getB O.CORR_ENABLE then 0 else if learning then 1 else 2)

/-- CORR_LEARN (R297): every 1 ms. -/
def corrLearn (m : Fin 2) (eD eQ : Rat) (s : State) : State :=
  let may := s.getB O.CORR_ENABLE && s.corrMay m.val
  if !may then s.corrState false
  else
    let r := (s.mach m.val).pub.getD State.resetRefs
    let p : OpPoint := ⟨0, 0, 0, s.tempC, r.id, r.iq⟩
    (((s.learn 6 m.val p eD).learn 7 m.val p eQ).showCorr).corrState true

/-- The layer is loaded from the saved record of the active set, else cleared (R300). -/
def State.corrLoad (s : State) : State :=
  let hit := match s.nv.corr, s.mapSet with
    | some r, some ms => if r.setId = ms.setId.toNat then some (r.cells.filter fun (c : Nat × Int) => s.cellUsable c.1) else none
    | _, _ => none
  let s := { s with fl := { s.fl with corr := hit.getD [] } }
  (s.set O.MAP_STATUS (setBit (s.get O.MAP_STATUS) 2 hit.isSome)).showCorr

/-! ### Banks -/

/-- Axes that a role may have: required ones, then optional ones, in order (Table 7.9). -/
def roleAxes (role : Nat) : List Nat × List Nat :=
  if role ∈ [1, 2, 3, 4, 5, 10] then ([1], [2, 3, 4])
  else if role = 6 ∨ role = 7 then ([5, 6], [4])
  else if role = 8 ∨ role = 9 then ([2], [3, 4])
  else ([5, 6], [])

/-- A list that leaves out members of another, in order. -/
def subList : List Nat → List Nat → Bool
  | [], _ => true
  | _ :: _, [] => false
  | a :: l, b :: m => if a = b then subList l m else subList (a :: l) m

/-- Descriptor checks of R289: machine, axis quantities and order, breakpoints, CELL_COUNT. -/
def mapFormOk (d : MapDesc) (machines : Nat) : Bool :=
  let shape := (d.axisQ.length == d.axes.length) && decide (1 ≤ d.axes.length) && decide (d.axes.length ≤ 4) &&
    d.axes.all (fun a => decide (2 ≤ a.length) && decide (a.length ≤ 256)) &&
    d.cells.length == d.axes.foldl (fun n a => n * a.length) 1 && decide (d.machine < machines)
  let (req, opt) := roleAxes d.role
  let order := decide (0x80 ≤ d.role) ||
    ((d.axisQ.take req.length) == req && subList (d.axisQ.drop req.length) opt)
  let small := (d.role != 11 && d.role != 12) || d.axes.all fun a => decide (a.length ≤ 32)
  shape && order && small && (decide (1 ≤ d.role && d.role ≤ 12) || decide (0x80 ≤ d.role))

def rising : List Rat → Bool
  | a :: b :: l => decide (a < b) && rising (b :: l)
  | _ => true

/-- Roles that a set must hold for each machine (Table 7.9). -/
def requiredRoles : List Nat := [1, 2, 3, 4, 6, 7, 8, 9, 11, 12]

/-- VERIFY_RESULT of a set (R289): the first failing check. -/
def State.mapResult (s : State) (ms : MapSet) (c : MapChecks) : Nat :=
  let n := ms.machineType.length
  if !c.nvOk then 8
  else if !c.headerOk then 1
  else if !c.lengthsOk then 2
  else if !c.descriptorOk || !ms.maps.all (fun d => mapFormOk d n) then 3
  else if !ms.maps.all (fun d => d.axes.all rising) then 4
  else if !(List.range n).all (fun m => requiredRoles.all fun r => (ms.maps.filter fun d => d.role == r && d.machine == m).length == 1) then 5
  else if ms.setVersion < s.getN O.MIN_SET_VERSION then 6
  else if !(c.sigOk && s.otp.oemValid c.keyIndex) then 7
  else 0

def State.bank (s : State) (b : Nat) : Bank := s.nv.banks.getD b ⟨0, none, 0, []⟩
def State.putBank (s : State) (b : Nat) (x : Bank) : State := { s with nv := { s.nv with banks := s.nv.banks.set b x } }

/-- The staging bank (R283). -/
def State.staging (s : State) : Nat := match s.nv.activeBank with | some 0 => 1 | _ => 0

/-- Objects of the map store as the NV die has them (Table 7.15). -/
def State.syncMaps (s : State) : State :=
  let one := fun (s : State) (b : Nat) =>
    let x := s.bank b
    let id := match x.set with | some ms => ms.setId.toNat | none => 0
    let ver := match x.set with | some ms => ms.setVersion | none => 0
    (((s.set O.BANK_STATE (if s.nv.activeBank = some b then 5 else x.state) b).set O.SET_ID id b).set O.SET_VERSION ver b).set O.VERIFY_RESULT x.result b
  let s := one (one s 0) 1
  let s := s.set O.ACTIVE_BANK (match s.nv.activeBank with | some b => (b : Nat) | none => 255)
  let avail := fun (role m : Nat) => match s.mapSet with
    | none => false
    | some ms => match ms.grids.lookup (role, m), ms.find role m with
      | some base, some d => s.cellUsable base && s.cellUsable (base + d.cells.length - 1)
      | _, _ => false
  let s := s.set O.CORR_AVAIL (ofBits [avail 6 0, avail 7 0, avail 6 1, avail 7 1])
  let s := s.set O.CORR_SAVED_ID (match s.nv.corr with | some r => r.setId | none => 0)
  { s with fl := { s.fl with machineType := match s.mapSet with | some ms => [ms.machineType.getD 0 0, ms.machineType.getD 1 0] | none => [0, 0] } }

/-- MAP_VERIFY_DONE (R289): the staging bank becomes VALID or INVALID. -/
def mapVerified (b : Fin 2) (ms : MapSet) (c : MapChecks) (s : State) : State :=
  if s.staging ≠ b.val ∨ (s.bank b.val).state ≠ 2 then s
  else
    let r := s.mapResult ms c
    let s := (s.putBank b.val ⟨if r = 0 then 3 else 4, if r = 0 then some ms else none, r, (s.bank b.val).image⟩).syncMaps
    if r = 0 then s.leaveAll .mapVerifyFail else s.note .mapVerifyFail b.val

/-- Set fields agree with the configuration in force (R290). -/
def State.setFits (s : State) (ms : MapSet) : Bool :=
  ms.scope == s.cfg && (ms.arrangement : Int) == s.get O.ARRANGEMENT &&
  (List.range ms.polePairs.length).all fun m =>
    (ms.polePairs.getD m 0 : Int) == s.get O.POLE_PAIRS (if s.cfg = 1 ∧ s.get O.ARRANGEMENT = 0 then m else 0)

/-- The Helmet loads its safety maps from the active set, with ψ_PM at zero current (R290, R350, R363). -/
def State.loadSafety (s : State) : State :=
  let psi := fun (m : Nat) => match s.mapSet with
    | some ms =>
      let p : OpPoint := ⟨0, 0, 0, none, 0, 0⟩
      let d := (ms.look 11 m p).1
      let q := (ms.look 12 m p).1
      Config.sqrt (d * d + q * q)
    | none => 0
  { s with hlm := { s.hlm with mapsOk := s.mapSet.isSome, psiPM := [psi 0, psi 1] } }

/-- The swap after the durable write of ACTIVE_BANK (R290, steps 1 to 3; R291), with the Helmet's reload (R363). -/
def State.swapBanks (s : State) (b : Nat) : State :=
  let s := { s with nv := { s.nv with activeBank := some b } }
  let s := ((s.syncMaps.corrLoad).loadSafety).unnote .mapActiveInvalid
  { s.set O.MAP_STATUS (setBit (s.get O.MAP_STATUS) 1 true) with fl := { s.fl with verifying := false } }

/-- ACTIVATE once ACTIVE_BANK has had its durable writes (R412): the swap holds until the next start-up. -/
def State.spentBank (s : State) (id : ReqId) (b : Nat) : State := ((s.swapBanks b).note .enduranceSpent (O.ACTIVE_BANK.key 0)).done id

/-- ACTIVATE = 1 (R290): checks; ACTIVE_BANK is then written durably and the reply follows. -/
def activated (id : ReqId) (s : State) : State :=
  let b := s.staging
  let x := s.bank b
  if s.charger = true ∨ (s.sys.dev ≠ .standby ∧ s.sys.dev ≠ .ready) ∨ x.state ≠ 3 ∨ s.fl.saving.isSome then s.refuse id abortState
  else match x.set with
    | none => s.refuse id abortState
    | some ms =>
      if !s.setFits ms then s.refuse id abortValue
      else if s.spent (O.ACTIVE_BANK.key 0) then s.spentBank id b
      else s.persist id (O.ACTIVE_BANK.key 0) b

/-! ### Correction commands -/

/-- CORR_CMD 1 (R299). -/
def corrZero (id : ReqId) (s : State) : State :=
  (({ s with fl := { s.fl with corr := [] }, mem := { s.mem with frozen := [] } }.showCorr).leaveAll .mapCorrLimit).done id

/-- CORR_CMD 2: the snapshot is saved as one record of the persistent-object log; refused once a sleep command has been accepted. -/
def corrSave (id : ReqId) (s : State) : State :=
  if s.sup.entering.isSome then s.refuse id abortState
  else
    let s := { s with fl := { s.fl with saving := some ⟨match s.mapSet with | some ms => ms.setId.toNat | none => 0, s.fl.corr⟩ } }
    (s.set O.CORR_STATE 3).done id

/-- CORR_SAVE_DONE; a spent key keeps its record (R412). -/
def corrSaved (s : State) : State :=
  match s.fl.saving with
  | none => s
  | some r =>
    let s := { s with fl := { s.fl with saving := none } }
    let k := O.CORR_DATA.key 0
    ((if s.spent k then s.note .enduranceSpent k else { s with nv := { s.nv.commitRec k 0 with corr := some r } }).syncMaps).corrState false

/-- CORR_CMD 3. -/
def corrDrop (id : ReqId) (s : State) : State :=
  ({ s with nv := { s.nv with corr := none } }.syncMaps).done id

/-! ### The commands -/

def execActivate (r : Req) (s : State) : Host.Outcome State Fault Refusal := .next (s.writeReq r O.ACTIVATE 0 1 activated)
def execMapVerifyDone (bank : Fin 2) (mapSet : MapSet) (checks : MapChecks) (s : State) : Host.Outcome State Fault Refusal :=
  .next (mapVerified bank mapSet checks s)
def execCorrLearn (m : Fin 2) (ePsiD ePsiQ : Rat) (s : State) : Host.Outcome State Fault Refusal := .next (corrLearn m ePsiD ePsiQ s)
def execCorrReset (r : Req) (s : State) : Host.Outcome State Fault Refusal := .next (s.writeReq r O.CORR_CMD 0 1 corrZero)
def execCorrSave (r : Req) (s : State) : Host.Outcome State Fault Refusal := .next (s.writeReq r O.CORR_CMD 0 2 corrSave)
def execCorrDelete (r : Req) (s : State) : Host.Outcome State Fault Refusal := .next (s.writeReq r O.CORR_CMD 0 3 corrDrop)
def execCorrSaveDone (s : State) : Host.Outcome State Fault Refusal := .next (corrSaved s)

end Sys2Proof.Machine
end

