-- ==== Sys2Proof/Machine/Solver.lean ====
section
/-! DEFINITION. Torque limits, profile generator, ASC braking, command timeout, operating-point solver and trace commands (R265..R282, R294, R301..R306). -/

namespace Sys2Proof.Machine

/-! ### Host commands -/

/-- Value of an object that the next solver step will use: a received process value, else the value in force (R446). -/
def State.fresh (s : State) (o : Obj) (p : Nat := 0) : Int := (s.dict.procVals.find? (o.key p)).getD (s.get o p)

def State.freshQ (s : State) (o : Obj) (p : Nat := 0) : Rat :=
  match o.ty with
  | .f32 => f32Val (s.fresh o p).toNat
  | _ => s.fresh o p

/-- Process values received take effect (R446). -/
def State.takeProc (s : State) : State := { s.setKeys s.dict.procVals with dict := { s.dict with procVals := [] } }

/-- The manager's own part of a command or torque limit of machine 0 in share mode (R489); 1 otherwise. -/
def State.ownShare (s : State) (m : Nat) : Rat :=
  if s.get O.SPAN_ROLE = 1 ∧ s.get O.DIST_MODE = 1 ∧ m = 0 then mkRat (s.get O.SHARE 0) 100 else 1

/-- Every node's torque command is 0 while a worker is lost or safe (R491). -/
def State.spanStops (s : State) : Bool :=
  s.get O.SPAN_ROLE == 1 && s.getB O.WORKER_SAFE_ACT && (s.coll.cond .spanNodeLost || s.coll.cond .spanNodeSafe)

/-- The torque command that the generator takes as its target (R274, R489, R491). -/
def State.ownTorque (s : State) (m : Nat) : Rat := if s.spanStops then 0 else s.getQ O.TORQUE_CMD m * s.ownShare m

/-- The Helmet's copies of the host's commands and limits of a machine (R356, R357). -/
def State.hlmSee (s : State) (m : Nat) (cmd : Bool) : State :=
  let pos := s.freshQ O.TQ_LIM_POS m
  let neg := s.freshQ O.TQ_LIM_NEG m
  let see := fun (h : HlmMachine) =>
    { h with cmds := (s.now, clampQ neg pos (s.freshQ O.TORQUE_CMD m)) :: h.cmds, lims := (s.now, pos, neg) :: h.lims,
             lastCmd := if cmd then some s.now else h.lastCmd, speedMode := s.fresh O.CMD_MODE m == 1,
             brakeSeen := s.fresh O.ASC_BRAKE_CMD m == 1 }
  { s with hlm := { s.hlm with machines := s.hlm.machines.modify m see } }

/-- An accepted command restarts the timer in DRIVE and ends a timeout (R281, R282); it does not end the stop that RUN_REQ = 0 has begun (Table 12.9, assumption 89). -/
def State.commandSeen (s : State) (m : Nat) : State :=
  let s := s.hlmSee m true
  let s : State := { s.unnote .cmdTimeout with cmdT := { s.cmdT with timedOut := false } }
  if s.sys.dev = .run ∧ m ∈ s.machines ∧ s.ctrlBit 1 = true then { s.noRamp with cmdT := s.timerRestart } else s

/-- Current i_d at which PSI_D(i_d, 0) is 0 (R278). -/
def State.iShort (s : State) (m : Nat) : Option Rat :=
  match s.mapSet.bind fun ms => ms.find 6 m with
  | none => none
  | some d =>
    let bps := d.axes.headD []
    let at0 := fun (x : Rat) => (d.at' ⟨0, 0, 0, s.tempC, x, 0⟩).1
    match bps.find? fun x => at0 x == 0 with
    | some x => some x
    | none => (bps.zip (bps.drop 1)).findSome? fun ab =>
        let fa := at0 ab.1
        let fb := at0 ab.2
        if fa * fb < 0 then some (ab.1 - divQ (fa * (ab.2 - ab.1)) (fb - fa)) else none

/-- A write of one of the guarded command objects of a machine takes effect. -/
def State.putCommand (s : State) (o : Obj) (m : Nat) (v : Int) : State :=
  { s.set o v m with dict := { s.dict with procVals := s.dict.procVals.drop (o.key m) } }.commandSeen m

/-- Refusal of a write of ASC_BRAKE_CMD (R278). -/
def State.brakeRefusal (s : State) (m : Nat) (v : Int) : Option Nat :=
  if v = 1 ∧ m ∈ s.machines ∧ s.mapSet.isSome ∧ s.iShort m = none then some abortValue else none

/-- Write of a command object (R274, R275, R278). -/
def writeCommand (o : Obj) (m : Nat) (v : Int) (id : ReqId) (s : State) : State :=
  match (if o = O.ASC_BRAKE_CMD then s.brakeRefusal m v else none) with
  | some c => s.refuse id c
  | none => (s.putCommand o m v).done id

/-! ### Generator -/

/-- One step of the jerk-limited generator (R273): output and rate. -/
def genStep (dt rate jerk target lo hi x r : Rat) : Rat × Rat :=
  let brake := divQ (r * absQ r) (2 * jerk)
  let e := target - x
  let goal := if jerk * dt * dt < e - brake then rate else if e - brake < -(jerk * dt * dt) then -rate else 0
  let r := r + clampQ (-(jerk * dt)) (jerk * dt) (goal - r)
  let x := x + r * dt
  let (x, r) := if (0 < e ∧ target < x) ∨ (e < 0 ∧ x < target) then (target, 0) else (x, r)
  let (x, r) := if hi < x then (hi, minQ r 0) else (x, r)
  if x < lo then (lo, maxQ r 0) else (x, r)

/-- Length of a solver step, s. -/
def State.solverDt (s : State) : Rat := s.solverN * s.period / 1000000

/-! ### Limits -/

/-- References of the operating-point maps at a torque: id, iq, Ldd, Lqq, Ldq and the axes left (R287, R294). -/
structure OpRefs where
  id : Rat
  iq : Rat
  ldd : Rat
  lqq : Rat
  ldq : Rat
  out : List Nat

def State.opRefs (s : State) (m : Nat) (p : OpPoint) : OpRefs :=
  match s.mapSet with
  | none => ⟨0, 0, 0, 0, 0, []⟩
  | some ms =>
    let (q, neg) := ms.mirror p
    let sg : Rat := if neg then -1 else 1
    let a := ms.look 1 m q
    let b := ms.look 2 m q
    let c := ms.look 3 m q
    let d := ms.look 4 m q
    let e := ms.look 5 m q
    ⟨a.1, sg * b.1, c.1, d.1, sg * e.1, a.2 ++ b.2 ++ c.2 ++ d.2 ++ e.2⟩

/-- Electrical power at a torque, W; none at standstill without a P_ELEC map (R269). -/
def State.pElec (s : State) (m : Nat) (p : OpPoint) : Option Rat :=
  match s.mapSet.bind fun ms => (ms.find 10 m).map fun d => (d.at' (ms.mirror p).1).1 with
  | some v => some v
  | none =>
    if p.speed = 0 then none
    else
      let w := 2 * Config.pi * p.speed / 60
      let eta := mkRat (s.get O.ETA_DEFAULT) 1000
      some (if 0 ≤ p.torque * p.speed then divQ (p.torque * w) eta else p.torque * w * eta)

/-- The active set has a P_ELEC map of the machine (R269). -/
def State.hasPElec (s : State) (m : Nat) : Bool := (s.mapSet.bind fun ms => ms.find 10 m).isSome

/-- Bisection for the largest magnitude up to top (of its sign) that a test allows; 0.1 % of the range (R271; assumption 23). -/
def bisect (ok : Rat → Bool) : Nat → Rat → Rat → Rat
  | 0, lo, _ => lo
  | n + 1, lo, hi => let mid := (lo + hi) / 2
                     if ok mid then bisect ok n mid hi else bisect ok n lo mid

def largest (ok : Rat → Bool) (top : Rat) : Rat := if ok top then top else bisect ok 10 0 top

/-- k_die of a machine: the lowest ratio of active to declared dies among its positions (R134). -/
def State.kDie (s : State) (m : Nat) : Rat :=
  let isl := (s.bridgesOf m).flatMap fun b => (List.range 6).map fun x => Fin.ofNat 12 (x + 6 * b)
  isl.foldl (fun a n => let d := s.posDies n
                        if d.2 = 0 then a else minQ a (mkRat d.1 d.2)) 1

/-- k_tj of a machine (R271). -/
def State.kTj (s : State) (m : Nat) : Rat :=
  let bs := if s.cfg = 0 then [0, 1] else s.bridgesOf m
  let tjs := bs.flatMap fun b => (List.range 6).flatMap fun x =>
    let n : IslIx := Fin.ofNat 12 (x + 6 * b)
    (List.range 4).filterMap fun k =>
      let o := (s.island n).outs.getD k State.resetOut
      if s.declared n k && !o.isolated then s.tjEst n k o.probes else none
  match tjs with
  | [] => 1
  | t :: l =>
    let top := l.foldl maxQ t
    let hi : Rat := s.get O.TJ_HIGH
    let de : Rat := s.get O.TJ_DERATE
    if hi ≤ de then (if top < hi then 1 else 0) else clampQ 0 1 (divQ (hi - top) (hi - de))

/-- Factor k of R90. -/
def State.kTemp (s : State) : Rat :=
  if s.coll.cond .tempDerate then clampQ 0 1 (divQ (1600 - s.get O.TEMP_MAX) (1600 - s.get O.TEMP_DERATE)) else 1

/-- k_deg of a machine (R373, Table 9.7). -/
def State.kDeg (s : State) (m : Nat) : Rat :=
  let ch := m
  let less : Rat := if (s.chan ch).fallback = .sensorless ∧ absQ (s.get O.SPEED ch) < s.bbSpeed ch then mkRat (s.get O.DEG_SENSORLESS_K) 1000 else 1
  let lost := fun (b : Nat) => ((List.range 3).filter fun x => (s.sense.iline.getD (3 * b + x) State.resetIline).lost).length
  let il := fun (b : Nat) => if 2 ≤ lost b then (6 / 10 : Rat) else if lost b = 1 then mkRat (s.get O.DEG_ILINE1_K) 1000 else 1
  (s.bridgesOf m).foldl (fun a b => minQ a (il b)) less

/-- Current limit of a machine, A (R271). -/
def State.iLim (s : State) (m : Nat) : Rat := s.getQ O.I_MAX m * s.kDie m * s.kTj m

/-- Speed limits in force (R267). -/
def State.speedLims (s : State) (m : Nat) : Rat × Rat :=
  let top := divQ 180000 (s.get O.POLE_PAIRS m)
  (minQ (s.getQ O.SPEED_LIM_POS m) top, minQ (s.getQ O.SPEED_LIM_NEG m) top)

/-- The limits of a solver step and what made them (R268, Table 7.5): L−, L+, bound bits of each direction, factor bits, and the axes left. -/
structure Limits where
  lo : Rat
  hi : Rat
  bitsLo : List Nat
  bitsHi : List Nat
  always : List Nat
  out : List Nat

def State.limits (s : State) (m : Nat) (n vdc : Rat) : Limits :=
  let p : OpPoint := ⟨0, n, vdc, s.tempC, 0, 0⟩
  let (tMax, tMin, out) := match s.mapSet with | some ms => ms.torqueRange m p | none => (0, 0, [])
  let share := if s.cfg = 1 ∧ s.get O.ARRANGEMENT = 0 then mkRat (s.get O.BAT_SHARE m) 100 else 1
  let pDis := minQ (s.getQ O.P_DIS_MAX) (s.getQ O.I_DIS_MAX * vdc) * share
  let pChg := minQ (s.getQ O.P_CHG_MAX) (s.getQ O.I_CHG_MAX * vdc) * share
  let power := fun (t : Rat) => match s.pElec m { p with torque := t } with
    | none => true
    | some w => decide (w ≤ pDis) && decide (-pChg ≤ w)
  let w := absQ (2 * Config.pi * n / 60)
  let eta := mkRat (s.get O.ETA_DEFAULT) 1000
  let battery := fun (t : Rat) =>
    if s.hasPElec m = true ∨ n = 0 then largest power t
    else
      let top := if 0 ≤ t * n then divQ (maxQ 0 pDis * eta) w else divQ (maxQ 0 pChg) (w * eta)
      if top < absQ t then (if t < 0 then -top else top) else t
  let iLim := s.iLim m
  let amps := fun (t : Rat) =>
    let r := s.opRefs m { p with torque := t }
    decide (r.id * r.id + r.iq * r.iq ≤ iLim * iLim)
  let side := fun (host map : Rat) =>
    let least := if absQ host ≤ absQ map then host else map
    let bat := battery least
    let cur := largest amps bat
    let bits := (if cur ≠ bat then [8] else []) ++ (if cur = bat ∧ bat ≠ least then [4] else []) ++
      (if cur = bat ∧ bat = least ∧ absQ map ≤ absQ host then [3] else []) ++ (if cur = bat ∧ bat = least ∧ absQ host ≤ absQ map then [2] else [])
    (cur, bits)
  let (hi, bHi) := side (maxQ 0 (s.getQ O.TQ_LIM_POS m * s.ownShare m)) (maxQ 0 tMax)
  let (lo, bLo) := side (minQ 0 (s.getQ O.TQ_LIM_NEG m * s.ownShare m)) (minQ 0 tMin)
  let band := s.getQ O.VDC_BAND
  let kGen := clampQ 0 1 (divQ (s.getQ O.VDC_MAX - vdc) band)
  let kMot := clampQ 0 1 (divQ (vdc - s.getQ O.VDC_MIN) band)
  let (kv1, kv2) := if 0 < n then (kMot, kGen) else if n < 0 then (kGen, kMot) else (kMot, kMot)
  let (sp, sn) := s.speedLims m
  let nNow := mkRat (s.get O.SPEED m) 10
  let sBand := s.getQ O.SPEED_LIM_BAND m
  let k1 := clampQ 0 1 (divQ (sp - nNow) sBand)
  let k2 := clampQ 0 1 (divQ (sn + nNow) sBand)
  let kt := s.kTemp
  let kd := s.kDeg m
  let f := fun (a b : Rat) => (if a < 1 then [9] else []) ++ (if b < 1 then [5] else [])
  { lo := lo * kv2 * k2 * kt * kd, hi := hi * kv1 * k1 * kt * kd, bitsLo := bLo ++ f k2 kv2, bitsHi := bHi ++ f k1 kv1,
    always := (if kd < 1 then [7] else []) ++ (if kt < 1 then [6] else []), out := out }

/-! ### Solver step -/

/-- The machine's channel carries an angle and no start runs: DRIVE gives torque (R204). -/
def State.delivering (s : State) (m : Nat) : Bool :=
  s.sys.dev == .run && (match (s.chan m).start with | .none => true | _ => false)

/-- k_v after a step (R265). -/
def State.nextKv (s : State) (m : Nat) (kv : Rat) : Rat :=
  let tooMuch := (s.bridgesOf m).any fun b =>
    decide (s.mLim b - mkRat (s.get O.VLIM_MARGIN) 1000 < mkRat (s.get O.M_DEM b) 1000)
  let d := Config.vlimRate (s.get O.VLIM_BW) * s.solverDt
  clampQ 0 1 (if tooMuch then kv - d else kv + d)

/-- ASC braking commanded (R278, R279): begins on the command above the least speed; a command written 0 clears its wait. -/
def State.brakeStep (s : State) (m : Nat) : State :=
  let cmd := s.getB O.ASC_BRAKE_CMD m
  match (s.mach m).brake with
  | .off =>
    if cmd && s.delivering m && decide (s.getQ O.ASC_BRAKE_MIN ≤ absQ (mkRat (s.get O.SPEED m) 10)) then
      match s.iShort m with
      | some i => s.updMach m fun q => { q with brake := .entry s.now (q.pub.getD State.resetRefs).id (q.pub.getD State.resetRefs).iq i }
      | none => s
    else s
  | .spent => if cmd then s else s.updMach m fun q => { q with brake := .off }
  | _ => s

/-- Estimated torque from the measured currents and the corrected flux maps, over the bridges of the machine (R294, step 5). -/
def State.torqueEst (s : State) (m : Nat) : Rat × List Nat :=
  let bs := if s.get O.ARRANGEMENT = 1 then s.bridgesOf m else [m]
  bs.foldl (fun acc b =>
    let id := (s.bridge b).id
    let iq := (s.bridge b).iq
    let p : OpPoint := ⟨0, 0, 0, s.tempC, id, iq⟩
    let d := s.flux 6 m p
    let q := s.flux 7 m p
    (acc.1 + 3 / 2 * s.get O.POLE_PAIRS m * (d.1 * iq - q.1 * id), acc.2 ++ d.2 ++ q.2)) (0, [])

/-- Generator part of a step: solver after it, target, demand before the limits (R273..R276, R278, R281). -/
def State.generate (s : State) (m : Nat) (q : Solver) (l : Limits) (speedF est : Rat) : Solver × Rat × Rat :=
  let dt := s.solverDt
  let mode := s.get O.CMD_MODE m == 1
  let q := if mode && !q.speedMode then { q with speedMode := true, n := mkRat (s.get O.SPEED m) 10, nr := 0, pi := q.kv * q.x }
    else if !mode && q.speedMode then { q with speedMode := false } else q
  let braking : Bool := match q.brake with | .entry .. => true | .on _ => true | _ => false
  if !s.delivering m then
    ({ q with x := 0, r := 0, n := mkRat (s.get O.SPEED m) 10, nr := 0, pi := 0, ramp := if s.sys.dev = .run then q.ramp.map fun x => (0, x.2) else none }, 0, 0)
  else if braking then ({ q with x := est, r := 0 }, est, est)
  else match q.ramp with
    | some (t0, since) =>
      let left := 1 - divQ ((s.now - since : Nat) : Rat) (1000 * s.get O.TIMEOUT_RAMP)
      let t := clampQ l.lo l.hi (if left ≤ 0 then 0 else t0 * left)
      ({ q with x := t, r := 0 }, 0, t)
    | none =>
      if mode then
        let (sp, sn) := s.speedLims m
        let (n, nr) := genStep dt (s.get O.SPD_ACC m) (s.get O.SPD_JERK m) (clampQ (-sn) sp (s.getQ O.SPEED_CMD m)) (-sn) sp q.n q.nr
        let err := n - speedF
        let u := s.getQ O.SPD_KP m * err + q.pi
        let held := (decide (l.hi < u) && decide (0 < err)) || (decide (u < l.lo) && decide (err < 0))
        let pi := if held then q.pi else q.pi + s.getQ O.SPD_KI m * err * dt
        let tgt := clampQ l.lo l.hi u
        let (x, r) := genStep dt (s.get O.TQ_RATE m) (s.get O.TQ_JERK m) tgt l.lo l.hi q.x q.r
        ({ q with n := n, nr := nr, pi := pi, x := x, r := r }, tgt, u)
      else
        let cmd := s.ownTorque m
        let tgt := clampQ l.lo l.hi cmd
        let (x, r) := genStep dt (s.get O.TQ_RATE m) (s.get O.TQ_JERK m) tgt l.lo l.hi q.x q.r
        ({ q with x := x, r := r }, tgt, cmd)

/-- LIMIT_CAUSE (Table 7.5). -/
def limitCause (l : Limits) (demand : Rat) (extra : List Nat) : Nat :=
  let dir := if l.hi < demand then l.bitsHi else if demand < l.lo then l.bitsLo else []
  let all := dir ++ l.always ++ extra
  ofBits ((List.range 11).map fun i => all.contains i)

/-- MAP_EXTRAP with its flag, axes, count and report (R293). -/
def State.extrap (s : State) (m : Nat) (out : List Nat) : State :=
  let any := !out.isEmpty
  let frm := if any then (match (s.mach m).extrapFrom with | some t => some t | none => some s.now) else none
  let s := s.updMach m fun q => { q with extrapFrom := frm }
  let flag := s.machines.any fun k => (s.mach k).extrapFrom.isSome
  let s := s.set O.MAP_STATUS (setBit (s.get O.MAP_STATUS) 0 flag)
  let s := s.set O.EXTRAP_AXES (ofBits ((List.range 6).map fun i => out.contains i))
  let s := if any then s.bump O.EXTRAP_COUNT else s
  match frm with
  | some t => if t + 100000 ≤ s.now then s.note .mapExtrap m else s
  | none => s.unnote .mapExtrap m

/-- Publication of a set (R35, R294): the step was in time or late. -/
def State.publish (s : State) (m : Nat) (r : RefSet) : State :=
  let n := s.solverN
  let near := fun (a b : Rat) => decide (100 * absQ (a - b) < absQ b) || a == b
  let s := s.updMach m fun q =>
    let ok := decide (q.age < 2 * n)
    let held := near r.id q.steady.1 && near r.iq q.steady.2
    { q with pub := some r, age := 0, skipped := 0, inTime := if ok then q.inTime + 1 else 0,
             steady := if held then q.steady else (r.id, r.iq), steadyFrom := if held then q.steadyFrom else s.now }
  if 100 ≤ (s.mach m).inTime then s.unnote .solverLate m else s

/-- READY after a command timeout or a stop, once every torque is zero and every speed below the lower threshold (R281, step 3; Table 12.9). -/
def State.timeoutEnd (s : State) : State :=
  let zero := s.machines.all fun m => (s.mach m).x == 0 && (s.mach m).ramp.isSome
  if !(zero && s.sys.dev == .run) then s
  else if s.machines.all fun m => match s.hlmSpeed m with | some n => decide (n < (s.thresholds m).2) | none => false then
    ({ s.noRamp with cmdT := ⟨false, 0, s.cmdT.timedOut, false⟩ }.toDev .ready).gauntlet.levelActs
  else { s with cmdT := { s.cmdT with hold := true } }

/-- SOLVER_STEP (R294). -/
def solverStep (m : Fin 2) (s : State) : State :=
  let m := m.val
  if !(s.carrier && m ∈ s.machines) || (s.sys.m1.inReset && !s.sys.m1.lost) then s
  else
    let s := s.takeProc
    let b := (s.bridgesOf m).headD 0
    let vdc := s.vdcFilt b
    let speedF := mkRat (s.get O.SPEED_FILT m) 10
    let s := s.brakeStep m
    let l := s.limits m speedF vdc
    let est := s.torqueEst m
    let (q, tgt, demand) := s.generate m { s.mach m with kv := s.nextKv m (s.mach m).kv } l speedF est.1
    let p : OpPoint := ⟨0, speedF, vdc, s.tempC, 0, 0⟩
    let iLim := s.iLim m
    let amps := fun (t : Rat) =>
      let r := s.opRefs m { p with torque := t }
      decide (r.id * r.id + r.iq * r.iq ≤ iLim * iLim)
    let want := q.kv * q.x
    let t := largest amps want
    let r := s.opRefs m { p with torque := t }
    let fp : OpPoint := ⟨0, 0, 0, s.tempC, r.id, r.iq⟩
    let pd := s.flux 6 m fp
    let pq := s.flux 7 m fp
    let braking : Bool := match q.brake with | .entry .. => true | .on _ => true | _ => false
    let extra := (if q.kv < 1 then [10] else []) ++ (if t ≠ want then [8] else []) ++
      (if q.ramp.isSome ∧ q.x ≠ 0 then [1] else []) ++ (if braking then [0] else [])
    let s := (s.updMach m fun _ => q).publish m ⟨r.id, r.iq, r.ldd, r.lqq, r.ldq, pd.1, pq.1⟩
    let s := (((s.setQ O.TORQUE_TARGET tgt m).setQ O.TORQUE_REF want m).setQ O.TORQUE_EST est.1 m)
    let s := ((s.setQ O.T_AVAIL_POS (l.hi * q.kv) m).setQ O.T_AVAIL_NEG (l.lo * q.kv) m).set O.LIMIT_CAUSE (limitCause l demand extra) m
    let s := s.setQ O.P_DC_EST ((s.pElec m { p with torque := t }).getD 0) m
    let ks := s.machines.map fun k => (s.kTj k, s.kDie k, s.kDeg k)
    let low := fun (f : Rat × Rat × Rat → Rat) => ks.foldl (fun a k => minQ a (f k)) 1
    let s := ((s.setQ O.K_TEMP (1000 * s.kTemp)).setQ O.K_TJ (1000 * low fun k => k.1)).setQ O.K_DIE (1000 * low fun k => k.2.1)
    let s := s.setQ O.K_DEG (1000 * low fun k => k.2.2)
    let s := s.extrap m (l.out ++ r.out ++ pd.2 ++ pq.2 ++ est.2)
    s.timeoutEnd

/-! ### Command timeout, alternation -/

/-- CMD_TIMEOUT in DRIVE (R281): ASC braking ends, and each torque reference ramps to zero. -/
def State.tractionTimeout (s : State) : State :=
  let s := s.note .cmdTimeout
  let go := fun (q : Solver) =>
    { q with ramp := some (q.x, s.now),
             brake := match q.brake with | .off => .off | _ => .spent }
  { s with cmdT := ⟨false, s.cmdT.since, true, false⟩, fl := { s.fl with mach := s.fl.mach.map go } }

/-- A high-side island of a machine's bridges runs on bootstrap supply (R278). -/
def State.brakeBst (s : State) (m : Nat) : Bool :=
  (s.bridgesOf m).any fun b => (List.range 3).any fun x => (s.bridgeHigh b x).any fun n => (s.island n).bootstrap

/-- ASC_ALTERNATE (R278): pattern 2 changes sides at the next boundary. -/
def ascAlternate (m : Fin 2) (s : State) : State :=
  match (s.mach m.val).brake with
  | .on h => if s.get O.ASC_PATTERN = 2 ∧ !s.brakeBst m.val then s.updMach m.val fun q => { q with brake := .on (!h) } else s
  | _ => s

/-- ASC braking at a boundary (R278, R279): the entry ends in the zero vector; the braking ends on the command or on speed. -/
def State.brakeBoundary (s : State) (m : Nat) : State :=
  let slow := decide (absQ (mkRat (s.get O.SPEED m) 10) < s.getQ O.ASC_BRAKE_MIN)
  let stop : Option Brake := if !s.getB O.ASC_BRAKE_CMD m || s.sys.dev != .run then some .off else if slow then some .spent else none
  let high := s.get O.ASC_PATTERN == 1 && !s.brakeBst m
  let next : Brake := match (s.mach m).brake, stop with
    | .entry .., some b => b
    | .on _, some b => b
    | .entry since id iq i, none => if since + 1000 * s.getN O.ASC_ENTRY_T ≤ s.now then .on high else .entry since id iq i
    | .on h, none => .on (h && !s.brakeBst m)
    | b, _ => b
  let s := s.updMach m fun q => { q with brake := next }
  (s.bridgesOf m).foldl (fun (s : State) b => s.updBr b fun x => { x with brake := match next with | .on h => some h | _ => none }) s

/-! ### Trace commands -/

/-- Used probe slots (R301). -/
def State.slots (s : State) : List Nat := ((List.range 64).map fun k => s.getN O.PROBE_SRC k).filter fun k => k != 0

/-- Types that a slot may name (R301). -/
def traceTy : Ty → Bool
  | .bool | .u8 | .u16 | .u32 | .i16 | .i32 | .f32 => true
  | _ => false

/-- Checks of the trace COMMIT at a level (R301, R306). -/
def traceCheck (lvl : Lvl) (s : State) : Option Nat :=
  let bad := fun (v : Int) => v != 0 && (match findObj v.toNat with
    | some (o, _) => !(traceTy o.ty && o.acc != .wo && decide (o.lvl.num ≤ lvl.num))
    | none => true)
  if s.get O.TRACE_STATE = 1 then some abortState
  else if (List.range 64).any fun k => bad (s.planned O.PROBE_SRC k) then some abortValue else none

/-- RECORD_LEN and CAPACITY (R302). -/
def traceHook (s : State) : State :=
  let len := 8 + 4 * s.slots.length
  (s.set O.RECORD_LEN len).set O.CAPACITY ((2097152 - 262144 * ((List.range 8).filter fun m => bit (s.get O.MACRO_UNUSABLE) (28 + m)).length) / len : Nat)

/-- TRACE_CMD 1 (R303). -/
def State.traceArm (s : State) : State :=
  if s.get O.TRACE_MODE = 0 then s
  else { s.set O.TRACE_STATE 1 with fl := { s.fl with trace := State.resetTrace } }

def traceForce (s : State) : State := { s with fl := { s.fl with trace := { s.fl.trace with trig := s.fl.trace.trig || s.get O.TRACE_STATE == 1 } } }

/-- TRACE_CMD 3: the ring stays for reading. -/
def traceStopped (s : State) : State := if s.get O.TRACE_STATE = 3 then s else { s.set O.TRACE_STATE 0 with fl := { s.fl with trace := { s.fl.trace with stopped := true } } }

/-! ### The commands -/

def execSolverStep (m : Fin 2) (s : State) : Host.Outcome State Fault Refusal := .next (solverStep m s)
def execTorqueCmd (r : Req) (m : Fin 2) (v : Word) (s : State) : Host.Outcome State Fault Refusal :=
  .next (s.writeReq r O.TORQUE_CMD m.val v.toNat (writeCommand O.TORQUE_CMD m.val v.toNat))
def execSpeedCmd (r : Req) (m : Fin 2) (v : Word) (s : State) : Host.Outcome State Fault Refusal :=
  .next (s.writeReq r O.SPEED_CMD m.val v.toNat (writeCommand O.SPEED_CMD m.val v.toNat))
def execAscBrakeCmd (r : Req) (m : Fin 2) (v : Byte) (s : State) : Host.Outcome State Fault Refusal :=
  .next (s.writeReq r O.ASC_BRAKE_CMD m.val v.toNat (writeCommand O.ASC_BRAKE_CMD m.val v.toNat))
def execAscAlternate (m : Fin 2) (s : State) : Host.Outcome State Fault Refusal := .next (ascAlternate m s)
def execTraceArm (r : Req) (s : State) : Host.Outcome State Fault Refusal :=
  .next (s.writeReq r O.TRACE_CMD 0 1 fun id s => s.traceArm.done id)
def execTraceForceTrigger (r : Req) (s : State) : Host.Outcome State Fault Refusal :=
  .next (s.writeReq r O.TRACE_CMD 0 2 fun id s => (traceForce s).done id)
def execTraceStop (r : Req) (s : State) : Host.Outcome State Fault Refusal :=
  .next (s.writeReq r O.TRACE_CMD 0 3 fun id s => (traceStopped s).done id)
def execLimitCommit (r : Req) (s : State) : Host.Outcome State Fault Refusal := .next (s.commit r O.COMMIT_21FF 0 fun _ => none)
def execSolverCommit (r : Req) (s : State) : Host.Outcome State Fault Refusal := .next (s.commit r O.COMMIT_23FF 0 fun _ => none).syncField
def execTraceCommit (r : Req) (s : State) : Host.Outcome State Fault Refusal := .next (traceHook (s.commit r O.COMMIT_2EFF 0 (traceCheck ((s.levelOf r.port r.session).getD .opr))))

end Sys2Proof.Machine
end

