-- ==== Sys2Proof/Machine/Charger.lean ====
section
/-! DEFINITION. The CHARGER configuration: grid PLL and supervision, outer loops, dual active bridge, relays, phases, grid meter (R310..R341, R177 for the meter's windows). -/

namespace Sys2Proof.Machine

def State.updChg (s : State) (f : Charger → Charger) : State := { s with chg := f s.chg }
def State.phase (s : State) : Nat := s.getN O.CHG_PHASE

/-- Phases of the meter and the number in use (R320, R337). -/
def State.gridPhases (s : State) : Nat := if s.get O.GRID_MODE = 2 then 1 else 3

def State.vRmsTop (s : State) : Rat := (s.chg.vRms.take s.gridPhases).foldl maxQ 0

/-- Peak rectified grid voltage (R319). -/
def State.vPk (s : State) : Rat := Config.sqrt (if s.get O.GRID_MODE = 2 then 2 else 6) * s.vRmsTop

def State.vdcRefEff (s : State) : Rat := maxQ (s.getQ O.VDC_REF) (mkRat (s.get O.VDC_HEADROOM) 1000 * s.vPk)

/-- k_die of B0 (islands 0..5) and of the DAB (islands 6..11) (R316, R324). -/
def State.kDieOf (s : State) (from' : Nat) : Rat :=
  (List.range 6).foldl (fun a x =>
    let d := s.posDies (Fin.ofNat 12 (from' + x))
    if d.2 = 0 then a else minQ a (mkRat d.1 d.2)) 1

/-- k_tj of the charger (R325). -/
def State.kTjChg (s : State) : Rat :=
  let tjs := allIslands.flatMap fun n => (List.range 4).filterMap fun k =>
    let o := (s.island n).outs.getD k State.resetOut
    if s.declared n k && !o.isolated then s.tjEst n k o.probes else none
  match tjs with
  | [] => 1
  | t :: l =>
    let top := l.foldl maxQ t
    let hi : Rat := s.get O.TJ_HIGH
    let de : Rat := s.get O.TJ_DERATE_CHG
    if hi ≤ de then (if top < hi then 1 else 0) else clampQ 0 1 (divQ (hi - top) (hi - de))

/-! ### Relays -/

def State.fitted (s : State) (k : Nat) : Bool := bit (s.get O.RLY_FITTED) k

/-- Switched only by the module (Table 8.5). -/
def State.moduleRelay (s : State) (k : Nat) : Bool := s.charger && decide (k < 7)

def State.setCheck (s : State) (k : Nat) (c : Option Bool) : State := s.updChg fun g => { g with checks := g.checks.set k c }

/-- Command one relay (R327, R328): an unfitted one is never switched; while a weld is held every other module-owned relay stays open. -/
def State.relay (s : State) (k : Nat) (on : Bool) : State :=
  if !s.fitted k || bit (s.get O.RLY_OUT) k == on || (on && s.moduleRelay k && s.coll.cond .rlyWeld) then s
  else
    let s := s.set O.RLY_OUT (setBit (s.get O.RLY_OUT) k on)
    let s := if on then s.bump O.RLY_OPS k else s
    let fb := bit (s.get O.RLY_FB) k
    s.setCheck k (if fb == on then none else some on)

def State.relays (s : State) (ks : List Nat) (on : Bool) : State := ks.foldl (fun (s : State) k => s.relay k on) s

/-- Host-owned relays follow RLY_CMD (R327). -/
def State.hostRelays (s : State) : State :=
  (List.range 8).foldl (fun (s : State) k => if s.moduleRelay k then s else s.relay k (bit (s.get O.RLY_CMD) k)) s

/-- Relays required in the GRID_MODE in force (Table 8.5). -/
def State.requiredRelays (s : State) : List Nat :=
  match s.getN O.GRID_MODE with
  | 0 => [0, 1, 2, 3]
  | 1 => [0, 1, 2, 3, 4]
  | _ => [0, 1, 4]

/-- Lines other than L1 that a connection closes (Table 8.7, phase 2). -/
def State.lineRelays (s : State) : List Nat :=
  match s.getN O.GRID_MODE with
  | 0 => [2, 3]
  | 1 => [2, 3, 4]
  | _ => [4]

def State.contactors (s : State) : Bool := s.fitted 5 || s.fitted 6

/-! ### Phases -/

def State.toPhase (s : State) (p : Nat) : State := s.set O.CHG_PHASE p

/-- Why a CONVERT request is refused (R319, R327, R328, R331, Table 9.2). -/
def State.chargerRefusal (s : State) : Option Nat :=
  let batt := s.getQ O.V_BATT_HOST
  if s.coll.cond .rlyWeld || s.coll.cond .snsIlineLost then some abortState
  else if !s.requiredRelays.all s.fitted then some abortValue
  else if s.contactors && !(decide (1 ≤ batt) && decide (batt ≤ s.getQ O.V_OUT_MAX)) then some abortValue
  else if [0, 1].any fun k => decide ((s.get O.DCW_HIGH k : Rat) / 10 < s.vdcRefEff) then some abortValue
  else none

/-- Phase 2: the other lines, then the precharge path. -/
def State.precharge (s : State) : State := ((s.toPhase 2).relays s.lineRelays true).relay 0 true

/-- Phase 7: the reference starts from 0. -/
def State.converting (s : State) : State := ((s.toPhase 7).updChg fun g => { g with iOutRef := 0, xi := 0, cv := 0 }).setQ O.I_OUT_REF 0

/-- Phase 6: OUT_NEG, then OUT_POS after it is confirmed. -/
def State.connectOut (s : State) : State :=
  let s := s.toPhase 6
  if s.fitted 6 then s.relay 6 true else s.relay 5 true

/-- Phase 1 ends with the grid good for GRID_OK_TIME; a module-owned relay found closed is welded (R332). -/
def State.gridCheck (s : State) : State :=
  match (List.range 7).find? fun k => s.fitted k && bit (s.get O.RLY_FB) k with
  | some k => s.post .rlyWeld k
  | none => if s.chg.gridGood then s.precharge else s

/-- Enter CONVERT (R326, R331). -/
def State.chargerStart (s : State) : State :=
  let s := { s with cmdT := s.timerRestart }
  ((s.toPhase 1).updChg fun g => { g with stop := .none, tmo := none, blockRelays := false, matchFrom := none, phi := 0, phiAct := 0, x := 0 }).gridCheck

/-- READY at the end of a stop, once every opened relay is confirmed open; the energy counters are saved (R333, R339). -/
def State.stopEnd (s : State) : State :=
  if s.chg.stop == .opening && (List.range 7).all (fun k => !s.fitted k || !bit (s.get O.RLY_FB) k) then
    let s := (s.saveRec (O.ENERGY_IMPORT.key 0) (s.get O.ENERGY_IMPORT)).saveRec (O.ENERGY_EXPORT.key 0) (s.get O.ENERGY_EXPORT)
    let s := { s with cmdT := ⟨false, 0, s.cmdT.timedOut, false⟩ }.updChg fun g => { g with stop := .none, tmo := none }
    (((s.toPhase 0).toDev .ready).levelActs).gauntlet
  else s

/-- Steps 2 to 4 of a stop: contactors open, switching ends, grid relays open (R333). -/
def State.stopOpen (s : State) : State :=
  let s := s.relays [5, 6] false
  let s := s.updChg fun g => { g with stop := .opening, phi := 0, phiAct := 0, iOutRef := 0 }
  ((s.setQ O.I_OUT_REF 0).relays [0, 1, 2, 3, 4] false).stopEnd

/-- A normal stop (R333), from phase 7 with the ramp, else at the step that matches the phase. -/
def State.chargerStop (s : State) : State :=
  let p := s.phase
  if p = 0 ∨ p = 8 then s
  else
    let s := (s.toPhase 8).updChg fun g => { g with stopPhase := p }
    if p = 7 then s.updChg fun g => { g with stop := .ramp }
    else s.stopOpen

/-- Phases 2 and 7..8 move on by the measured values. -/
def State.chgMeasures (s : State) : State :=
  if s.phase = 2 ∧ mkRat (s.get O.PRE_LEVEL) 1000 * s.vPk ≤ s.fl.vdc.getD 0 0 then (s.toPhase 3).relay 1 true
  else if s.chg.stop = .waitCurrent ∧ absQ (s.getQ O.I_OUT) ≤ 1 then s.stopOpen
  else s

/-- A closed or opened relay is confirmed: the phases that wait for it move on (Table 8.7, R333). -/
def State.confirmed (s : State) (k : Nat) (closed : Bool) : State :=
  if s.phase = 3 ∧ k = 0 ∧ closed = false then
    (s.toPhase 4).updChg fun g => { g with rampRef := s.fl.vdc.getD 0 0, rampFrom := s.now, x := 0 }
  else if s.phase = 6 ∧ k = 6 ∧ closed = true then (if s.fitted 5 then s.relay 5 true else s.converting)
  else if s.phase = 6 ∧ k = 5 ∧ closed = true then s.converting
  else s.stopEnd

/-- RELAY_FEEDBACK_CHANGE (R328): debounced contact state. -/
def relayFeedback (k : Fin 8) (contact : Bool) (s : State) : State :=
  let closed := contact != bit (s.get O.FB_SENSE) k.val
  if bit (s.get O.RLY_FB) k.val == closed then s
  else
    let s := s.set O.RLY_FB (setBit (s.get O.RLY_FB) k.val closed)
    if !s.fitted k.val then s
    else match s.chg.checks.getD k.val none with
      | some want => if want == closed then (s.setCheck k.val none).confirmed k.val closed else s
      | none => if bit (s.get O.RLY_OUT) k.val != closed then s.post .rlyFbUnexp k.val else s

/-- RELAY_CHECK_TIMEOUT (R328). -/
def relayTimeout (k : Fin 8) (s : State) : State :=
  match s.chg.checks.getD k.val none with
  | some true => (s.setCheck k.val none).post .rlyCloseFail k.val
  | some false => (s.setCheck k.val none).post .rlyWeld k.val
  | none => s

/-- RELAY_DRIVER_SHORT (R329). -/
def relayShort (k : Fin 8) (s : State) : State :=
  if bit (s.get O.RLY_OUT) k.val then
    ((s.set O.RLY_OUT (setBit (s.get O.RLY_OUT) k.val false)).setCheck k.val none).post .rlyDrvFault k.val
  else s

/-- BLOCK_RELAY_OFF: 5 ms after BLOCK every module-owned driver is off (R334). -/
def blockRelayOff (s : State) : State :=
  if s.chg.blockRelays then (s.relays [0, 1, 2, 3, 4, 5, 6] false).updChg fun g => { g with blockRelays := false } else s

/-! ### Grid -/

/-- Conditions of Table 8.9 in their order. -/
def State.gridConds (s : State) : List Bool :=
  [decide (2 ≤ s.chg.lossRun), s.chg.lowRun.any fun n => decide (3 ≤ n), s.chg.highRun.any fun n => decide (3 ≤ n),
   (match s.chg.freqFrom with | some t => decide (t + 100000 ≤ s.now) | none => false), s.get O.PLL_STATE == 0,
   decide (500 < s.get O.NEG_SEQ) && s.get O.GRID_MODE != 2]

def gridCodes : List FaultCode := [.gridLoss, .gridVLow, .gridVHigh, .gridFRange, .gridPllUnlock, .gridPhaseOrder]

/-- GRID_STATUS; a condition raises its fault in CONVERT, in phase 1 only by GRID_CHECK_TIMEOUT (R335, Table 8.7). -/
def State.gridWatch (s : State) : State :=
  let cs := s.gridConds
  let s := s.set O.GRID_STATUS (ofBits cs)
  let s := if cs.any id then s.updChg fun g => { g with gridGood := false } else s
  if s.sys.dev = .run ∧ 2 ≤ s.phase then
    (gridCodes.zip cs).foldl (fun (s : State) e => if e.2 && !s.coll.cond e.1 then s.post e.1 else s) s
  else s

/-- The grid PLL at a boundary (R313, R314, R335); a new φ takes effect within DAB_PHI_STEP (R322). -/
def State.gridBoundary (s : State) (x : GridSample) : State :=
  let loss := Config.sqrt 2 * mkRat (s.get O.LOSS_LEVEL * s.get O.V_NOM) 10000
  let out := decide (x.freq < 10 * s.get O.F_MIN) || decide (10 * s.get O.F_MAX < x.freq)
  let err := if 1000 < x.phaseErr then s.chg.errRun + 1 else 0
  let step := mkRat (s.get O.DAB_PHI_STEP) 100
  let s := s.updChg fun g =>
    { g with theta := x.theta % 65536, vd := x.vd, vq := x.vq, errRun := err, lossRun := if x.vd < loss then g.lossRun + 1 else 0,
             freqFrom := if out then (match g.freqFrom with | some t => some t | none => some s.now) else none,
             phiAct := g.phiAct + clampQ (-step) step (g.phi - g.phiAct) }
  let s := ((s.set O.GRID_FREQ (O.GRID_FREQ.ty.fit x.freq)).setQ O.GRID_VD x.vd).set O.NEG_SEQ (O.NEG_SEQ.ty.fit x.negSeq)
  let s := if 2 ≤ err ∨ out = true then s.set O.PLL_STATE 0 else s
  (s.setQ O.DAB_PHI (100 * s.chg.phiAct)).gridWatch

/-- GRID_PLL_LOCK (R314): 200 ms within ±2° and the frequency range. -/
def pllLock (s : State) : State :=
  if s.charger && s.chg.errRun == 0 && s.chg.freqFrom.isNone then (s.set O.PLL_STATE 1).gridWatch else s

/-- GRID_OK_TIMER (R336): no condition has held for GRID_OK_TIME. -/
def gridOk (s : State) : State :=
  if !s.charger || s.gridConds.any id then s
  else
    let s := gridCodes.foldl (fun (s : State) f => s.leaveAll f) (s.updChg fun g => { g with gridGood := true })
    if s.phase = 1 then s.gridCheck else s

/-- GRID_CHECK_TIMEOUT: the grid fault present after 10 s of phase 1 (Table 8.7). -/
def gridTimeout (s : State) : State :=
  if s.phase = 1 then
    match (gridCodes.zip s.gridConds).find? fun e => e.2 with
    | some e => s.post e.1
    | none => s
  else s

def prechargeTimeout (s : State) : State := if s.phase = 2 then s.post .prechargeFail else s

/-- RLY_OVERLAP_EXPIRY: GRID_PRE opens after L1 is confirmed (Table 8.7, phase 3). -/
def overlapEnd (s : State) : State := if s.phase = 3 ∧ bit (s.get O.RLY_FB) 1 = true then s.relay 0 false else s

def rampDone (s : State) : State :=
  if s.phase ≠ 4 then s
  else if s.contactors then (s.toPhase 5).updChg fun g => { g with matchI := 0, phi := 0, phiAct := 0 } else s.converting

/-- The output lies within OUT_MATCH_TOL of V_BATT_HOST. -/
def State.matched (s : State) : Bool := decide (absQ (s.getQ O.V_OUT - s.getQ O.V_BATT_HOST) ≤ s.getQ O.OUT_MATCH_TOL)

def matchDone (s : State) : State := if s.phase = 5 ∧ s.matched = true then s.connectOut else s
def matchTimeout (s : State) : State := if s.phase = 5 then s.post .outMatchFail else s

/-- STOP_CURRENT_WAIT: 500 ms after the ramp ended (R333). -/
def stopWait (s : State) : State := if s.chg.stop = .waitCurrent then s.stopOpen else s

/-! ### Currents, output, DAB -/

/-- Line currents of the charger (R161, Table 8.1); a phase without a sensor takes the negative sum. -/
def State.lineCurrents (s : State) : State :=
  let s := (s.lateInputs 0).ilineChecks 0 none []
  let known := (List.range 3).filterMap fun x =>
    if s.get O.ILINE_AIN x ≠ 255 then some (x, mkRat (s.get O.I_LINE x) 1000) else none
  let total := sumQ (known.map fun e => e.2)
  let i := (List.range 3).map fun x => match known.lookup x with | some v => v | none => -total
  { s with fl := { s.fl with iPhase := s.fl.iPhase.mapIdx fun k v => if k < 3 then i.getD k v else v } }

/-- V_OUT, I_OUT and the primary currents of the period (Table 8.1), and the output faults (Table 8.10). -/
def State.outputUpdate (s : State) : State :=
  let at0 := fun (k : Nat) => (s.sense.smp.getD k []).find? fun q => q.inst == 0
  let s := match at0 5 with
    | some q =>
      let s := if q.vdcOk then s.setQ O.V_OUT q.volts else s
      if q.shOk then s.setQ O.I_OUT (q.ma / 1000) else s
    | none => s
  let s := match at0 3 with | some q => if q.shOk then s.setQ O.I_PRI (-q.ma / 1000) 0 else s | none => s
  let s := match at0 4 with | some q => if q.shOk then s.setQ O.I_PRI (-q.ma / 1000) 1 else s | none => s
  let v := s.getQ O.V_OUT
  let i := s.getQ O.I_OUT
  let on := s.sys.dev == .run && decide (4 ≤ s.phase)
  let tooMuch := on && decide (s.getQ O.V_OUT_MAX + s.getQ O.OUT_OV_MARGIN < v)
  let oc := on && decide (11 / 10 * s.getQ O.I_OUT_RATED < i)
  let rev := s.phase == 7 && decide (i < -(s.getQ O.I_OUT_RATED) / 20)
  let s := s.updChg fun g =>
    { g with ovRun := if tooMuch then g.ovRun + 1 else 0, ocRun := if oc then g.ocRun + 1 else 0,
             revFrom := if rev then (match g.revFrom with | some t => some t | none => some s.now) else none,
             matchFrom := if s.matched then (match g.matchFrom with | some t => some t | none => some s.now) else none }
  let s := if s.chg.ovRun = 2 then s.post .outOv else s
  let s := if s.chg.ocRun = 2 then s.post .outOc else s
  match s.chg.revFrom with
  | some t => if t + 10000 ≤ s.now ∧ !s.coll.cond .outReverse then s.post .outReverse else s
  | none => s

/-- 2π² f L of the DAB, Ω. -/
def State.dabZ (s : State) : Rat := 2 * Config.pi * Config.pi * s.get O.DAB_FREQ * mkRat (s.get O.L_DAB) 100000000

/-- Phase shift of the period (R323, Table 8.7 phase 5), degrees. -/
def State.dabPhi (s : State) : State :=
  let t := s.period / 1000000
  let vOut := s.getQ O.V_OUT
  let v2p := mkRat (s.get O.N_RATIO) 1000 * vOut / 2
  let deg := fun (r : Rat) => divQ (180 * r) Config.pi
  let top := mkRat (s.get O.DAB_PHI_MAX) 100
  if !s.chgSwitch || decide (s.phase < 5) then s.updChg fun g => { g with phi := 0 }
  else if s.phase = 5 ∨ s.phase = 6 then
    let e := s.getQ O.V_BATT_HOST - vOut
    let y := Config.matchPi (s.get O.CV_BW) e s.chg.matchI
    let lim := mkRat (s.get O.MATCH_PHI_MAX) 100
    s.updChg fun g => { g with matchI := g.matchI + e * t, phi := clampQ 0 lim y }
  else
    let ref := s.chg.iOutRef
    let rated := s.getQ O.I_OUT_RATED
    let limited := decide (s.chg.phi ≤ 0) || decide (top ≤ s.chg.phi)
    let xi := if limited then s.chg.xi else s.chg.xi + 2 * Config.pi * s.get O.DAB_I_BW * t * (ref - s.getQ O.I_OUT)
    let xi := clampQ (-(rated / 5)) (rated / 5) xi
    let p := divQ (vOut * (ref + xi)) (mkRat (s.get O.ETA_DAB) 1000)
    let a := divQ (p * s.dabZ) (s.fl.vdc.getD 0 0 * v2p)
    let pi2 := Config.pi * Config.pi
    let phi := deg (if 4 * a < pi2 then (Config.pi - Config.sqrt (pi2 - 4 * a)) / 2 else Config.pi / 2)
    let s := if top ≤ phi then s.note .dabPhiLimit else s
    s.updChg fun g => { g with xi := xi, phi := clampQ 0 top phi }

/-- FLE_START of the charger at t_S (R313..R317, R323). -/
def State.chargerLoop (s : State) : State :=
  let s := ((s.vdcUpdate 0).lineCurrents).outputUpdate
  let s := (if s.chgSwitch then s.fleCompute 0 else s.fleIdle 0)
  s.dabPhi.chgMeasures

/-! ### Outer loops -/

/-- P_AC_LIM (R320). -/
def State.pAcLim (s : State) : Rat := minQ (s.getQ O.P_GRID_MAX) (s.gridPhases * s.vRmsTop * s.getQ O.I_GRID_MAX * s.kDieOf 0)

/-- Bounds of Table 8.3 with their bits. -/
def State.outBounds (s : State) : List (Rat × Nat) :=
  let v := s.getQ O.V_OUT
  let eta := mkRat (s.get O.ETA_DAB) 1000
  let phi := Config.pi * mkRat (s.get O.DAB_PHI_MAX) 18000
  let cap := divQ (eta * s.fl.vdc.getD 0 0 * (mkRat (s.get O.N_RATIO) 1000 * v / 2) * phi * (Config.pi - phi)) s.dabZ
  [(maxQ 0 (s.getQ O.I_OUT_CMD), 0), (s.getQ O.I_OUT_MAX * s.kDieOf 6 * s.kTjChg, 1), (divQ (s.getQ O.P_OUT_MAX * s.kTemp) v, 2), (s.chg.cv, 3),
   (divQ (s.pAcLim * eta) v, 4), (divQ cap v, 7)]

/-- DC-link loop and grid references (R316, R318). -/
def State.dcLoop (s : State) (dt : Rat) : State :=
  let vdc := s.fl.vdc.getD 0 0
  let eff := s.vdcRefEff
  let ref := if s.phase = 4 then
      s.chg.rampRef + (eff - s.chg.rampRef) * clampQ 0 1 (divQ ((s.now - s.chg.rampFrom : Nat) : Rat) (1000 * s.get O.VDC_RAMP_T))
    else eff
  let e := mkRat (s.get O.C_DC) 1000000 / 2 * (ref * ref - vdc * vdc)
  let single := s.get O.GRID_MODE == 2
  let e := if single then Config.notch (2 * mkRat (s.get O.GRID_FREQ) 1000) e s.freeIx else e
  let s := if single then s.draw else s
  let wb := 2 * Config.pi * s.get O.VDC_BW
  let ff := divQ (s.getQ O.V_OUT * s.getQ O.I_OUT) (mkRat (s.get O.ETA_DAB) 1000)
  let p := ff + 2 * wb * e + s.chg.x
  let lim := s.pAcLim
  let (p, x) := if lim < p then (lim, s.chg.x) else if p < -lim / 10 then (-lim / 10, s.chg.x) else (p, s.chg.x + wb * wb * e * dt / 2)
  let k : Rat := if single then 1 / 2 else 3 / 2
  let vHat := s.chg.vd
  let id := divQ (-p) (k * vHat)
  let iq := divQ (-(s.getQ O.Q_CMD)) (k * vHat)
  let top := Config.sqrt 2 * s.getQ O.I_GRID_MAX * s.kDieOf 0
  let tooMuch := decide (top * top < id * id + iq * iq)
  let id' := if tooMuch then clampQ (-top) top id else id
  let room := Config.sqrt (top * top - id' * id')
  let iq' := if tooMuch then (if top ≤ absQ id then 0 else clampQ (-room) room iq) else iq
  let s := if tooMuch then s.note .gridILimit else s
  let l := s.get O.L_GRID
  let set : RefSet := ⟨id', iq', l, l, 0, l * id' / 1000000, l * iq' / 1000000⟩
  let s := s.updChg fun g => { g with x := x, idRef := id', iqRef := iq' }
  ((s.setQ O.P_AC_REF p).setQ O.VDC_REF_EFF eff).updMach 0 fun q => { q with pub := some set }

/-- Output reference of a step (R324..R326, R333). -/
def State.outLoop (s : State) (dt : Rat) : State :=
  let bounds := s.outBounds
  let least := bounds.foldl (fun a b => minQ a b.1) (bounds.headD (0, 0)).1
  let sag := s.getQ O.SAG_BAND
  let kSag := clampQ 0 1 (divQ (s.fl.vdc.getD 0 0 - s.vdcRefEff + 2 * sag) sag)
  let tgt := maxQ 0 (kSag * least)
  let step := s.getQ O.I_OUT_RAMP * dt
  let old := s.chg.iOutRef
  let ref := match s.chg.tmo with
    | some (i0, since) =>
      let left := 1 - divQ ((s.now - since : Nat) : Rat) (1000 * s.get O.TIMEOUT_RAMP)
      minQ tgt (if left ≤ 0 then 0 else i0 * left)
    | none => if s.chg.stop = .ramp then minQ tgt (maxQ 0 (old - step)) else minQ tgt (old + step)
  let cv := clampQ 0 (s.getQ O.I_OUT_MAX) (s.chg.cv + Config.cvRate (s.get O.CV_BW) (s.getQ O.V_OUT_MAX - s.getQ O.V_OUT) * dt)
  let kt := s.kTemp
  let dies := decide (s.kDieOf 0 < 1) || decide (s.kDieOf 6 < 1) || decide (s.kTjChg < 1)
  let lim := fun (n : Nat) => bounds.any fun b => b.2 == n && b.1 == least
  let top := mkRat (s.get O.DAB_PHI_MAX) 100
  let cause := ofBits [lim 0, lim 1, lim 2, lim 3, lim 4, decide (kt < 1), dies, lim 7 || decide (top ≤ s.chg.phi), decide (kSag < 1), s.chg.tmo.isSome]
  let s := (s.updChg fun g => { g with iOutRef := ref, cv := cv }).setQ O.I_OUT_REF ref
  let s := s.set O.CHG_LIMIT_CAUSE cause
  if ref = 0 ∧ s.chg.tmo.isSome then
    (s.updChg fun g => { g with tmo := none }).chargerStop.updChg fun g => { g with stop := if g.stop = .ramp then .waitCurrent else g.stop }
  else if ref = 0 ∧ s.chg.stop = .ramp then s.updChg fun g => { g with stop := .waitCurrent }
  else s

/-- OUTER_LOOP_STEP (R318..R325): commands received take effect first (R341). -/
def outerStep (s : State) : State :=
  if !s.charger then s
  else
    let s := s.takeProc.hostRelays
    let dt := s.solverDt
    let s := if s.chgSwitch then s.dcLoop dt else s.setQ O.VDC_REF_EFF s.vdcRefEff
    if s.phase == 7 || s.chg.stop == .ramp then s.outLoop dt else s

/-- A write of I_OUT_CMD restarts the command timer in CONVERT (R326). -/
def State.currentSeen (s : State) : State :=
  let s : State := { s.unnote .cmdTimeout with cmdT := { s.cmdT with timedOut := false } }
  if s.charger && s.sys.dev == .run && s.phase != 8 then
    { s with cmdT := s.timerRestart }.updChg fun g => { g with tmo := none }
  else s

/-- CMD_TIMEOUT (R281, R326). -/
def cmdTimeout (s : State) : State :=
  if !(s.cmdT.running && s.sys.dev == .run) then s
  else if s.charger then
    let s := ({ s with cmdT := ⟨false, s.cmdT.since, true, false⟩ }).note .cmdTimeout
    if s.phase = 7 then s.updChg fun g => { g with tmo := some (g.iOutRef, s.now) } else s.chargerStop
  else s.tractionTimeout

/-- RLY_CMD: host-owned relays act at once in the traction configurations, in CHARGER at the next outer-loop step (R327, R341). -/
def writeRly (v : Int) (id : ReqId) (s : State) : State :=
  let s := s.set O.RLY_CMD v
  (if s.charger then s else s.hostRelays).done id

/-! ### Grid meter -/

/-- METER_UPDATE of phase p at the end of its current unit's window (R338, R339). -/
def State.meterUpdate (s : State) (p : Nat) (x : IcuSample) : State :=
  let lsb := refVolts (s.get O.REF_SEL_ICU) / 1048576
  let code := fun (u : Nat) => ((s.getN O.ICU_MEAN (4 * u) % 2 ^ 20 : Nat) : Rat)
  let dv := code (2 * p) - 524288
  let di := code (2 * p + 1) - 524288
  let gv := s.getQ O.GRID_V_GAIN
  let gi := s.getQ O.GRID_I_GAIN
  let rms := fun (u : Nat) (d : Rat) => Config.sqrt (mkRat (s.get O.ICU_RMS u) 16 * mkRat (s.get O.ICU_RMS u) 16 - d * d)
  let v := gv * lsb * rms (2 * p) dv
  let i := gi * lsb * rms (2 * p + 1) di
  let pw := gv * gi * lsb * lsb * (256 * s.get O.ICU_PRODUCT (2 * p) - dv * di)
  let s := s.updChg fun g =>
    { g with vRms := g.vRms.set p v, iRms := g.iRms.set p i, pOut := g.pOut.set p pw, oV := g.oV.set p (dv * lsb),
             lowRun := g.lowRun.modify p fun n => if v < mkRat (s.get O.V_MIN) 10 then n + 1 else 0,
             highRun := g.highRun.modify p fun n => if mkRat (s.get O.V_MAX) 10 < v then n + 1 else 0 }
  let s := ((s.setQ O.GRID_V_RMS (100 * v) p).setQ O.GRID_I_RMS (100 * i) p).setQ O.GRID_P (-pw) p
  let s := if p + 1 = s.gridPhases then
      let n := s.gridPhases
      let grid := -sumQ (s.chg.pOut.take n)
      let va := sumQ ((List.range n).map fun k => s.chg.vRms.getD k 0 * s.chg.iRms.getD k 0)
      let mwh := grid * x.len / 36000000
      let s := s.updChg fun g => { g with energyIn := if 0 < grid then g.energyIn + mwh else g.energyIn, energyOut := if grid < 0 then g.energyOut - mwh else g.energyOut }
      let s := (s.setQ O.P_GRID grid).setQ O.PF (1000 * divQ grid va)
      (s.setQ O.ENERGY_IMPORT s.chg.energyIn).setQ O.ENERGY_EXPORT s.chg.energyOut
    else s
  s.gridWatch

/-- Marks of a held unit's window in METER_FLAGS (R338): they clear after a clean window. -/
def State.meterFlags (s : State) (u : Nat) : State :=
  let w := s.get O.ICU_MEAN (4 * u)
  s.set O.METER_FLAGS (ofBits [bit w 22, bit w 21, bit w 20])

/-- End of an ICU window with the meter's part (R177, R338). -/
def icuWindow (u : Fin 8) (x : IcuSample) (late : Bool) (s : State) : State :=
  let s := s.icuEnd u.val x late
  if s.charger ∧ u.val < 2 * s.gridPhases then
    let s := s.meterFlags u.val
    if u.val % 2 = 1 then s.meterUpdate (u.val / 2) x else s
  else s

/-- ENERGY_CLEAR = 1 (R339). -/
def energyZero (id : ReqId) (s : State) : State :=
  (((s.updChg fun g => { g with energyIn := 0, energyOut := 0 }).set O.ENERGY_IMPORT 0).set O.ENERGY_EXPORT 0).done id

/-! ### COMMIT -/

/-- DAB_FREQ is a whole multiple, 1..250, of the control rate (R321). -/
def dabOk (dab rate : Int) : Bool := decide (dab ≤ 500000) && dab * 1000 % rate == 0 && decide (1 ≤ dab * 1000 / rate) && decide (dab * 1000 / rate ≤ 250)

/-- Checks of the charger COMMIT (R312, R321, R341). -/
def chargerCheck (s : State) : Option Nat :=
  let chgd := s.staged.any fun e => inGroup (O.COMMIT_29FF.key 0) e.1 && (e.1 / 256 == 0x2900 || e.1 / 256 == 0x2904) && s.getKey e.1 != e.2
  let g := s.planned O.GRID_V_GROUP
  let n : Int := if s.planned O.GRID_MODE = 2 then 1 else 3
  if s.get O.CONFIG ≠ 2 then none
  else if s.sys.dev = .run ∧ chgd = true then some abortState
  else if s.get O.INJ_TRIGGER g.toNat ≠ 0 ∨ s.get O.INJ_COUNT g.toNat ≠ n then some abortValue
  else if !dabOk (s.planned O.DAB_FREQ) (s.get O.CTRL_RATE) then some abortValue else none

/-- The field-loop COMMIT in CHARGER also keeps DAB_FREQ a multiple of the control rate (R321). -/
def fieldCheckAll (s : State) : Option Nat :=
  match fieldCheck s with
  | some c => some c
  | none => if s.get O.CONFIG = 2 ∧ !dabOk (s.get O.DAB_FREQ) (controlRate (s.planned O.CARRIER_FREQ) (s.planned O.UPDATE_MODE)) then some abortValue else none

/-! ### The commands -/

def execGridPllLock (s : State) : Host.Outcome State Fault Refusal := .next (pllLock s)
def execOuterLoopStep (s : State) : Host.Outcome State Fault Refusal := .next (outerStep s)
def execIOutCmd (r : Req) (v : Word) (s : State) : Host.Outcome State Fault Refusal :=
  .next (s.writeReq r O.I_OUT_CMD 0 v.toNat fun id s => ((s.set O.I_OUT_CMD v.toNat).currentSeen).done id)
def execRlyCmd (r : Req) (v : Byte) (s : State) : Host.Outcome State Fault Refusal := .next (s.writeReq r O.RLY_CMD 0 v.toNat (writeRly v.toNat))
def execRelayFeedbackChange (k : Fin 8) (contact : Bool) (s : State) : Host.Outcome State Fault Refusal := .next (relayFeedback k contact s)
def execRelayCheckTimeout (k : Fin 8) (s : State) : Host.Outcome State Fault Refusal := .next (relayTimeout k s)
def execRelayDriverShort (k : Fin 8) (s : State) : Host.Outcome State Fault Refusal := .next (relayShort k s)
def execGridCheckTimeout (s : State) : Host.Outcome State Fault Refusal := .next (gridTimeout s)
def execPrechargeTimeout (s : State) : Host.Outcome State Fault Refusal := .next (prechargeTimeout s)
def execRlyOverlapExpiry (s : State) : Host.Outcome State Fault Refusal := .next (overlapEnd s)
def execDcRampDone (s : State) : Host.Outcome State Fault Refusal := .next (rampDone s)
def execOutMatchDone (s : State) : Host.Outcome State Fault Refusal := .next (matchDone s)
def execOutMatchTimeout (s : State) : Host.Outcome State Fault Refusal := .next (matchTimeout s)
def execStopCurrentWait (s : State) : Host.Outcome State Fault Refusal := .next (stopWait s)
def execBlockRelayOff (s : State) : Host.Outcome State Fault Refusal := .next (blockRelayOff s)
def execGridOkTimer (s : State) : Host.Outcome State Fault Refusal := .next (gridOk s)
def execEnergyClear (r : Req) (s : State) : Host.Outcome State Fault Refusal := .next (s.writeReq r O.ENERGY_CLEAR 0 1 energyZero)
def execChargerCommit (r : Req) (s : State) : Host.Outcome State Fault Refusal := .next (s.commit r O.COMMIT_29FF 0 chargerCheck).holdMeter
def execIcuWindowEnd (u : Fin 8) (sample : IcuSample) (s : State) : Host.Outcome State Fault Refusal := .next (icuWindow u sample false s)
def execIcuWindowTimeout (u : Fin 8) (sample : IcuSample) (s : State) : Host.Outcome State Fault Refusal := .next (icuWindow u sample true s)
def execCmdTimeout (s : State) : Host.Outcome State Fault Refusal := .next (cmdTimeout s)
def execFieldLoopCommit (r : Req) (s : State) : Host.Outcome State Fault Refusal :=
  .next (fieldHook s (s.commit r O.COMMIT_22FF 0 fieldCheckAll))

end Sys2Proof.Machine
end

