-- ==== Sys2Proof/Machine/Protection.lean ====
section
/-! DEFINITION. Main pairs, the Helmet's monitors, fast-fault codes, reports of faults that no other row finds, and reset edges (R17, R18, R42, R127, R342..R364). -/

namespace Sys2Proof.Machine

/-! ### Main pairs -/

def pairNum : MainPair → Nat
  | .m0 => 0 | .m1 => 1

def otherPair : MainPair → MainPair
  | .m0 => .m1 | .m1 => .m0

def State.pair (s : State) : MainPair → PairState
  | .m0 => s.sys.m0 | .m1 => s.sys.m1

def State.putPair (s : State) (p : MainPair) (x : PairState) : State :=
  match p with
  | .m0 => { s with sys := { s.sys with m0 := x } }
  | .m1 => { s with sys := { s.sys with m1 := x } }

/-- The part is powered and its control die out of reset. -/
def State.alive (s : State) : Bool := s.sup.vinUp && s.sup.hold.none && s.sup.asleep == 0 && s.sys.dev != .off

/-- Channels that need a catch before torque returns (R235, R343). -/
def State.flyingRestart (s : State) : State :=
  if s.sys.dev = .run ∧ s.traction = true then
    let again := fun (c : PosChan) => { c with start := StartPhase.again }
    { s with sys := { s.sys with flying := true }, pos := { s.pos with chans := s.pos.chans.map again } }
  else s

/-- The estimator state of M1 is lost with that pair (R235). -/
def State.estLost (s : State) (p : MainPair) : State :=
  if p = .m1 then
    let gone := fun (c : PosChan) => { c with est := false }
    { s with pos := { s.pos with chans := s.pos.chans.map gone } }
  else s

/-- The supervisor pair's DMA channels 9..15 stop with STATUS 5 (R413, R416); channels 0..8 keep running. -/
def State.stopPairDma (s : State) (p : MainPair) : State :=
  if p = s.sys.supervisor then [9, 10, 11, 12, 13, 14, 15].foldl (fun (s : State) c => s.dmaStop c 5) s else s

/-- The fault of a pair has left the collector: its reset is complete, or the other pair has taken over (Table 9.10). -/
def State.freePairFault (s : State) (p : MainPair) : State :=
  let mine := fun (x : Slot) => x.cls == 5 && (s.pair p).cause == some x.code
  let gone := s.coll.held.filter mine
  let other := (s.pair (otherPair p)).cause
  let gone := gone.filter fun x => other != some x.code
  let codes := gone.map fun x => x.code
  let s := { s with coll := { s.coll.clear (fun x => codes.contains x.code) with conds := s.coll.conds.filter fun c => !codes.contains c.1 } }
  gone.foldl (fun (s : State) x => s.record 2 5 x.code.num x.detail) s

/-- Pair that holds the supervisor role: M0 unless it is out of service (R17, R18). -/
def State.pickSupervisor (s : State) : State :=
  { s with sys := { s.sys with supervisor := if s.sys.m0.inReset || s.sys.m0.lost then .m1 else .m0 } }

/-- A pair is not restarted again (R42): Main pair takeover (Table 9.7). -/
def State.pairLost (s : State) (p : MainPair) : State :=
  let s := s.freePairFault p
  let s := s.putPair p { s.pair p with inReset := false, restarting := false, lost := true, cause := none }
  ((((s.pickSupervisor).degrade 0 .mainTakeover (pairNum p)).flyingRestart).settleDev)

/-- A CONVERT session ends when the permit is withdrawn (R334). -/
def State.convertEnds (s : State) : State :=
  if s.charger && s.sys.dev == .run then ((s.blockCharger).toDev .ready).gauntlet else s

/-- A fault that calls for a hot restart of a pair (R18, R42): the permit is withdrawn, the other pair supervises; at the limit, or during a restart, the pair is lost; with the other pair lost, the module holds its safe state. -/
def State.pairFault (s : State) (p : MainPair) (f : FaultCode) (detail : Nat) : State :=
  let x := s.pair p
  if !s.alive || x.lost || s.sys.lastPairLost then s
  else
    let s := s.stopPairDma p
    let s := if x.restarting then s.freePairFault p else s
    if (s.pair (otherPair p)).lost then
      let s := s.putPair p { x with inReset := true, restarting := false, cause := some f }
      (({ s with sys := { s.sys with lastPairLost := true } }.raise 5 f detail).convertEnds).gauntlet
    else
      let n := x.count + 1
      let s := s.putPair p { x with inReset := true, restarting := true, count := n, cause := some f }
      let s := (((s.estLost p).pickSupervisor).raise 5 f detail).convertEnds
      if x.restarting || decide (2 ≤ n) then s.pairLost p
      else (s.set O.RESET_CAUSE (setBit (s.get O.RESET_CAUSE) (8 + pairNum p) true)).gauntlet

/-- HOT_RESTART_DONE (Table 1.12): the pair resumes its functions, and M0 the supervisor role; a failed check loses the pair. -/
def restartDone (p : MainPair) (pass : Bool) (s : State) : State :=
  if !(s.pair p).restarting then s
  else if !pass then s.pairLost p
  else
    let s := s.freePairFault p
    let s := s.putPair p { s.pair p with inReset := false, restarting := false, cause := none }
    ((s.pickSupervisor).flyingRestart).settleDev

/-- HELMET_LOCKSTEP_ERROR (Table 1.7). -/
def hlmLock (s : State) : State := if s.alive && !s.hlm.stopped then (s.raise 5 .hlmLockstep 0).helmetStops else s

/-- HELMET_COUNT_CHECK: Main's reading of the step count every 1 ms (R361). -/
def countCheck (s : State) : State :=
  if !s.sys.dev.runs then s
  else if s.hlm.stepCount = s.hlm.mainSaw then (if s.coll.holds .hlmFault then s else s.raise 5 .hlmFault 0)
  else { s with hlm := { s.hlm with mainSaw := s.hlm.stepCount } }

/-! ### Safe-state evaluation -/

/-- Start or end of the 1 s in which the Helmet's choice lets the supplies of a kept STANDBY go (R452). -/
def State.releaseWatch (s : State) : State :=
  let idle := s.sup.keepSupplies && s.sys.dev == .standby && (s.hlm.choice == .freewheel || s.hlm.choice == .block)
  { s with sup := { s.sup with releaseFrom := if idle then (match s.sup.releaseFrom with | some t => some t | none => some s.now) else none } }

/-- SAFE_REQ_DIFF leaves once no safe state is in force (Table 9.10). -/
def State.reqDiff (s : State) : State := if s.safeAct = 0xFF then s.unnote .safeReqDiff else s

/-- HELMET_PRELOAD_EVAL, every 1 ms (R25, R353); the heartbeat of a Helmet that runs is seen again (R24; assumption 97). -/
def preloadEval (s : State) : State :=
  if !s.alive || s.hlm.stopped then s
  else
    let s := { s with hlm := { s.hlm with stepCount := s.hlm.stepCount + 1 },
                      isl := s.isl.map fun (i : Island) => { i with heartbeat := i.heartbeat || (i.live && s.hlm.heartbeat) } }
    ((((s.hlmEval).writePreload).gauntlet).releaseWatch).reqDiff

/-- ASC is established on a bridge: on two phases or more, every island of the on side applies its preload with its outputs confirmed on (R354). -/
def State.ascOn (s : State) (conf : BitVec 12) (b : Nat) : Bool :=
  let side := if s.hlm.choice = .ascHigh then 0 else 1
  let phase := fun (x : Nat) => (siblingsOf s.cfg (Fin.ofNat 12 (2 * x + 6 * b + side))).all fun n => (s.island n).safeApplied && conf.getLsbD n.val
  decide (2 ≤ ((List.range 3).filter phase).length)

/-- ASC_ESTABLISH_TIMEOUT (R354): FREEWHEEL replaces an ASC that is not established, and ASC_FAIL is raised. -/
def ascTimeout (conf : BitVec 12) (s : State) : State :=
  if !s.hlm.ascCheck || s.hlm.stopped then s
  else
    let s := { s with hlm := { s.hlm with ascCheck := false } }
    if !s.permitGone || !(s.hlm.choice == .ascLow || s.hlm.choice == .ascHigh) then s
    else match (List.range s.bridges).find? fun b => !s.ascOn conf b with
      | none => s
      | some b => (({ s with hlm := { s.hlm with ascGivenUp := true } }.hlmEval.writePreload).refreshIsl).raise 4 .ascFail b

/-- SAFETY_MAP_RELOAD (R363). -/
def mapReload (crcOk : Bool) (s : State) : State :=
  if !s.alive || s.hlm.stopped then s
  else if crcOk then (s.loadSafety).leaveAll .hlmMapFail
  else
    let s := { s with hlm := { s.hlm with mapsOk := false } }
    if s.coll.cond .hlmMapFail then s else s.post .hlmMapFail

/-! ### The monitoring step -/

/-- Periods of one Helmet step: the smallest N with a rate at or below 20 kHz (R355). -/
def State.hlmN (s : State) : Nat := max 1 ((s.get O.CTRL_RATE + 19999999) / 20000000).toNat

def State.hlmMach (s : State) (m : Nat) : HlmMachine := s.hlm.machines.getD m State.resetHlmMachine
def State.updHlm (s : State) (m : Nat) (f : HlmMachine → HlmMachine) : State :=
  { s with hlm := { s.hlm with machines := s.hlm.machines.modify m f } }

/-- Main's mailbox: unchanged for four control periods while Main holds the token (R361). -/
def State.mailCheck (s : State) : State :=
  let same := s.hlm.mailCount == s.hlm.mailSaw
  let n := if same && s.sys.tokenOn then s.hlm.mailStale + s.hlmN else 0
  let s := { s with hlm := { s.hlm with mailSaw := s.hlm.mailCount, mailStale := n } }
  if 4 ≤ n then { s with hlm := { s.hlm with mailStale := 0 } }.pairFault s.sys.supervisor .hlmMainSilent (pairNum s.sys.supervisor) else s

/-- The two VDC inputs of a link: since when they differ by more than 5 % of the larger, or, while that is reported, agree (R362, Table 9.10). -/
def State.vdcCompare (s : State) (l : Nat) : State :=
  match s.vdcReads l with
  | a :: b :: _ =>
    let apart := decide (maxQ a b / 20 < absQ (a - b))
    let told := (FaultCode.hlmVdcDisagree, l) ∈ s.coll.conds
    let since := if apart != told then (match s.hlm.vdcDiff.getD l none with | some t => some t | none => some s.now) else none
    let s := { s with hlm := { s.hlm with vdcDiff := s.hlm.vdcDiff.set l since } }
    match since with
    | none => s
    | some t =>
      if !told && decide (t + 10000 ≤ s.now) then { s with hlm := { s.hlm with vdcDiff := s.hlm.vdcDiff.set l none } }.post .hlmVdcDisagree l
      else if told && decide (t + 100000 ≤ s.now) then { s with hlm := { s.hlm with vdcDiff := s.hlm.vdcDiff.set l none } }.leave .hlmVdcDisagree l
      else s
  | _ => s

/-- Values seen within a time, newest first, with the last one before it, which was still in force. -/
def recent {α : Type} (time : α → Nat) (oldest : Nat) : List α → List α
  | [] => []
  | x :: l => if oldest ≤ time x then x :: recent time oldest l else [x]

/-- The allowed band of R357 with the bits CMD_ZERO, ASC_BRAKE_SEEN and SPEED_MODE. -/
structure HlmBand where
  hi : Rat
  lo : Rat
  zero : Bool

/-- The commands seen over ENV_HOLD (R357). -/
def State.hlmTrim (s : State) (m : Nat) : State :=
  let oldest := s.now - 1000 * s.getN O.ENV_HOLD
  s.updHlm m fun h => { h with cmds := recent (fun c => c.1) oldest h.cmds, lims := recent (fun c => c.1) oldest h.lims }

def State.hlmBand (s : State) (m : Nat) : HlmBand :=
  let h := s.hlmMach m
  let wait := 1000 * (s.getN O.CMD_TIMEOUT + s.getN O.TIMEOUT_RAMP)
  let zero := s.get O.CMD_TIMEOUT != 0 && (match h.lastCmd with | none => true | some t => decide (t + wait ≤ s.now))
  let ups := if h.speedMode then h.lims.map fun x => x.2.1 else h.cmds.map fun x => x.2
  let downs := if h.speedMode then h.lims.map fun x => x.2.2 else h.cmds.map fun x => x.2
  let cMax := if zero then 0 else ups.foldl maxQ (ups.headD 0)
  let cMin := if zero then 0 else downs.foldl minQ (downs.headD 0)
  let tol := maxQ (s.getQ O.TQ_TOL_ABS) (mkRat (s.get O.TQ_TOL_REL) 1000 * maxQ (absQ cMax) (absQ cMin))
  let wide := if h.brakeSeen then s.getQ O.ENV_ASC_TQ else 0
  ⟨maxQ 0 cMax + tol + (if h.nH < 0 then wide else 0), minQ 0 cMin - tol - (if 0 < h.nH then wide else 0), zero⟩

/-- Shunt-reconstructed currents of a bridge in the stator frame, A (R355). -/
def State.shuntVec (s : State) (b : Nat) : Rat × Rat :=
  let i := fun (x : Nat) => mkRat (s.get O.I_SHUNT (3 * b + x)) 1000
  clarke (i 0) (i 1) (i 2)

/-- Bridges whose currents make a machine's torque. -/
def State.torqueBridges (s : State) (m : Nat) : List Nat := if s.cfg = 1 ∧ s.get O.ARRANGEMENT = 1 then [0, 1] else [if s.cfg = 1 then m else 0]

/-- T_H of one step from the safety maps (R355). -/
def State.torqueH (s : State) (m : Nat) : Rat :=
  let th := radOf (s.get O.THETA_DIVERSE m)
  sumQ ((s.torqueBridges m).map fun b =>
    let (id, iq) := park (s.shuntVec b) th
    match s.mapSet with
    | none => 0
    | some ms =>
      let p : OpPoint := ⟨0, 0, 0, none, id, iq⟩
      3 / 2 * s.get O.POLE_PAIRS m * ((ms.look 11 m p).1 * iq - (ms.look 12 m p).1 * id))

/-- T_H of the step: a period of method 0 reuses the last one once (R355); in a further one the value is open (assumption 7). -/
def State.stepTorque (s : State) (m : Nat) : State :=
  let h := s.hlmMach m
  let none0 := (s.torqueBridges m).any fun b => s.get O.SHUNT_METHOD b == 0
  if !none0 then s.updHlm m fun h => { h with th := s.torqueH m, thReused := false }
  else if !h.thReused then s.updHlm m fun h => { h with thReused := true }
  else (s.updHlm m fun h => { h with th := Config.freeRat s.freeIx }).draw

/-- Speed of the step before its filter, rpm (R359, R360). -/
def State.stepSpeed (s : State) (m : Nat) (dt : Rat) (magOnly : Bool) : Rat :=
  if !magOnly then mkRat (s.get O.SPEED_DIVERSE m) 10
  else
    let v := s.shuntVec ((s.torqueBridges m).headD 0)
    let w := (s.hlmMach m).iVec
    if 100 ≤ v.1 * v.1 + v.2 * v.2 then
      let d := Config.atan2 (w.1 * v.2 - w.2 * v.1) (w.1 * v.1 + w.2 * v.2)
      divQ (60 * 1000000 * d) (2 * Config.pi * dt * s.get O.POLE_PAIRS m)
    else mkRat (s.get O.SPEED m) 10

/-- Speed monitor (R359), in every state. -/
def State.speedMonitor (s : State) (m : Nat) (dt : Rat) (magOnly : Bool) : State :=
  let x := s.stepSpeed m dt magOnly
  let a := 1 - Config.exp (divQ (-dt) (1000 * s.get O.N_FILT_H))
  let v := s.shuntVec ((s.torqueBridges m).headD 0)
  let s := s.updHlm m fun h => { h with nH := h.nH + (x - h.nH) * a, iVec := v }
  let n := (s.hlmMach m).nH
  let lim := minQ (s.getQ O.N_MAX_SAFE) (divQ 180000 (s.get O.POLE_PAIRS m))
  let tooMuch := decide (lim < absQ n)
  let since := if tooMuch then (match (s.hlmMach m).overFrom with | some t => some t | none => some s.now) else none
  let s := (s.updHlm m fun h => { h with overFrom := since }).setQ O.N_HELMET (10 * n) m
  match since with
  | some t => if t + 1000 * s.getN O.N_FILT_H ≤ s.now ∧ (FaultCode.hlmOverspeed, m) ∉ s.coll.conds then s.post .hlmOverspeed m else s
  | none => s.leave .hlmOverspeed m

/-- Torque monitor (R355, R357, R358, R360): in DRIVE with the permit, paused while islands hold a safe state. -/
def State.torqueMonitor (s : State) (m : Nat) (dt : Rat) (magOnly : Bool) : State :=
  let s := s.hlmTrim m
  let mon := s.hlmMaps && s.sys.dev == .run && s.hlm.permit && s.isl.all (fun i => !i.safeApplied)
  let s := if magOnly || !s.hlmMaps then s else s.stepTorque m
  let band := s.hlmBand m
  let h := s.hlmMach m
  let v := s.shuntVec ((s.torqueBridges m).headD 0)
  let mag := Config.magTorque (match s.mapSet with | some ms => ms.setId.toNat | none => 0) m (Config.sqrt (v.1 * v.1 + v.2 * v.2))
  let out := if magOnly then decide (maxQ (absQ band.hi) (absQ band.lo) < mag) else decide (band.hi < h.th) || decide (h.th < band.lo)
  let acc := if !mon then 0 else if out then h.errAcc + dt else maxQ 0 (h.errAcc - dt / 4)
  let bits := ofBits [mon, false, mon && out, h.speedMode, h.brakeSeen, band.zero, magOnly]
  let s := s.updHlm m fun h => { h with errAcc := acc }
  let s := ((s.setQ O.T_HELMET h.th m).setQ O.T_BAND_HI band.hi m).setQ O.T_BAND_LO band.lo m
  let s := (s.setQ O.TQ_ERR_ACC (acc / 100) m).set O.HLM_STATUS bits m
  if mon && decide ((1000 * s.get O.TQ_FILT : Rat) ≤ acc) then s.post .hlmTorque m else s

/-- HELMET_STEP (R355..R362); in CHARGER only the DC-link checks of R354 run, within the evaluation. -/
def helmetStep (m : Fin 2) (mapCrcOk : Bool) (s : State) : State :=
  if !s.sys.dev.runs || s.hlm.stopped then s
  else
    let s := { s with hlm := { s.hlm with stepCount := s.hlm.stepCount + 1 } }
    let s := if s.forcedNow && !s.hlm.forcedAsc then ((s.hlmEval).writePreload).refreshIsl else s
    if m.val ∉ s.machines then s
    else
      let dt := s.hlmN * s.period
      let s := if mapCrcOk || !s.hlm.mapsOk then s else mapReload false s
      let magOnly := !bit (s.get O.POS_STATUS m.val) 9
      let s := s.noteIf magOnly .hlmDiverseNone m.val
      let s := (List.range s.links).foldl (fun (s : State) l => s.vdcCompare l) s
      ((s.speedMonitor m.val dt magOnly).torqueMonitor m.val dt magOnly).mailCheck

/-! ### Fast-fault codes -/

/-- The clamp of a bridge is commanded on (R365). -/
def State.clampOn (s : State) (b : Nat) : State :=
  if (s.clamps.getD b State.resetClamp).on then s
  else
    let on := fun (c : Clamp) => { c with on := true, marks := [] }
    { s with clamps := s.clamps.modify b on }.bump O.CLAMP_ON_COUNT

/-- FAST_FAULT_CODE: the control die's fault logic acts, and acknowledges in a CMD frame (R126, R127, R365, R91). -/
def fastFault (n : IslIx) (code : BitVec 4) (s : State) : State :=
  if !s.alive || !(s.island n).live then s
  else
    let s := s.updIsl n (Island.pushDown 0x1#4)
    let b := bridgeOf s.cfg n
    let runs := s.sys.dev.runs
    let rep := fun (f : FaultCode) (s : State) => if runs then s.post f n.val else s
    match code.toNat with
    | 1 => s.send ((siblingsOf s.cfg n).map fun p => Sent.symbol p 0b100#3)
    | 2 => rep .islGateStuck s
    | 3 => rep .islUvlo s
    | 4 => rep .shootConflict s
    | 5 => if n.low && s.islandsReady then (s.clampOn b).note .dcOv1 b else s
    | 6 =>
      let conv := s.charger && decide (4 ≤ s.phase) && decide (s.phase ≤ 7)
      if n.low && s.sys.dev == .run && (s.traction || conv) then s.post .dcUv b else s
    | 7 => rep .islIlkTmo s
    | 8 => rep .islIlkLost s
    | 9 => rep .islEdgeLost s
    | 10 => thermalTrip s
    | 15 => s.updIsl n fun i => { i with testSeen := true }
    | _ => s

/-! ### Faults that no other row finds -/

/-- Evaluator of a demand code. -/
def demandOf : FaultCode → Option Nat
  | .siEoffDemand => some 0
  | .siHvilDemand => some 1
  | .siCoverDemand => some 2
  | .siAuxDemand => some 3
  | _ => none

/-- A demand code is posted (R389): class by RESTART; an EOFF demand starts a discharge with DISCH_ON_EOFF (R368). -/
def State.postDemand (s : State) (e : Nat) (f : FaultCode) : State :=
  let s := s.bump O.DEMAND_COUNT e
  let eoff := e == 0 && s.getB O.DISCH_ON_EOFF
  let s := if eoff then { s with disch := { s.disch with wanted := true } } else s
  let s := s.raise (if s.getB O.RESTART e then 4 else 3) f e
  if eoff && s.disch.wanted then
    let s := { s with disch := { s.disch with wanted := false } }
    if s.sys.dev = .safeHold ∨ s.sys.dev = .faultLatched then s.dischBegin else s
  else s

/-- FAULT_POST: each code as the rule that owns it acts (R346, Table 9.3). -/
def faultPost (f : FaultCode) (d : Nat) (s : State) : State :=
  if !s.alive then s
  else match f with
    | .hlmLockstep => hlmLock s
    | .safeRailFail => railOut .vsafe s
    | .safeClockFail => s.raise 5 .safeClockFail d
    | .thermalShutdown => thermalTrip s
    | .mainLockstep => s.pairFault (if d = 1 then .m1 else .m0) f d
    | _ =>
      if !s.sys.dev.runs then s
      else match f with
        | .hlmMainSilent => s.pairFault s.sys.supervisor f d
        | .mpuViolation => s.pairFault s.sys.supervisor f d
        | .hlmFault => s.raise 5 f d
        | .railFail => s.resetFault f d 5
        | .pllUnlock => s.resetFault f d 4
        | .clockMismatch => s.resetFault f d 4
        | .xtalFail => s.resetFault f d 4
        | .fleMismatch => s.fleFault false d
        | .fleSingle => s.degrade 1 f d
        | .mainTakeover => s.degrade 0 f d
        | .islOnBootstrap => s.degrade 6 f d
        | .islDieIsolated => s.degrade 7 f d
        | .canTakeover => s.degrade 8 f d
        | .obsLost => s.degrade 3 f d
        | .snsIlineLost => s.ilineLoss (d % 6)
        | .rotorLost => s.rotorLost (d / 256 % 2)
        | .vinUv => vinLow s
        | .vddioFail => vddioOut s
        | .collectorOverflow => ({ s with coll := { s.coll with overflow := true } }.settleDev).record 1 4 f.num d
        | .encFail => s.sensorFailed 1 f
        | .hallFail => s.sensorFailed 2 f
        | .siEoffDemand => s.postDemand 0 f
        | .siHvilDemand => s.postDemand 1 f
        | .siCoverDemand => s.postDemand 2 f
        | .siAuxDemand => s.postDemand 3 f
        | _ => s.post f d

/-- FAULT_LEAVE: a leaving condition of the owner's table holds. Codes that leave only at a start-up, with a restart or on RESET_N are not left by it. -/
def faultLeave (f : FaultCode) (d : Nat) (s : State) : State :=
  if f = .vinUv then vinBack d s
  else if !s.sys.dev.runs then s
  else match f.leave with
    | .nextStart => s
    | .restart => s
    | .pair => s
    | .external => s
    | _ => match f with
      | .vddioFail => vddioBack s
      | .spanRingOpen =>
        let x := s.net.ports.getD (d % 2) State.resetPort
        if x.up && !x.quarantined && decide (100000 ≤ s.elapsed x.upFrom) then s.leave f d else s
      | .sramCe => s.leaveAll f
      | .sramUe => s.leaveAll f
      | .nvCe => s.leaveAll f
      | .nvUe => s.leaveAll f
      | .trngFail => { s with sec := { s.sec with trngBad := false } }.leave f d
      | .obsLost => s.undegrade 3 f d
      | .islOnBootstrap => s.undegrade 6 f d
      | .islDieIsolated => s.undegrade 7 f d
      | _ => s.leave f d

/-! ### Reset edges -/

/-- Codes of Table 10.6, which only SAFE_RST clears (R391). -/
def onlySafeRst : FaultCode → Bool
  | .siEoffDemand | .siHvilDemand | .siCoverDemand | .siAuxDemand | .siDiscrepancy | .siTestFail => true
  | _ => false

/-- The leaving condition of a held C4 fault holds at an edge (R344, Tables 9.10, 10.6). -/
def State.edgeClears (s : State) (fromRst : Bool) (x : Slot) : Bool :=
  x.cls == 4 && (fromRst || !onlySafeRst x.code) &&
  (match x.code with
    | .clampFail => s.clampLevelOk
    | .dcOv2 => s.clampLevelOk
    | f => f.leave == .edge || !s.coll.cond f)

/-- An evaluator whose demand persists keeps its code held (R392). -/
def State.persisting (s : State) : Bool :=
  s.coll.held.any fun x => match demandOf x.code with
    | some e => (s.si.evs.getD e State.resetEvaluator).posted
    | none => false

/-- A reset edge (R344): from SAFE_RST, or from the fault-reset bit of the control word. -/
def State.resetEdge (s : State) (fromRst : Bool) : State :=
  let gone := s.coll.held.filter (s.edgeClears fromRst)
  let codes := gone.map fun x => x.code
  let persist := fromRst && s.persisting
  let tooMuch := s.coll.overflow
  let coll := { s.coll.clear (fun x => x.cls == 4 && codes.contains x.code) with
                  conds := s.coll.conds.filter fun c => !codes.contains c.1, overflow := false }
  let clampBack := fun (c : Clamp) => if codes.contains FaultCode.clampFail then { c with failed := false } else c
  let s := { s with coll := coll, clamps := s.clamps.map clampBack }.bump O.RESET_EDGES
  let s := gone.foldl (fun (s : State) x => s.record 4 4 x.code.num x.detail) s
  let s := if tooMuch then s.record 4 4 FaultCode.collectorOverflow.num 0 else s
  let r : Nat := if persist then 2 else if s.coll.held.any (fun x => x.cls == 4) then 1 else 0
  ((s.set O.RESET_RESULT r).record 4 0 0 r).settleDev

/-- RESET_HELD_TIMEOUT: a level held for longer than 3 s (R344, R391). -/
def resetHeld (src : ResetSrc) (s : State) : State :=
  if s.sys.dev.runs then s.note .resetHeld (match src with | .safeRst => 0 | .controlWord => 1) else s

/-! ### The commands -/

def execMainLockstepError (p : MainPair) (s : State) : Host.Outcome State Fault Refusal := .next (s.pairFault p .mainLockstep (pairNum p))
def execHotRestartDone (p : MainPair) (pass : Bool) (s : State) : Host.Outcome State Fault Refusal := .next (restartDone p pass s)
def execHelmetLockstepError (s : State) : Host.Outcome State Fault Refusal := .next (hlmLock s)
def execHelmetCountCheck (s : State) : Host.Outcome State Fault Refusal := .next (countCheck s)
def execHelmetPreloadEval (s : State) : Host.Outcome State Fault Refusal := .next (preloadEval s)
def execAscEstablishTimeout (onConfirmed : BitVec 12) (s : State) : Host.Outcome State Fault Refusal := .next (ascTimeout onConfirmed s)
def execSafetyMapReload (crcOk : Bool) (s : State) : Host.Outcome State Fault Refusal := .next (mapReload crcOk s)
def execHelmetStep (m : Fin 2) (mapCrcOk : Bool) (s : State) : Host.Outcome State Fault Refusal := .next (helmetStep m mapCrcOk s)
def execFastFaultCode (n : IslIx) (code : BitVec 4) (s : State) : Host.Outcome State Fault Refusal := .next (fastFault n code s)
def execFaultPost (code : FaultCode) (detail : Nat) (s : State) : Host.Outcome State Fault Refusal := .next (faultPost code detail s)
def execFaultLeave (code : FaultCode) (detail : Nat) (s : State) : Host.Outcome State Fault Refusal := .next (faultLeave code detail s)
def execResetHeldTimeout (src : ResetSrc) (s : State) : Host.Outcome State Fault Refusal := .next (resetHeld src s)

end Sys2Proof.Machine
end

