-- ==== Sys2Proof/Machine/Discharge.lean ====
section
/-! DEFINITION. The clamp at a MARK, active discharge, the event log and the protection group (R365..R371, R376, R377, R379). -/

namespace Sys2Proof.Machine

/-! ### Clamp -/

def State.clamp (s : State) (b : Nat) : Clamp := s.clamps.getD b State.resetClamp
def State.updClamp (s : State) (b : Nat) (f : Clamp → Clamp) : State := { s with clamps := s.clamps.modify b f }

/-- A clamp is declared on an odd island of the bridge (R365). -/
def State.clampFitted (s : State) (b : Nat) : Bool := lowIslands.any fun n => bridgeOf s.cfg n == b && s.funcDecl n 2

/-- Post a C4 fault whose condition with this detail is not yet reported. -/
def State.postOnce (s : State) (f : FaultCode) (detail : Nat) : State := if (f, detail) ∈ s.coll.conds then s else s.post f detail

/-- The latest MARK of the window at least CLAMP_CHECK_T before now; marks stand newest first. -/
def refMark (now t : Nat) (l : List (Nat × Rat)) : Option (Nat × Rat) := l.find? fun m => decide (m.1 + t ≤ now)

/-- One MARK of an open check window: the sliding comparison of R366. -/
def State.clampCheck (s : State) (b : Nat) (v : Rat) : State :=
  let t := s.getN O.CLAMP_CHECK_T
  let rising := match refMark s.now t (s.clamp b).marks with
    | none => false
    | some m => decide (s.getQ O.CLAMP_RISE_MAX / 10 * mkRat (s.now - m.1 : Nat) 1000 < v - m.2)
  let old := (s.clamp b).marks.find? fun m => decide (m.1 + t ≤ s.now)
  let keep := (s.clamp b).marks.filter fun m => decide (s.now < m.1 + t)
  let s := s.updClamp b fun c => { c with rising := rising, failed := c.failed || rising, marks := (s.now, v) :: (keep ++ old.toList) }
  if rising then s.postOnce .clampFail b else s

/-- The clamp command of a bridge at a MARK (R365) with its checks (R366); after CLAMP_FAIL it stays on while V_DC ≥ CLAMP_OFF. -/
def State.clampMark (s : State) (b : Nat) : State :=
  if !s.islandsReady then s.updClamp b fun c => { c with on := false, rising := false, marks := [] }
  else
    let v := s.fl.vdc.getD b 0
    let lo := s.getQ O.CLAMP_OFF / 10
    let c := s.clamp b
    let s := if s.getQ O.CLAMP_ON / 10 ≤ v then (if c.on then s.clampCheck b v else s.clampOn b)
      else if v ≤ lo ∧ ¬ (c.failed = true ∧ v = lo) then s.updClamp b fun c => { c with on := false, rising := false, marks := [] }
      else if c.on then s.clampCheck b v else s
    let s := if v ≤ lo then s.unnote .dcOv1 b else s
    if s.getQ O.OV2 / 10 ≤ v then
      if s.clampFitted b then (s.updClamp b fun c => { c with failed := true }).postOnce .clampFail b else s.postOnce .dcOv2 b
    else s

/-! ### Active discharge -/

/-- A discharge ends: 0 stopped, 4 passed, 5 failed, which leads to FAULT_LATCHED (R368, R371, R451, Table 12.9). -/
def State.dischEnd (s : State) (r : Nat) : State :=
  if !s.disch.running then s
  else
    let ms := (s.now - s.disch.startAt) / 1000
    let s := { s with disch := State.resetDisch }
    let s := ((s.set O.DISCH_STATE r).set O.DISCH_TIME (O.DISCH_TIME.ty.fit ms)).record 8 0 0 r
    if r = 5 then s.post .dischFail
    else if s.sys.dev ≠ .discharge then s.settleDev
    else if s.sys.back = .standby then ((s.islandsOff.toDev .standby).levelActs).gauntlet
    else ((s.toDev .ready).levelActs).gauntlet

/-- Every link at or below DISCH_TARGET: the discharge passes (R371). -/
def State.dischPass (s : State) : State :=
  if s.disch.running && (s.disch.clampOn || s.disch.windings) && decide (s.dischV ≤ s.getQ O.DISCH_TARGET / 10) then s.dischEnd 4 else s

/-- The windings path has become excluded (R369): the clamp path goes on alone, or the discharge has failed. -/
def State.dischWatch (s : State) : State :=
  let d := s.disch
  if !d.windings || s.windingsOk then s
  else if d.clampOn then ({ s with disch := { d with windings := false } }.set O.DISCH_STATE 2).gauntlet
  else if d.clampBad then s.dischEnd 5
  else ({ s with disch := { d with windings := false, clampOn := true, v0 := s.dischV, pathAt := s.now } }.set O.DISCH_STATE 2).gauntlet

/-- The windings path needs a valid main angle: without one, the standstill start runs first (R370, R225). -/
def State.dischAngles (s : State) : State :=
  if s.disch.windings && s.sys.dev == .discharge then
    s.machines.foldl (fun (s : State) m =>
      if (s.chan m).start == .none && !bit (s.get O.POS_STATUS m) 0 then (s.startAngle m).getD s else s) s
  else s

/-- Start a discharge (R368), by DISCH_CMD = 1 or by DISCH_REQ. -/
def startDisch (id : ReqId) (s : State) : State :=
  let requested := match s.mem.test with | some x => x.onRequest | none => false
  if s.disch.running then s.refuse id abortState
  else match s.sys.dev with
    | .standby => if s.readyAllowed && !requested then s.dischBegin.done id else s.refuse id abortState
    | .ready | .safeHold | .faultLatched => s.dischBegin.done id
    | _ => s.refuse id abortState

/-- DISCH_CMD = 2. -/
def stopDisch (id : ReqId) (s : State) : State := (s.dischEnd 0).done id

/-- The clamp path has failed: a fall of V_DC below half of V0 × (1 − e^(−0.2 s/τ)) (R370). -/
def State.clampPathBad (s : State) : Bool :=
  let tau := s.getQ O.CLAMP_R * s.getQ O.DISCH_C / 1000000
  decide (s.disch.v0 - s.dischV < s.disch.v0 * (1 - Config.exp (divQ (-1 / 5) tau)) / 2)

/-- The windings path has failed: a fall of V_DC² below half of the expected one (R370), with E = ½ C V². -/
def State.windingsPathBad (s : State) : Bool :=
  let p := 3 / 2 * s.getQ O.R_S * s.getQ O.DISCH_I * s.getQ O.DISCH_I
  let v := s.dischV
  decide (s.disch.v0 * s.disch.v0 - v * v < divQ (2 * p / 5) (s.getQ O.DISCH_C / 1000000) / 2)

/-- DISCH_PATH_CHECK: 200 ms into a path (R370, R371). DISCH_PATH 2 goes over to the windings when the clamp has failed. -/
def dischCheck (s : State) : State :=
  let d := s.disch
  if !d.running || s.get O.DISCH_STATE == 1 then s
  else
    let cBad := d.clampOn && s.clampPathBad
    let wBad := d.windings && s.windingsPathBad
    let next := cBad && s.get O.DISCH_PATH == 2 && s.windingsOk && !d.windingsBad
    let f := fun (x : Disch) => { x with clampOn := x.clampOn && !cBad, clampBad := x.clampBad || cBad, windings := (x.windings && !wBad) || next,
                                         windingsBad := x.windingsBad || wBad }
    let s := { s with disch := f d }
    if next then (({ s with disch := { s.disch with v0 := s.dischV, pathAt := s.now } }.set O.DISCH_STATE 3).dischAngles).gauntlet
    else if s.disch.clampOn || s.disch.windings then s.gauntlet
    else s.dischEnd 5

/-- DISCH_TIMEOUT: DISCH_T_MAX from the request (R371). -/
def dischTimeout (s : State) : State := s.dischEnd 5

/-! ### Event log -/

/-- LOG_WRITE: the oldest record waiting is written, or cannot be (R376, R377); a full region loses its oldest sector. -/
def logWrite (ok : Bool) (s : State) : State :=
  match s.log.waiting with
  | [] => s
  | r :: rest =>
    let s := { s with log := { s.log with waiting := rest } }
    if !ok then s.note .logWriteFail
    else
      let old := if 262144 ≤ s.log.records.length then s.log.records.drop 2048 else s.log.records
      { s with log := { s.log with records := old ++ [r] } }.unnote .logWriteFail

/-- LOG_CLEAR erases the region; SEQ continues (R377). -/
def logClear (id : ReqId) (s : State) : State := { s with log := { s.log with records := [] } }.done id

/-! ### The protection group -/

/-- Checks of the protection COMMIT (R363, R367, Table 9.11). -/
def protectionCheck (s : State) : Option Nat :=
  let on := s.planned O.CLAMP_ON
  let ov2 := s.planned O.OV2
  let win := lowIslands.any fun n =>
    s.funcDecl n 1 && !(decide (on < s.get O.DCW_HIGH (n.val / 2)) && decide (s.get O.DCW_HIGH (n.val / 2) < ov2))
  if s.planned O.CLAMP_OFF < on ∧ on < ov2 ∧ win = false ∧ s.planned O.SS_N_FW < s.planned O.SS_N_ASC then none else some abortValue

/-! ### The commands -/

def execDischStart (r : Req) (s : State) : Host.Outcome State Fault Refusal := .next (s.writeReq r O.DISCH_CMD 0 1 startDisch)
def execDischStop (r : Req) (s : State) : Host.Outcome State Fault Refusal := .next (s.writeReq r O.DISCH_CMD 0 2 stopDisch)
def execDischPathCheck (s : State) : Host.Outcome State Fault Refusal := .next (dischCheck s)
def execDischTimeout (s : State) : Host.Outcome State Fault Refusal := .next (dischTimeout s)
def execLogWrite (ok : Bool) (s : State) : Host.Outcome State Fault Refusal := .next (logWrite ok s)
def execLogClear (r : Req) (s : State) : Host.Outcome State Fault Refusal := .next (s.writeReq r O.LOG_CLEAR 0 1 logClear)
/-- The Helmet's copy is checked with a CRC (R363). -/
def execProtectionCommit (r : Req) (crcOk : Bool) (s : State) : Host.Outcome State Fault Refusal :=
  .next (s.commit r O.COMMIT_27FF 0 fun s => match protectionCheck s with
    | some c => some c
    | none => if crcOk then none else some abortHardware)

end Sys2Proof.Machine
end

