-- ==== Sys2Proof/Machine/Control.lean ====
section
/-! DEFINITION. The control word (R448..R450, Table 12.9) and the end of the verification of the active bank (R291). -/

namespace Sys2Proof.Machine

/-! ### Conditions -/

/-- The active set is verified or being verified (R283, R291). -/
def State.mapsRefuse (s : State) : Bool := s.nv.activeBank.isNone || s.coll.cond .mapActiveInvalid

/-- READY to RUN refused (Table 12.9): R193, R388, the life cycle (R497), a worker that is not LOCKED (R488), then R204 with R283 and R291, or R331. -/
def State.runRefusal (s : State) : Option Nat :=
  if s.sys.dev ≠ .ready ∨ s.otp.lc = 4 ∨ s.siStartup = true ∨ s.cmpHolds = true then some abortState
  else if s.worker && s.get O.SYNC_STATE != 2 then some abortState
  else if s.charger then s.chargerRefusal
  else if s.mapsRefuse || s.machines.any fun m => (s.startAngle m).isNone then some abortState
  else none

/-- Enter RUN (Table 12.9): DRIVE with its start angles and command timer (R204, R281), or CONVERT (R331). -/
def State.enterRun (s : State) : State :=
  let s := { s with sys := { s.sys with runPending := false } }
  if s.charger then ((s.toDev .run).chargerStart).gauntlet
  else
    let s := s.machines.foldl (fun (s : State) m => (s.startAngle m).getD s) s
    { s.noRamp.toDev .run with cmdT := s.timerRestart }.gauntlet

/-- A RUN_REQ edge acts (R449): held while the active bank is verified (R291). -/
def State.requestRun (s : State) : State :=
  if s.fl.verifying && s.traction then { s with sys := { s.sys with runPending := true } } else s.enterRun

/-- RUN_REQ = 0 in RUN (Table 12.9): the ramp and wait of R281 without CMD_TIMEOUT (assumption 89), or R333. -/
def State.leaveRun (s : State) : State :=
  if s.charger then s.chargerStop
  else if s.fl.mach.any fun (q : Solver) => q.ramp.isSome then s
  else
    let go := fun (q : Solver) =>
      { q with ramp := some (q.x, s.now),
               brake := match q.brake with | .off => .off | _ => .spent }
    { s with cmdT := ⟨false, s.cmdT.since, false, false⟩, fl := { s.fl with mach := s.fl.mach.map go } }

/-- STANDBY may be left: no test on request runs (R425). -/
def State.mayLeave (s : State) : Bool := !s.requested && s.sup.entering.isNone

/-! ### Evaluation of a write (R449) -/

/-- Bit i of the written word is 1 while the value in force holds 0 (R448). -/
def State.ctlEdge (s : State) (w : Half) (i : Nat) : Bool := w.getLsbD i && !s.ctrlBit i

/-- The write is the reset command: RESET_CMD with the key (R449, step 1). -/
def resetWrite (w : Half) : Bool := w.getLsbD 6 && w.toNat / 256 == 0x5A

/-- Step 2 of R449 fails. -/
def ctlInconsistent (w : Half) : Bool :=
  (w.getLsbD 4 && (w.getLsbD 0 || w.getLsbD 1)) || (w.getLsbD 1 && !w.getLsbD 0) ||
  (w.getLsbD 5 && (w.getLsbD 0 || w.getLsbD 1 || w.getLsbD 4))

/-- Refusal of READY_REQ, DISCH_REQ, SERVICE_REQ and SLEEP_REQ (R449, step 3, with Table 12.9). -/
def State.ctlTransition (s : State) (lvl : Lvl) (w : Half) : Option Nat :=
  let sb := s.sys.dev == .standby
  let disch := match s.sys.dev with
    | .standby => s.readyAllowed && s.mayLeave
    | .ready | .safeHold | .faultLatched => true
    | _ => false
  if s.ctlEdge w 0 && sb && !(s.readyAllowed && s.mayLeave) then some abortState
  else if s.ctlEdge w 3 && (s.disch.running || !disch) then some abortState
  else if s.ctlEdge w 4 && sb && decide (lvl.num < Lvl.srv.num) then some abortLevel
  else if s.ctlEdge w 4 && sb && !s.mayLeave then some abortState
  else if s.ctlEdge w 5 && (!sb || decide (s.now < s.pins.wakeUntil) || s.fl.saving.isSome || !s.mayLeave) then some abortState
  else none

/-- Abort code of a write of CONTROL_WORD, none when it is accepted (R449). -/
def State.ctlRefusal (s : State) (lvl : Lvl) (w : Half) : Option Nat :=
  if w.getLsbD 6 then (if resetWrite w then none else some abortValue)
  else if ctlInconsistent w then some abortValue
  else match s.ctlTransition lvl w with
    | some c => some c
    | none =>
      match (if s.ctlEdge w 1 then s.runRefusal else none) with
      | some c => some c
      | none => if s.ctlEdge w 1 && s.ctlEdge w 2 then some abortState else none

/-- Level bits after a write (R450). -/
def State.ctlLevels (s : State) : State :=
  match s.sys.dev with
  | .run => if s.ctrlBit 1 then s else s.leaveRun
  | .service => if s.ctrlBit 4 then s else ((s.toDev .standby).levelActs).gauntlet
  | _ => s.levelActs

/-- An accepted write of CONTROL_WORD replaces the value in force; its edges then act in the order FAULT_RESET, DISCH_REQ, SLEEP_REQ, RUN_REQ (R449). The session that sets SERVICE is kept (Table 12.9). -/
def State.ctlAct (s : State) (session : Option Byte) (w : Half) : State :=
  if resetWrite w then s.dieReset 6
  else
    let reset := s.ctlEdge w 2
    let disch := s.ctlEdge w 3
    let sleep := s.ctlEdge w 5
    let run := s.ctlEdge w 1
    let s := if s.ctlEdge w 4 then { s with sec := { s.sec with serviceHandle := session } } else s
    let s := s.set O.CONTROL_WORD w.toNat
    let s := if w.getLsbD 1 then s else { s with sys := { s.sys with runPending := false } }
    let s := if w.getLsbD 2 then s else s.unnote .resetHeld 1
    let s := if reset then s.resetEdge false else s
    let s := if disch then s.dischBegin else s
    let s := if sleep then { s.islandsOff with sup := { s.islandsOff.sup with entering := some (s.getN O.SLEEP_DEPTH) } } else s
    let s := if run then s.requestRun else s
    s.ctlLevels

/-- One service write of CONTROL_WORD (R449): refused whole with its code in LAST_REFUSAL, or replied to and carried out. -/
def writeControl (r : Req) (w : Half) (id : ReqId) (s : State) : State :=
  let lvl := (s.levelOf r.port r.session).getD .opr
  match s.ctlRefusal lvl w with
  | some c => (s.set O.LAST_REFUSAL c).refuse id c
  | none =>
    let t := s.done id
    (t.ctlAct (if lvl.num < Lvl.srv.num then none else some r.session) w).send t.out

/-- A write request of CONTROL_WORD. -/
def State.controlReq (s : State) (r : Req) (w : Half) : State := s.writeReq r O.CONTROL_WORD 0 w.toNat (writeControl r w)

/-! ### Verification of the active bank -/

/-- A held RUN_REQ edge is decided when verification ends, or when the module has left READY (R291). -/
def State.runDecide (s : State) : State :=
  if !s.sys.runPending then s
  else match s.runRefusal with
    | some c => ({ s with sys := { s.sys with runPending := false } }).set O.LAST_REFUSAL c
    | none => s.enterRun

/-- ACTIVE_BANK_VERIFY_DONE (R291). -/
def bankVerified (ok : Bool) (s : State) : State :=
  if !s.fl.verifying then s
  else
    let s := { s with fl := { s.fl with verifying := false } }
    let s := if ok then s.set O.MAP_STATUS (setBit (s.get O.MAP_STATUS) 1 true) else s.note .mapActiveInvalid
    s.runDecide

/-! ### The commands -/

def execFaultReset (r : Req) (w : Half) (s : State) : Host.Outcome State Fault Refusal := .next (s.controlReq r w)
def execDischReq (r : Req) (w : Half) (s : State) : Host.Outcome State Fault Refusal := .next (s.controlReq r w)
def execReadyReq (r : Req) (w : Half) (s : State) : Host.Outcome State Fault Refusal := .next (s.controlReq r w)
def execReadyReqClear (r : Req) (w : Half) (s : State) : Host.Outcome State Fault Refusal := .next (s.controlReq r w)
def execRunReq (r : Req) (w : Half) (s : State) : Host.Outcome State Fault Refusal := .next (s.controlReq r w)
def execRunReqClear (r : Req) (w : Half) (s : State) : Host.Outcome State Fault Refusal := .next (s.controlReq r w)
def execServiceReq (r : Req) (w : Half) (s : State) : Host.Outcome State Fault Refusal := .next (s.controlReq r w)
def execServiceReqClear (r : Req) (w : Half) (s : State) : Host.Outcome State Fault Refusal := .next (s.controlReq r w)
def execSleepReq (r : Req) (w : Half) (s : State) : Host.Outcome State Fault Refusal := .next (s.controlReq r w)
def execResetCmd (r : Req) (w : Half) (s : State) : Host.Outcome State Fault Refusal := .next (s.controlReq r w)
def execActiveBankVerifyDone (ok : Bool) (s : State) : Host.Outcome State Fault Refusal := .next (bankVerified ok s)

end Sys2Proof.Machine
end

