-- ==== Sys2Proof/Machine/SafetyInput.lean ====
section
/-! DEFINITION. The safety input evaluators: filters, demand, discrepancy, test pulses, HVIL, SAFE_RST (R380..R392, R397). -/

namespace Sys2Proof.Machine

def State.ev (s : State) (e : Nat) : Evaluator := s.si.evs.getD e State.resetEvaluator
def State.updEv (s : State) (e : Nat) (f : Evaluator → Evaluator) : State := { s with si := { s.si with evs := s.si.evs.modify e f } }

/-- SENSE of an evaluator (Table 10.1): 0 equivalent, 1 antivalent, 2 loop. -/
def State.senseOf (s : State) (e : Nat) : Int := if e = 3 then s.get O.SENSE_AUX else s.get O.SENSE_FIXED e

/-! ### Filters (R381, R385) -/

/-- One sample of a channel: its number, FILTER in samples, the level that shows demand, the raw level. A masked sample changes nothing; while chatter lasts the channel shows demand (R385). -/
def SiChan.sample (n flt : Nat) (dem raw : Bool) (c : SiChan) : SiChan :=
  if n ≤ c.maskTo then c
  else
    let changed := raw != c.raw
    let recent := c.changes.filter fun t => decide (n ≤ t + flt)
    let changes := if changed then n :: recent else recent
    let chatter := decide (8 ≤ changes.length)
    let held := if changed || (c.chatter && !chatter) then 1 else c.held + 1
    { c with raw := raw, held := held, changes := changes, chatter := chatter, filt := if chatter then dem else if flt ≤ held then raw else c.filt }

/-! ### Demand (R382, R383, R389) -/

/-- The filtered channels show the non-demand pattern; a chattering channel shows demand (R382, R385). -/
def State.quiet (s : State) (e : Nat) : Bool :=
  let v := s.ev e
  !v.a.chatter && !v.b.chatter && v.a.filt && (if s.senseOf e = 1 then !v.b.filt else v.b.filt)

/-- The full demand pattern: both open, or A open with B closed (R383). -/
def State.fullDemand (s : State) (e : Nat) : Bool :=
  let v := s.ev e
  !v.a.filt && (if s.senseOf e = 1 then v.b.filt else !v.b.filt)

def demandCode : Nat → FaultCode
  | 0 => .siEoffDemand | 1 => .siHvilDemand | 2 => .siCoverDemand | _ => .siAuxDemand

/-- DETAIL of R386. -/
def siDetail (e ch kind : Nat) : Nat := e * 0x1000000 + ch * 0x10000 + kind

/-- SI_CHATTER with its count, per channel (R385). -/
def State.chatterNote (s : State) (e ch : Nat) (was is : Bool) : State :=
  if is && !was then (s.bump O.CHATTER_COUNT e).note .siChatter (2 * e + ch)
  else if was && !is then s.unnote .siChatter (2 * e + ch) else s

/-- A demand of an evaluator that has left start-up demand is posted once, and leaves with the non-demand pattern (R389). -/
def State.demandStep (s : State) (e : Nat) : State :=
  let v := s.ev e
  if !s.quiet e && !v.posted then (s.updEv e fun v => { v with posted := true }).postDemand e (demandCode e)
  else if s.quiet e && v.posted then (s.updEv e fun v => { v with posted := false }).leave (demandCode e) e
  else s

/-- The discrepancy timer and the way back (R383). HVIL has no discrepancy (R384). -/
def State.discStep (s : State) (e : Nat) : State :=
  let v := s.ev e
  let quiet := s.quiet e
  let full := s.fullDemand e
  if e = 1 then s
  else
    let since := if quiet || full then none else (match v.oddFrom with | some t => some t | none => some s.si.n)
    let s := s.updEv e fun v => { v with oddFrom := since }
    match v.disc with
    | .none =>
      match since with
      | some t =>
        if 100 * s.getN O.DISC_T e < s.si.n - t then (s.updEv e fun v => { v with disc := .waitFull }).post .siDiscrepancy (siDetail e 0xFF 0)
        else s
      | none => s
    | .waitFull => if full then s.updEv e fun v => { v with disc := .waitNormal } else s
    | .waitNormal => if quiet then (s.updEv e fun v => { v with disc := .none }).leave .siDiscrepancy (siDetail e 0xFF 0) else s

/-- Start-up demand ends (R388): a test has passed, none has failed since, the non-demand pattern is shown; with RESTART = 1 at an accepted edge. -/
def State.startupEnd (s : State) (e : Nat) (edge : Bool) : State :=
  let v := s.ev e
  if v.startup && v.tested && !v.failed && s.quiet e && (edge || s.get O.RESTART e == 0) then
    (s.updEv e fun v => { v with startup := false }).gauntlet
  else s

/-- One sample of an enabled evaluator: filters, then demand, then discrepancy (R382). -/
def State.evSample (s : State) (e : Nat) (a b : Bool) : State :=
  if !s.getB O.ENABLE e then s
  else
    let v := s.ev e
    let flt := 10 * s.getN O.FILTER_2801 e
    let a := v.a.sample s.si.n flt false a
    let b := v.b.sample s.si.n flt (s.senseOf e == 1) b
    let s := s.updEv e fun v => { v with a := a, b := b }
    let s := s.set O.CH_LEVEL (ofBits [a.raw, b.raw, a.filt, b.filt]) e
    if v.startup then s.startupEnd e false
    else (((s.chatterNote e 0 v.a.chatter a.chatter).chatterNote e 1 v.b.chatter b.chatter).demandStep e).discStep e

/-- SAFE_RST: debounced over 1 ms; a pulse that began before SI_READY cannot be accepted (R391); a level that ends lets RESET_HELD leave. -/
def State.rstSample (s : State) (lvl : Bool) : State :=
  let held := if lvl = s.si.rstRaw then s.si.rstHeld + 1 else 1
  let s := { s with si := { s.si with rstRaw := lvl, rstHeld := held } }
  if held < 100 ∨ lvl = s.pins.safeRst then s
  else
    let s := { s with pins := { s.pins with safeRst := lvl } }
    if lvl then { s with si := { s.si with rstBad := !s.getB O.SI_READY } } else s.unnote .resetHeld 0

/-- SI_SAMPLE: the levels of EOFF_A, EOFF_B, COVER_A, COVER_B, AUX_A, AUX_B as bits 0 to 5, and of SAFE_RST (R381, R382). -/
def siSample (levels : BitVec 6) (rst : Bool) (s : State) : State :=
  if !s.alive then s
  else
    let s := { s with si := { s.si with n := s.si.n + 1 } }
    let l := fun (i : Nat) => levels.getLsbD i
    let s := (s.evSample 0 (l 0) (l 1)).evSample 1 s.si.hvA s.si.hvB
    ((s.evSample 2 (l 2) (l 3)).evSample 3 (l 4) (l 5)).rstSample rst

/-! ### Tests (R386, R387) -/

/-- TEST_PULSE: samples of the pulsed output's channels are masked for 250 µs. -/
def testPulse (tpB : Bool) (s : State) : State :=
  if !s.alive then s
  else
    let mask := fun (c : SiChan) => { c with maskTo := s.si.n + 25 }
    let f := fun (v : Evaluator) => if tpB then { v with b := mask v.b } else { v with a := mask v.a }
    { s with si := { s.si with pulse := some tpB, evs := s.si.evs.mapIdx fun e v => if e = 1 then v else f v } }

/-- A failed check (R386): the evaluator is in demand until the code is cleared. -/
def State.testFail (s : State) (e ch kind : Nat) : State :=
  let s := s.updEv e fun v => { v with failed := true, repaired := false }
  if (FaultCode.siTestFail, siDetail e ch kind) ∈ s.coll.conds then s else s.post .siTestFail (siDetail e ch kind)

/-- Kind of failure of a channel: own output pulsed, contact closed, level seen (Table 10.3). -/
def pulseKind (own closed seen : Bool) : Option Nat :=
  match own, closed, seen with
  | true, true, true => some 1
  | true, false, true => some 3
  | false, true, false => some 2
  | false, false, true => some 2
  | _, _, _ => none

/-- TEST_PULSE_END: the levels seen 100 µs into the pulse, as SI_SAMPLE numbers them. -/
def testPulseEnd (seen : BitVec 6) (s : State) : State :=
  match s.si.pulse with
  | none => s
  | some tpB =>
    let s := { s with si := { s.si with pulse := none } }
    [(0, 0), (2, 2), (3, 4)].foldl (fun (s : State) (x : Nat × Nat) =>
      if !s.getB O.ENABLE x.1 then s
      else
        let v := s.ev x.1
        let s := match pulseKind (!tpB) v.a.filt (seen.getLsbD x.2) with | some k => s.testFail x.1 0 k | none => s
        match pulseKind tpB v.b.filt (seen.getLsbD (x.2 + 1)) with | some k => s.testFail x.1 1 k | none => s) s

/-- A start-up or complete test of an evaluator has passed: SI_TEST_FAIL leaves for it (R386, R388). -/
def State.testPass (s : State) (e : Nat) : State :=
  let s := s.updEv e fun v => { v with tested := true, repaired := true }
  (s.coll.conds.filter fun c => c.1 == FaultCode.siTestFail && c.2 / 0x1000000 == e).foldl (fun (s : State) c => s.leave .siTestFail c.2) s

/-- Outcome of a test over the evaluators that a predicate selects. -/
def State.testOutcome (s : State) (fails : List SiFail) (sel : Nat → Bool) : State :=
  (List.range 4).foldl (fun (s : State) e =>
    if !s.getB O.ENABLE e || !sel e then s
    else match fails.filter fun f => f.ev.val == e with
      | [] => s.testPass e
      | l => l.foldl (fun (s : State) f => s.testFail e f.ch f.kind) s) s

/-- COMPLETE_TEST (R387): none while TP_PERIOD is 0. -/
def completeTest (fails : List SiFail) (s : State) : State :=
  if !s.alive || !s.getB O.SI_READY || s.get O.TP_PERIOD == 0 then s else s.testOutcome fails fun _ => true

/-! ### HVIL (R384) -/

/-- HVIL_CAUSE of one cycle, currents and set value in 0.01 mA (Table 10.2). -/
def hvilCause (set iOut iOn iOff : Int) (limit : Bool) : Nat :=
  let inWin := fun (i : Int) => decide (5 * absI (i - set) ≤ set)
  if decide (3 * set < 2 * iOut) || limit then 4
  else if 2 * iOut < set then 1
  else if inWin iOut && decide (2 * iOn < iOut) then 2
  else if 50 < iOff then 3
  else if inWin iOut && inWin iOn && decide (absI (iOut - iOn) ≤ 100) then 0
  else 5

/-- HVIL_CYCLE: channel A is "I_O in window", channel B "I_R follows the source"; any cause is a demand. -/
def hvilCycle (iOut iOn iOff : Nat) (limit : Bool) (s : State) : State :=
  if !s.alive || !s.getB O.ENABLE 1 then s
  else
    let set := 100 * s.get O.HVIL_I_SET
    let c := hvilCause set iOut iOn iOff limit
    let a := decide (5 * absI (iOut - set) ≤ set) && !limit
    let s := { s with si := { s.si with hvA := a, hvB := c == 0 || !a } }
    ((s.set O.HVIL_I_OUT (O.HVIL_I_OUT.ty.fit iOut)).set O.HVIL_I_RET (O.HVIL_I_RET.ty.fit iOn)).set O.HVIL_CAUSE c

/-! ### SAFE_RST (R391, R392) -/

/-- SAFE_RST_EDGE: a pulse has ended; one of 50 ms to 3 s that began after SI_READY is a reset edge, and may end start-up demands. -/
def safeRstEdge (ms : Nat) (s : State) : State :=
  if !s.alive then s
  else
    let bad := s.si.rstBad || !s.getB O.SI_READY
    let s := { s with pins := { s.pins with safeRst := false }, si := { s.si with rstRaw := false, rstHeld := 100, rstBad := false } }
    let s := (s.set O.RST_LAST_WIDTH (min ms 65535)).unnote .resetHeld 0
    if bad || decide (ms < 50) || decide (3000 < ms) || !s.sys.dev.runs then s
    else
      let s := (s.bump O.RST_ACCEPTED).resetEdge true
      let cleared := !s.coll.holds .siTestFail
      let s := { s with si := { s.si with evs := s.si.evs.map fun (v : Evaluator) => if v.failed && v.repaired && cleared then { v with failed := false } else v } }
      (List.range 4).foldl (fun (s : State) e => if s.getB O.ENABLE e then s.startupEnd e true else s) s

/-- HELMET_EVALUATOR_READ: every 0.5 ms the Helmet decides on the evaluators (R390). -/
def evaluatorRead (s : State) : State :=
  if !s.alive || s.hlm.stopped then s else ((s.hlmEval).writePreload).gauntlet

/-! ### COMMIT (R397) -/

/-- A setting of evaluator e differs; HVIL_I_SET is one of HVIL's. -/
def siChanged (old s : State) (e : Nat) : Bool :=
  old.get O.ENABLE e != s.get O.ENABLE e || old.get O.FILTER_2801 e != s.get O.FILTER_2801 e || old.get O.DISC_T e != s.get O.DISC_T e ||
  old.get O.RESTART e != s.get O.RESTART e || old.senseOf e != s.senseOf e || (e == 1 && old.get O.HVIL_I_SET != s.get O.HVIL_I_SET)

/-- Every changed evaluator is in start-up demand again, in which it raises no code, and its start-up test is repeated (R388, R397). -/
def siHook (old s : State) : State :=
  let changed := (List.range 4).filter (siChanged old s)
  if changed.isEmpty then s
  else
    (changed.foldl (fun (s : State) e =>
      let was := (s.ev e).posted
      let s := s.updEv e fun v => { v with startup := true, tested := false, posted := false, oddFrom := none }
      let s := (s.unnote .siChatter (2 * e)).unnote .siChatter (2 * e + 1)
      let s := { s with si := { s.si with retest := if s.getB O.ENABLE e then e :: s.si.retest.erase e else s.si.retest.erase e } }
      if was then s.leave (demandCode e) e else s) s).gauntlet

/-! ### The commands -/

def execSiSample (levels : BitVec 6) (rst : Bool) (s : State) : Host.Outcome State Fault Refusal := .next (siSample levels rst s)
def execTestPulse (tpB : Bool) (s : State) : Host.Outcome State Fault Refusal := .next (testPulse tpB s)
def execTestPulseEnd (seen : BitVec 6) (s : State) : Host.Outcome State Fault Refusal := .next (testPulseEnd seen s)
def execHvilCycle (iOut iRetOn iRetOff : Nat) (limit : Bool) (s : State) : Host.Outcome State Fault Refusal := .next (hvilCycle iOut iRetOn iRetOff limit s)
def execCompleteTest (fails : List SiFail) (s : State) : Host.Outcome State Fault Refusal := .next (completeTest fails s)
def execSafeRstEdge (widthMs : Nat) (s : State) : Host.Outcome State Fault Refusal := .next (safeRstEdge widthMs s)
def execHelmetEvaluatorRead (s : State) : Host.Outcome State Fault Refusal := .next (evaluatorRead s)
/-- The SAFE domain's copy is checked with a CRC (R397). -/
def execSiCommit (r : Req) (crcOk : Bool) (s : State) : Host.Outcome State Fault Refusal :=
  .next (siHook s (s.commit r O.COMMIT_28FF 0 fun _ => if crcOk then none else some abortHardware))

end Sys2Proof.Machine
end

