-- ==== Sys2Proof/Machine/Commit.lean ====
section
/-! DEFINITION. Checks of the mapping, network, Span and self-test groups, what newly committed values change, and the COMMITs that a boundary puts in force (R141, R423, R433, R445, R457, R462..R464, R489, R496). -/

namespace Sys2Proof.Machine

/-! ### Process mappings (R445) -/

/-- A mapping entry: key and size in bits. -/
def entryKey (e : Nat) : Nat := e / 256
def entryBits (e : Nat) : Nat := e % 256

/-- A mapped type: every one but STR and DOMAIN. -/
def Ty.mappable : Ty → Bool
  | .str _ => false
  | .domain _ => false
  | _ => true

/-- A receive entry: CONTROL_WORD, or an RW object of level OPR that takes effect without a COMMIT; in its own size. -/
def rxEntryOk (e : Nat) : Bool :=
  match findObj (entryKey e) with
  | some (o, _) => o.acc == .rw && o.lvl == .opr && o.grp == 0 && o.ty.mappable && 8 * o.ty.bytes == entryBits e
  | none => false

/-- Sub 0 of a record that exists. -/
def isSubZero (key : Nat) : Bool := key % 256 == 0 && highSub (key / 256) != 0

/-- A transmit entry: any object of a number type that is readable at OBS, in its own size. -/
def txEntryOk (e : Nat) : Bool :=
  if isSubZero (entryKey e) then entryBits e == 8
  else match findObj (entryKey e) with
    | some (o, _) => o.acc != .wo && (o.acc != .ro || o.lvl == .obs) && o.ty.mappable && 8 * o.ty.bytes == entryBits e
    | none => false

/-- Entries of a frame: count and list as planned. -/
def entriesOf (get : Obj → Nat → Int) (cnt ent : Obj) (p : Nat) : List Nat :=
  (List.range (get cnt p).toNat).map fun k => (get ent (16 * p + k)).toNat

/-- Bytes of a mapping. -/
def mapBytes (l : List Nat) : Nat := l.foldl (fun a e => a + entryBits e / 8) 0

def mappingCheck (s : State) : Option Nat :=
  let g := fun (o : Obj) (p : Nat) => s.planned o p
  let rx := (List.range 8).all fun p =>
    let l := entriesOf g O.RX_COUNT O.RX_ENTRY p
    l.all rxEntryOk && decide (mapBytes l ≤ if s.getB O.PROC_AUTH p then 60 else 64)
  let tx := (List.range 8).all fun p =>
    let l := entriesOf g O.TX_COUNT O.TX_ENTRY p
    l.all txEntryOk && decide (mapBytes l ≤ if s.getB O.TX_AUTH p then 60 else 64)
  if rx && tx then none else some abortMap

/-! ### Networks (R457, R462..R464) -/

/-- Time quanta of a bit of channel c, and the rules of R462. -/
def State.canRatesOk (s : State) (c : Nat) : Bool :=
  let g := fun (o : Obj) => s.planned o c
  let nom := g O.NOM_BRP * (1 + g O.NOM_TSEG1 + g O.NOM_TSEG2)
  let dat := g O.DATA_BRP * (1 + g O.DATA_TSEG1 + g O.DATA_TSEG2)
  decide (80 ≤ nom) && decide (10 ≤ dat) && decide (dat ≤ nom) && decide (g O.NOM_SJW ≤ g O.NOM_TSEG2) && decide (g O.DATA_SJW ≤ g O.DATA_TSEG2)

/-- Channels with a role. -/
def State.withRole (s : State) (r : Int) : List Nat := (List.range 4).filter fun c => s.planned O.CAN_ROLE c == r

/-- One host, and a redundant channel only as REDUNDANT_CH names it (R463). -/
def State.rolesOk (s : State) : Bool :=
  let red := s.planned O.REDUNDANT_CH
  (s.withRole 1).length == 1 && s.withRole 2 == (if red = 0xFF then [] else [red.toNat])

/-- Two blocks of eight identifiers do not overlap. -/
def blocksApart (a b : Int) : Bool := decide (a + 7 < b) || decide (b + 7 < a)

/-- Identifiers of process frames on the host channel. -/
def State.procIds (s : State) : List Int :=
  ((List.range 8).filter fun p => s.planned O.PROC_PORT p == 1).map (fun p => s.planned O.PROC_ID p) ++
  ((List.range 8).filter fun p => s.planned O.TX_PORT p == 1).map (fun p => s.planned O.TX_ID p)

/-- The service blocks of a channel overlap neither each other nor a process frame of the channel (R464). -/
def State.idsOk (s : State) (c : Nat) : Bool :=
  let rx := s.planned O.SRV_RX_ID c
  let tx := s.planned O.SRV_TX_ID c
  let ids := if c ∈ s.withRole 1 then s.procIds else []
  blocksApart rx tx && ids.all fun i => (decide (i < rx) || decide (rx + 7 < i)) && (decide (i < tx) || decide (tx + 7 < i))

def netCheck (s : State) : Option Nat :=
  let kb := s.planned O.RX_BUF_SIZE * s.planned O.RX_BUF_COUNT
  if decide (8 ≤ kb) && decide (kb ≤ 128) && s.rolesOk && (List.range 4).all s.canRatesOk && (List.range 4).all s.idsOk then none else some abortValue

/-! ### Span (R489) -/

def spanCheck (s : State) : Option Nat :=
  let nodes := 0 :: (List.range 8).filter fun n => n != 0 && bit (s.planned O.NODES_EXPECTED) n
  let sum := nodes.foldl (fun a n => a + s.planned O.SHARE n) 0
  let chg := s.get O.CONFIG == 2 && s.planned O.SHARE 0 != 0
  if s.planned O.DIST_MODE = 1 ∧ (sum ≠ 100 ∨ chg = true) then some abortValue else none

/-! ### What new values change -/

/-- The host channel follows the roles until a takeover (R463, R471); a port that is switched off loses its link and its sessions. -/
def netHook (old s : State) : State :=
  let host := ((List.range 4).find? fun c => s.get O.CAN_ROLE c == 1).getD 0
  let s := s.set O.HOST_CH host
  let s := if s.net.failedCh.isNone then s.set O.HOST_CH_ACTIVE host else s
  if old.getB O.ETH_ENABLE && !s.getB O.ETH_ENABLE then
    (s.set O.LINK_STATE 0).endSessions fun x => match x.port with | .eth _ _ => true | _ => false
  else s

/-- SPAN_NODE is put in force only at the next start-up (R496): until then it stays staged. -/
def spanHook (old s : State) : State :=
  if s.get O.SPAN_NODE = old.get O.SPAN_NODE then s
  else (s.set O.SPAN_NODE (old.get O.SPAN_NODE)).stage O.SPAN_NODE 0 (s.get O.SPAN_NODE)

/-- Everything that newly committed values of any group change at once. -/
def State.hooks (old s : State) : State :=
  let s := profHook old (traceHook (siHook old (spanHook old (netHook old s))))
  let s := sensingHook old (positionHook old (fieldHook old s))
  if s.get O.GRID_MODE = old.get O.GRID_MODE then s else s.holdMeter

/-- Run an operation and keep what was sent before it. -/
def State.alsoSent (f : State → State) (s : State) : State :=
  let t := f (s.send [])
  t.send (s.out ++ t.out)

/-- A COMMIT is put in force and replied to (R433). -/
def State.applyCommit (s : State) (c : PendCommit) : State :=
  State.alsoSent (fun old => (State.hooks old ((old.applyVals c.vals).groupOk c.group)).replyLate c.req (.ok [])) s

/-- The COMMIT waits for no island and for no instance under test (R141, R423). -/
def State.commitReady (s : State) (c : PendCommit) : Bool := c.wait.isEmpty && !s.underTest c.group c.vals

/-- The COMMITs that nothing holds back are put in force, in their order of acceptance (R433). -/
def State.applyCommits (s : State) : State :=
  let ready := s.dict.commits.filter s.commitReady
  let s := { s with dict := { s.dict with commits := s.dict.commits.filter fun c => !s.commitReady c } }
  ready.foldl State.applyCommit s

/-! ### The commands -/

def execMappingCommit (r : Req) (s : State) : Host.Outcome State Fault Refusal := .next (s.commit r O.COMMIT_20FF 0 mappingCheck)
def execNetCommit (r : Req) (s : State) : Host.Outcome State Fault Refusal := .next (netHook s (s.commit r O.COMMIT_11FF 0 netCheck))
def execSpanCommit (r : Req) (s : State) : Host.Outcome State Fault Refusal := .next (spanHook s (s.commit r O.COMMIT_2CFF 0 spanCheck))
def execSelftestCommit (r : Req) (s : State) : Host.Outcome State Fault Refusal := .next (s.commit r O.COMMIT_2BFF 0 fun _ => none)

end Sys2Proof.Machine
end

