-- ==== Sys2Proof/Machine/Memory.lean ====
section
/-! DEFINITION. SRAM errors, the protection unit, scrubbing, the NV interface, durable writes and the DMA (R398..R416). -/

namespace Sys2Proof.Machine

/-! ### SRAM errors (R401..R403) -/

/-- SRAM_CE: a corrected read (R401). -/
def sramCe (addr : Nat) (s : State) : State :=
  if !s.alive then s
  else ((s.bump O.SRAM_CE_COUNT).set O.LAST_CE_ADDR (O.LAST_CE_ADDR.ty.fit addr)).note .sramCe addr

/-- An internal error of one FLE instance (R20). -/
def State.fleInternal (s : State) (inst : Nat) : State :=
  if s.fl.fle = 0 then { s with fl := { s.fl with fle := 2 - inst } }.degrade 1 .fleSingle inst
  else if s.fl.fle ≠ inst + 1 then s
  else if s.testing == some 4 || s.testing == some 5 then
    let s := s.fleReturns
    { s with fl := { s.fl with fle := 2 - inst } }.degrade 1 .fleSingle inst
  else s.fleFault true inst

/-- One record of the ring reads as 0 with FLAGS bit 2 (Table 11.1); which one holds the word, the manual does not say (assumption 26). -/
def State.traceHit (s : State) : State :=
  let i := Config.freeNat s.freeIx % s.fl.trace.ring.length
  let f := fun (r : TraceRec) => { r with values := r.values.map fun _ => 0, flags := (setBit r.flags 2 true).toNat }
  { s with fl := { s.fl with trace := { s.fl.trace with ring := s.fl.trace.ring.modify i f } } }.draw

/-- The eight correction cells of the word are 0 and frozen (R297, Table 11.1). -/
def State.corrHit (s : State) (mac addr : Nat) : State :=
  let first := (mac - 40) * 262144 + addr % 262144 / 8 * 8
  let cells := (List.range 8).map fun k => first + k
  let corr := cells.foldl (fun l i => putCell l i 0) s.fl.corr
  let frozen := s.mem.frozen ++ cells.filter fun i => !s.mem.frozen.contains i
  { s with fl := { s.fl with corr := corr }, mem := { s.mem with frozen := frozen } }.showCorr

/-- DMA_ERROR of a channel: counted (R415); a map or image download of channel 7 ends as aborted. -/
def State.dmaFails (s : State) (ch status : Nat) : State :=
  if !(s.dma ch).run then s
  else
    let s := (s.dmaStop ch status).updDma ch fun x => { x with bad := true }
    let s := (s.bump O.DMA_ERRORS).note .dmaError ch
    if ch = 7 then s.abortW else s

/-- The reaction of the region (Table 11.1). -/
def State.ueReaction (s : State) (mac addr : Nat) (who : Master) : State :=
  match who with
  | .dma ch => s.dmaFails ch.val 1
  | .main p =>
    if mac < 24 then s.pairFault p .mainLockstep (pairNum p)
    else if mac < 28 then s.fleInternal (if mac < 26 then 0 else 1)
    else if mac < 36 then s.traceHit
    else if mac < 40 then s
    else if mac < 44 then s.corrHit mac addr
    else if mac < 46 then hlmLock s
    else s

/-- SRAM_UE: an uncorrectable read (R402). -/
def sramUe (mac addr : Nat) (who : Master) (s : State) : State :=
  if !s.alive then s
  else
    let s := ((s.bump O.SRAM_UE_COUNT).set O.LAST_UE_ADDR (O.LAST_UE_ADDR.ty.fit addr)).note .sramUe addr
    s.ueReaction mac addr who

/-- MPU_VIOLATION with the pair that issued the access, or that owns the channel (R400). -/
def State.mpuHit (s : State) (who : Master) (addr : Nat) : State :=
  let p := match who with
    | .main p => p
    | .dma _ => s.sys.supervisor
  (s.bump O.MPU_VIOLATIONS).pairFault p .mpuViolation addr

def mpuViolation (who : Master) (addr : Nat) (s : State) : State := if s.alive then s.mpuHit who addr else s

/-- SCRUB_STEP: one word; a pass is 12 MiB (R403). -/
def scrubStep (s : State) : State :=
  if !s.alive then s
  else
    let n := s.mem.scrubbed + 1
    if n < sramSize / 8 then { s with mem := { s.mem with scrubbed := n } }
    else
      let ms := (s.now - s.mem.scrubFrom) / 1000
      ({ s with mem := { s.mem with scrubbed := 0, scrubFrom := s.now } }.bump O.SCRUB_PASSES).set O.SCRUB_PASS_TIME (O.SCRUB_PASS_TIME.ty.fit ms)

/-! ### The NV interface (R405..R407) -/

/-- The operation that waits with the highest precedence (R407). -/
def State.nvNext (s : State) : Option NvKind :=
  if !s.dict.persist.isEmpty then some .persist
  else if !s.log.waiting.isEmpty then some .eventLog
  else match s.dict.blockW with
    | some x => if 0 < x.full then some .staging else none
    | none => none

/-- NV_OPERATION_DONE: counts and codes of R406, the owner's reaction, and the next operation by precedence. -/
def nvDone (kind : NvKind) (result : NvResult) (s : State) : State :=
  if !s.alive then s
  else
    let s : State := match result with
      | .ok => s
      | .corrected => (s.bump O.NV_CE_COUNT).note .nvCe
      | .uncorrectable =>
        let s := (s.bump O.NV_UE_COUNT).note .nvUe
        if kind = .readActive ∧ s.nv.activeBank.isSome = true then s.post .mapReadErr else s
    { s with mem := { s.mem with serving := s.nvNext } }

/-! ### Durable writes (R409..R412) -/

/-- The value of a durable write is in force (R409); a new ACTIVE_BANK swaps the banks (R290), which ends the verification of the old one (R291). -/
def State.durableNow (s : State) (w : PendPersist) : State :=
  let s := s.saveRec w.key w.val
  if w.key = O.ACTIVE_BANK.key 0 then (s.swapBanks w.val.toNat).runDecide else s.putVal w.key w.val

/-- PERSISTENT_WRITE_DONE: the oldest pending write (R409). -/
def persistDone (readbackOk : Bool) (s : State) : State :=
  match s.dict.persist with
  | [] => s
  | w :: rest =>
    let reply := fun (s : State) (r : Reply) => match w.req with
      | some id => s.replyLate id r
      | none => s
    if readbackOk then
      let s := { s with dict := { s.dict with persist := rest } }.durableNow w
      let us := O.PERS_TIME_MAX.ty.fit (s.now - w.since : Nat)
      let s := if s.get O.PERS_TIME_MAX < us then s.set O.PERS_TIME_MAX us else s
      reply (s.unnote .persWriteFail) (.ok [])
    else if w.retried then
      reply ({ s with dict := { s.dict with persist := rest } }.note .persWriteFail) (.abort abortHardware)
    else { s with dict := { s.dict with persist := { w with retried := true } :: rest } }

/-- A compaction copy: a new SEQ and the same WRITES; it is the key's only record left in the log (R411). -/
def Nv.copyRec (n : Nv) (key : Nat) : Nv :=
  let f := fun (r : PersRec) => if r.key = key then { r with vals := r.vals.take 1, seq := n.persistSeq } else r
  if n.persist.any (fun r => r.key == key) then { n with persist := n.persist.map f, persistSeq := n.persistSeq + 1 } else n

/-- COMPACTION_DONE: the keys whose newest record stood in the oldest sector, and the highest erase count. -/
def compacted (keys : List Nat) (eraseMax : Nat) (s : State) : State :=
  let nv := keys.foldl Nv.copyRec s.nv
  { s with nv := { nv with eraseMax := max nv.eraseMax eraseMax } }.bump O.PERS_COMPACTIONS

/-! ### DMA (R413..R415) -/

/-- A descriptor lies in the Main region or the communication buffers (R413). -/
def descPlace (a : Nat) : Bool :=
  let m := macroOf a
  decide (m < 24) || m == 46 || m == 47

/-- A descriptor that R414 ends with STATUS 7. -/
def descBad (d : DmaDesc) : Bool :=
  d.addr % 32 != 0 || !descPlace d.addr || d.len == 0 || decide (16777216 < d.len) || d.len % beatBytes d.ctrl != 0 ||
  d.ctrl.toNat / 65536 != 0 || d.ctrl.toNat / 4 % 4 != 0

/-- DMA_DESCRIPTOR_START: the checks before the first beat (R414). -/
def dmaStart (ch : Nat) (d : DmaDesc) (s : State) : State :=
  if !s.alive || (s.dma ch).run then s
  else
    let s := s.updDma ch fun x => { x with run := true, desc := some d, done := 0 }
    if descBad d then s.dmaStop ch 7 else s

/-- Bytes of a beat read from an address: SRAM bytes, else what its source gives (assumption 26). -/
def State.beatData (s : State) (src n : Nat) : List Byte :=
  (List.range n).map fun i =>
    if src + i < sramSize then s.sram (src + i) else BitVec.ofNat 8 (Config.freeNat s.freeIx / 256 ^ i)

/-- Every byte of a beat that lies in the SRAM is within the rights of the DMA (R400). -/
def beatMay (ok : Nat → Bool) (a n : Nat) : Bool := (List.range n).all fun i => decide (sramSize ≤ a + i) || ok (a + i)

/-- The descriptor has completed; DMA_ERROR of the channel leaves (Table 11.12). -/
def State.dmaComplete (s : State) (ch : Nat) (d : DmaDesc) : State :=
  ((s.updDma ch fun x => { x with run := false, desc := none, status := 0, bad := false }).writeBack d d.len 0).unnote .dmaError ch

/-- A beat outside the rights: blocked (R400), and the channel stops (R415). -/
def State.beatBlocked (s : State) (ch status addr : Nat) : State := (s.dmaFails ch status).mpuHit (.dma (Fin.ofNat 16 ch)) addr

/-- DMA_BEAT: the beat is transferred, or its fault stops the channel with STATUS 1 to 4 (R415). -/
def dmaBeat (ch : Nat) (fault : Option (Fin 4)) (s : State) : State :=
  let x := s.dma ch
  match x.desc with
  | none => s
  | some d =>
    if !x.run then s
    else
      let n := beatBytes d.ctrl
      let src := d.src + (if d.ctrl.getLsbD 4 then 0 else x.done)
      let dst := d.dst + (if d.ctrl.getLsbD 5 then 0 else x.done)
      if fault = some 1 ∨ (fault = none ∧ beatMay dmaWrites dst n = false) then s.beatBlocked ch 2 dst
      else if fault = some 2 ∨ (fault = none ∧ beatMay (fun a => dmaReads (macroOf a)) src n = false) then s.beatBlocked ch 3 src
      else match fault with
        | some k => s.dmaFails ch (k.val + 1)
        | none =>
          let s := ((s.putBytes dst (s.beatData src n)).draw).updDma ch fun y => { y with done := x.done + n }
          if d.len ≤ x.done + n then s.dmaComplete ch d else s

/-! ### The commands -/

def execSramCe (_mac : Fin 48) (addr : Nat) (s : State) : Host.Outcome State Fault Refusal := .next (sramCe addr s)
def execSramUe (mac : Fin 48) (addr : Nat) (who : Master) (s : State) : Host.Outcome State Fault Refusal := .next (sramUe mac.val addr who s)
def execMpuViolation (who : Master) (addr : Nat) (s : State) : Host.Outcome State Fault Refusal := .next (mpuViolation who addr s)
def execScrubStep (s : State) : Host.Outcome State Fault Refusal := .next (scrubStep s)
def execNvOperationDone (kind : NvKind) (result : NvResult) (s : State) : Host.Outcome State Fault Refusal := .next (nvDone kind result s)
def execPersistentWriteDone (readbackOk : Bool) (s : State) : Host.Outcome State Fault Refusal := .next (persistDone readbackOk s)
def execCompactionDone (keys : List Nat) (eraseMax : Nat) (s : State) : Host.Outcome State Fault Refusal := .next (compacted keys eraseMax s)
def execOpTimeSave (s : State) : Host.Outcome State Fault Refusal := .next s.saveOpTime
def execDmaDescriptorStart (ch : Fin 16) (desc : DmaDesc) (s : State) : Host.Outcome State Fault Refusal := .next (dmaStart ch.val desc s)
def execDmaBeat (ch : Fin 16) (fault : Option (Fin 4)) (s : State) : Host.Outcome State Fault Refusal := .next (dmaBeat ch.val fault s)

end Sys2Proof.Machine
end

