-- ==== Sys2Proof/Machine/Selftest.lean ====
section
/-! DEFINITION. The self-test engine: rotation, tests on request, results and the actions on a failed test (R417..R426). -/

namespace Sys2Proof.Machine

/-! ### Actions on a failed test (Table 11.11) -/

def State.unusable (s : State) (m : Nat) : State := s.set O.MACRO_UNUSABLE (setBit (s.get O.MACRO_UNUSABLE) m true)

/-- Requests held in the lost buffer macro end as if refused with ABORT_BUSY (R457). -/
def State.poolLost (s : State) : State :=
  let window := match s.dict.blockW with
    | some x => x.waiting ++ (x.ending.map fun e => e.1).toList
    | none => []
  let ids := s.dict.commits.map (fun c => c.req) ++ s.dict.persist.filterMap (fun w => w.req) ++ s.net.relays.map (fun x => x.2) ++ window
  let blockW := s.dict.blockW.map fun (x : BlockW) => { x with waiting := [], ending := none }
  let s := { s with dict := { s.dict with poolUsed := 0, commits := [], persist := s.dict.persist.filter (fun w => w.req.isNone), blockW := blockW },
                    net := { s.net with relays := [] } }
  ids.foldl (fun (s : State) id => State.alsoSent (fun s => s.refuseBusy id) s) s

/-- A macro of the SRAM fails (Table 11.11). A spare replaces a Main macro at once during the power-on set only. -/
def State.macroFail (s : State) (atPowerOn : Bool) (m : Nat) : State :=
  if m < 24 then
    if s.get O.MAIN_SPARES_USED < 2 then
      let s := (s.unusable m).note .sramMacroFail m
      if atPowerOn then s.set O.MAIN_SPARES_USED (s.get O.MAIN_SPARES_USED + 1) else s
    else s.post .sramFail m
  else if m < 28 then
    let inst := if m < 26 then 0 else 1
    if s.fl.fle = 0 ∨ s.fl.fle = 2 - inst then
      { (s.unusable m) with fl := { s.fl with fle := 2 - inst } }.degrade 1 .sramMacroFail m
    else s.post .sramFail m
  else if m = 44 ∨ m = 45 then s.post .sramFail m
  else if m < 46 then (traceHook ((s.unusable m).note .sramMacroFail m)).syncMaps
  else
    let first := decide (m = 46) || bit (s.get O.MACRO_UNUSABLE) 46
    let s := s.unusable m
    if bit (s.get O.MACRO_UNUSABLE) 46 && bit (s.get O.MACRO_UNUSABLE) 47 then s.post .sramFail m
    else if first then (s.note .sramMacroFail m).poolLost else s.note .sramMacroFail m

/-- The action on a FAIL of test t (Table 11.11). -/
def State.testFails (s : State) (atPowerOn : Bool) (t detail : Nat) : State :=
  let s := { s with mem := { s.mem with failed := s.mem.failed ++ [t] } }
  if t ≤ 1 then s.macroFail atPowerOn detail
  else if t = 2 then s.post .sramFail detail
  else if t = 3 then s.post .stFailHold t
  else if t = 4 ∨ t = 5 then
    let inst := t - 4
    if s.mem.failed.contains (9 - t) || (bit (s.get O.DEG_MODES) 1 && s.fl.fle != 2 - inst) then s.post .stFailHold t
    else { s with fl := { s.fl with fle := 2 - inst } }.degrade 1 .stFail t
  else if 8 ≤ t ∧ t ≤ 11 then
    let keep := s.idleTwin (t - 8)
    ((s.updSaru (t - 8) fun x => { x with moved := keep }).set O.SARU_STATE 3 (t - 8)).note .stFail t
  else if 16 ≤ t ∧ t ≤ 31 then
    if s.mem.shadow.isSome then s.post .stFailHold t
    else
      let s := { s with mem := { s.mem with shadow := some (t - 16) } }
      (s.set O.CMP_SERVICE (setBit (s.get O.CMP_SERVICE) (t - 16) true)).note .cmpTestFail (t - 16)
  else if 32 ≤ t ∧ t ≤ 43 then
    if s.mem.linkSpare.isSome then s.post .stFailHold t
    else { s with mem := { s.mem with linkSpare := some (t - 32) } }.note .stFail t
  else
    let s := (s.bump O.NV_UE_COUNT).note .nvUe
    if s.nv.activeBank.isSome then s.post .mapReadErr else s

/-! ### Start and end of a test -/

/-- Instance t leaves service (Table 11.9). -/
def State.takeOut (s : State) (t : Nat) (onRequest : Bool) : State :=
  let s := { s with mem := { s.mem with test := some ⟨t, onRequest, 0⟩ } }.set O.RESULT 4 t
  if t = 4 ∨ t = 5 then (if s.fl.fle = 0 then { s with fl := { s.fl with fle := 6 - t } } else s)
  else if 8 ≤ t ∧ t ≤ 11 then (s.updSaru (t - 8) fun x => { x with moved := true }).set O.SARU_STATE 2 (t - 8)
  else if 16 ≤ t ∧ t ≤ 31 then s.set O.CMP_SERVICE (setBit (s.get O.CMP_SERVICE) (t - 16) true)
  else s

/-- Tests whose request destroys contents (R418): 0x00, 0x02, 0x03. -/
def destructive (t : Nat) : Bool := t == 0 || t == 2 || t == 3

/-- A test has passed: ST_OVERDUE leaves, and a shadow mismatch of that comparator (Tables 5.19, 11.12). -/
def State.testPasses (s : State) (t : Nat) : State :=
  let s := { s with mem := { s.mem with passAt := (t, s.now) :: s.mem.passAt.filter fun x => x.1 != t } }.unnote .stOverdue t
  if 16 ≤ t ∧ t ≤ 31 then s.unnote .cmpShadowMismatch (t - 16) else s

/-- CYCLES equals EXPECTED_CYCLES and the signature is the expected one for that seed (R417). -/
def State.testOk (s : State) (t sig cycles : Nat) : Bool :=
  let e := s.getN O.EXPECTED_CYCLES t
  cycles == e && sig == Config.expectedSig t e

/-- SELFTEST_DONE: cut says that it was cut short, mismatch that the shadow's 1 µs check of R194 disagreed. -/
def selftestDone (t sig cycles detail : Nat) (cut mismatch : Bool) (s : State) : State :=
  match s.mem.test with
  | none => s
  | some x =>
    if x.t ≠ t then s
    else
      let short := cut || mismatch
      let ok := !short && s.testOk t sig cycles
      let s := s.testResult t (if short then 3 else if ok then 1 else 2) sig cycles detail
      let s := s.testReturn t
      let s := if mismatch then s.note .cmpShadowMismatch (t - 16) else s
      let s := if short then s else if ok then s.testPasses t else s.testFails false t detail
      if x.onRequest && destructive t then s.dieReset 6
      else if s.carrier then s else s.applyCommits

/-! ### Rotation -/

/-- The rotating set in its order (R420). -/
def rotOrder : List Nat :=
  [4, 5, 8, 9, 10, 11] ++ (List.range 16).map (fun c => 16 + c) ++ (List.range 12).map (fun c => 32 + c)

/-- The instance after t. -/
def rotAfter (t : Nat) : Nat := ((rotOrder.dropWhile fun x => x != t).drop 1).headD 4

/-- The partner that carries the work of instance t is in service (R421). -/
def State.partnerOk (s : State) (t : Nat) : Bool :=
  if t = 4 ∨ t = 5 then s.fl.fle == 0
  else if t ≤ 11 then s.get O.SARU_STATE (t - 8) == 0 && s.idleTwin (t - 8)
  else if t ≤ 31 then s.mem.shadow.isNone
  else s.mem.linkSpare.isNone

/-- A safe state is being applied and an island that applies it has not reported SAFE_APPLIED (R421). -/
def State.applyingSafe (s : State) : Bool :=
  (!s.hlm.permit || s.sys.dev == .safeHold || s.sys.dev == .faultLatched) && s.isl.any fun i => i.live && i.verified && !i.safeApplied

/-- The instance takes no part in the rotation: its FAIL is final (R426), or it is out of service as a converter (R184). -/
def State.outOfRotation (s : State) (t : Nat) : Bool :=
  s.mem.failed.contains t || (decide (8 ≤ t) && decide (t ≤ 11) && s.get O.SARU_STATE (t - 8) == 3)

/-- The rotating set runs: always in FIELD, else while ROT_ENABLE is 1 (Table 11.8). -/
def State.rotates (s : State) : Bool := s.otp.lc == 3 || s.getB O.ROT_ENABLE

/-- ROTATION_SLOT (R420, R421). -/
def rotationSlot (s : State) : State :=
  if !s.sys.dev.serves || !s.rotates then s
  else
    let t := s.getN O.ROT_NEXT
    let s := s.set O.ROT_NEXT (rotAfter t)
    if s.outOfRotation t then s
    else if s.mem.test.isSome || !s.partnerOk t || s.applyingSafe then s.bump O.ROT_SKIPPED
    else s.takeOut t false

/-- ST_OVERDUE: instance t in service has not passed within 30 s (R421). -/
def overdue (t : Nat) (s : State) : State :=
  let last := (s.mem.passAt.lookup t).getD s.sup.startAt
  if s.sys.dev.serves && rotOrder.contains t && !s.outOfRotation t && decide (last + 30000000 ≤ s.now) then s.note .stOverdue t else s

/-! ### Tests on request -/

/-- Refusal of a request for test t at a level (Table 11.8, R425). -/
def State.testRefusal (s : State) (lvl : Lvl) (t : Nat) : Option Nat :=
  if destructive t && decide (lvl.num < Lvl.vnd.num) then some abortLevel
  else if !testExists t then some abortValue
  else if destructive t && (s.otp.lc == 3 || s.sys.dev != .service) then some abortState
  else if !destructive t && (s.sys.dev != .standby || s.sup.readyPhase != .idle || s.sup.entering.isSome) then some abortState
  else if s.requested || s.mem.failed.contains t then some abortState
  else none

/-- ST_REQUEST: the rotation pauses, so a rotating test in progress is cut short (R425). -/
def testRequest (r : Req) (t : Nat) (id : ReqId) (s : State) : State :=
  match s.testRefusal ((s.levelOf r.port r.session).getD .opr) t with
  | some c => s.refuse id c
  | none => (s.testCut.takeOut t true).done id

/-- ST_ABORT: the test on request ends as INCOMPLETE, its block in progress restored (R425); a destructive one ends with the control-die restart. -/
def testAbort (id : ReqId) (s : State) : State :=
  match s.mem.test with
  | none => s.refuse id abortState
  | some x =>
    if !x.onRequest then s.refuse id abortState
    else
      let s := s.testCut.done id
      if destructive x.t then (s.dieReset 6).send s.out else s

/-- MARCH_BLOCK: a 64-word block of the preserving march is saved, tested, restored and verified; 24,576 blocks make the SRAM (R425). -/
def marchBlock (s : State) : State :=
  match s.mem.test with
  | none => s
  | some x => if x.t = 1 ∧ x.blocks < 24576 then { s with mem := { s.mem with test := some { x with blocks := x.blocks + 1 } } } else s

/-! ### The commands -/

def execRotationSlot (s : State) : Host.Outcome State Fault Refusal := .next (rotationSlot s)
def execSelftestDone (t sig cycles detail : Nat) (cut mismatch : Bool) (s : State) : Host.Outcome State Fault Refusal :=
  .next (selftestDone t sig cycles detail cut mismatch s)
def execStOverdue (t : Nat) (s : State) : Host.Outcome State Fault Refusal := .next (overdue t s)
def execStRequest (r : Req) (t : Byte) (s : State) : Host.Outcome State Fault Refusal :=
  .next (s.writeReq r O.ST_REQUEST 0 t.toNat (testRequest r t.toNat))
def execStAbort (r : Req) (s : State) : Host.Outcome State Fault Refusal := .next (s.writeReq r O.ST_ABORT 0 1 testAbort)
def execMarchBlock (s : State) : Host.Outcome State Fault Refusal := .next (marchBlock s)

end Sys2Proof.Machine
end

