-- ==== Sys2Proof/Machine/Startup.lean ====
section
/-! DEFINITION. The end of start-up: results of the power-on set, the restore of the persistent objects, the groups, and the entry into STANDBY (R82, R410, R419, R434, R450, R452, R512). -/

namespace Sys2Proof.Machine

/-! ### Groups -/

/-- The checks of a group's COMMIT by its key; groups without checks of their own pass. -/
def groupCheck (grp : Nat) (s : State) : Option Nat :=
  if grp = O.COMMIT_2A20.key 0 then tempCheck s
  else if grp = O.COMMIT_25FF.key 0 then sensingCheck s
  else if grp = O.COMMIT_24FF.key 0 then positionCheck s
  else if grp = O.COMMIT_22FF.key 0 then fieldCheckAll s
  else if grp = O.COMMIT_2EFF.key 0 then traceCheck .srv s
  else if grp = O.COMMIT_29FF.key 0 then chargerCheck s
  else if grp = O.COMMIT_27FF.key 0 then protectionCheck s
  else if grp = O.COMMIT_20FF.key 0 then mappingCheck s
  else if grp = O.COMMIT_11FF.key 0 then netCheck s
  else if grp = O.COMMIT_2CFF.key 0 then spanCheck s
  else none

/-- The groups, by the key of their COMMIT. -/
def allGroups : List Nat :=
  [O.COMMIT_11FF.key 0, O.COMMIT_2A20.key 0, O.COMMIT_260F.key 0] ++ (List.range 12).map O.COMMIT_ISL.key ++
  [O.COMMIT_25FF.key 0, O.COMMIT_24FF.key 0, O.COMMIT_21FF.key 0, O.COMMIT_22FF.key 0, O.COMMIT_23FF.key 0, O.COMMIT_2EFF.key 0,
   O.COMMIT_29FF.key 0, O.COMMIT_27FF.key 0, O.COMMIT_28FF.key 0, O.COMMIT_2BFF.key 0, O.COMMIT_20FF.key 0, O.COMMIT_2CFF.key 0]

/-- A group's restored values are put in force together; a group that fails its checks keeps its defaults, and its values stay staged (R434). -/
def State.restoreGroup (s : State) (grp : Nat) : State :=
  let vals := s.stagedOf grp
  if vals.isEmpty then s
  else match groupCheck grp s with
    | none => s.applyVals vals
    | some _ => { s with dict := { s.dict with badGroups := s.dict.badGroups ++ [grp] } }.note .groupRestoreFail (grp / 256)

/-! ### Restore -/

/-- The records of a key after an uncorrectable error of its newest one: the next older is used (R410). -/
def PersRec.older (r : PersRec) : Option PersRec :=
  match r.vals with
  | _ :: v :: t => some { r with vals := v :: t, writes := r.writes - 1 }
  | _ => none

/-- Records that a start-up finds usable, the keys in error passed over. -/
def Nv.usable (n : Nv) (bad : List Nat) : List PersRec :=
  n.persist.filterMap fun r => if bad.contains r.key then r.older else some r

/-- One record put in force, or staged for its group. ACTIVE_BANK and the energy counters are system records. -/
def State.restoreRec (s : State) (r : PersRec) : State :=
  match r.vals, findObj r.key with
  | v :: _, some (o, p) =>
    if r.key = O.ACTIVE_BANK.key 0 then { s with nv := { s.nv with activeBank := some v.toNat } }
    else if r.key = O.ENERGY_IMPORT.key 0 ∨ r.key = O.ENERGY_EXPORT.key 0 then s.set o v p
    else if o.acc ≠ .rwp then s
    else if o.grp = 0 then s.set o v p else s.stage o p v
  | _, _ => s

/-- The persistent objects are restored; an error reports PERS_RESTORE_FAIL with the key (R410). -/
def State.restoreAll (s : State) (bad : List Nat) : State :=
  let had := s.nv.persist.filter fun r => bad.contains r.key
  let recs := s.nv.usable bad
  let corr := if bad.contains (O.CORR_DATA.key 0) then none else s.nv.corr
  let bank := if recs.any (fun r => r.key == O.ACTIVE_BANK.key 0) then s.nv.activeBank else none
  let s := { s with nv := { s.nv with persist := recs, corr := corr, activeBank := bank } }
  let s := recs.foldl State.restoreRec s
  had.foldl (fun (s : State) r => s.note .persRestoreFail r.key) s

/-! ### The power-on set -/

/-- Tests of the power-on set (Table 11.7). -/
def powerOnSet : List Nat := [0, 2, 3] ++ rotOrder

/-- Result of one test of the power-on set; a test may fail at several places (R419, R426). -/
def State.powerOnResult (fails : List (Nat × Nat)) (s : State) (t : Nat) : State :=
  let e := s.getN O.EXPECTED_CYCLES t
  let bad := fails.filter fun f => f.1 == t
  match bad with
  | [] => (s.testResult t 1 (Config.expectedSig t e) e 0).testPasses t
  | f :: _ =>
    let s := (s.testResult t 2 (Config.freeNat s.freeIx) e f.2).draw
    bad.foldl (fun (s : State) f => s.testFails true t f.2) s

/-! ### Entry into STANDBY -/

/-- Records that waited for the log: a thermal shutdown with RESET_CAUSE in DETAIL (R92), and a crystal that did not start (R83). -/
def State.lateRecords (s : State) : State :=
  let s := if s.sup.thermLog then s.record 1 5 FaultCode.thermalShutdown.num (s.getN O.RESET_CAUSE) else s
  let s := if s.sup.xtalMissed then s.record 1 5 FaultCode.xtalFail.num 0 else s
  { s with sup := { s.sup with thermLog := false, xtalMissed := false } }

/-- STANDBY is entered once the power-on set, the restore and SI_READY are complete (Table 12.9); island supplies that run are kept (R452). -/
def State.tryStandby (s : State) : State :=
  if s.sys.dev ≠ .selftest ∨ s.sup.selftestDone = false ∨ s.getB O.SI_READY = false then s
  else
    let keep := s.isl.any fun i => i.supplyOn
    let ms := O.START_TIME.ty.fit ((s.now - s.sup.startAt) / 1000 : Nat)
    let s := { (s.set O.START_TIME ms) with sup := { s.sup with keepSupplies := keep, releaseFrom := none }, sys := { s.sys with standbySeen := true } }
    ((((s.toDev .standby).lateRecords).releaseWatch).settleDev).levelActs

/-- POWER_ON_SELFTEST_DONE: failing tests with their detail, keys whose newest record has an uncorrectable error, and whether the parameter half reads. -/
def powerOnDone (fails : List (Nat × Nat)) (nvErrKeys : List Nat) (paramNvOk : Bool) (s : State) : State :=
  if s.sys.dev ≠ .selftest ∨ s.sup.selftestDone = true then s
  else
    let s := powerOnSet.foldl (State.powerOnResult fails) s
    let old := s
    let s := (s.restoreAll nvErrKeys).applyParams paramNvOk
    let s := allGroups.foldl State.restoreGroup s
    let s := (traceHook (netHook old (positionHook old s))).syncField
    let s := s.syncMaps.corrLoad.loadSafety
    let s := { s with sup := { s.sup with selftestDone := true }, fl := { s.fl with verifying := s.nv.activeBank.isSome },
                      mem := { s.mem with scrubFrom := s.now } }
    s.tryStandby

/-- Start-up demand ends for every evaluator that may leave it (R388). -/
def State.startupEnds (s : State) (edge : Bool) : State :=
  (List.range 4).foldl (fun (s : State) e => if s.getB O.ENABLE e then s.startupEnd e edge else s) s

/-- The start-up test that a COMMIT repeats (R397): its pulses check every enabled evaluator, HVIL only when it has changed; a pass counts for those changed. -/
def siRetestDone (fails : List SiFail) (s : State) : State :=
  let ch := s.si.retest
  let bad := fails.filter fun f => s.getB O.ENABLE f.ev.val && (f.ev.val != 1 || ch.contains 1)
  let s := { s with si := { s.si with retest := [] } }
  let s := (ch.filter fun e => s.getB O.ENABLE e && bad.all fun f => f.ev.val != e).foldl State.testPass s
  (bad.foldl (fun (s : State) f => s.testFail f.ev.val f.ch f.kind) s).startupEnds false

/-- SI_STARTUP_TEST_DONE: after the restore, the start-up test of the enabled evaluators ends and sets SI_READY (R387, R388); later it ends a repeated test. -/
def siStartupDone (fails : List SiFail) (s : State) : State :=
  if s.sys.dev.serves ∧ s.si.retest.isEmpty = false then siRetestDone fails s
  else if s.sys.dev ≠ .selftest ∨ s.sup.selftestDone = false ∨ s.getB O.SI_READY = true then s
  else
    let s := (s.testOutcome fails fun _ => true).set O.SI_READY 1
    (s.startupEnds false).tryStandby

/-! ### The commands -/

def execPowerOnSelftestDone (fails : List (Nat × Nat)) (nvErrKeys : List Nat) (paramNvOk : Bool) (s : State) : Host.Outcome State Fault Refusal :=
  .next (powerOnDone fails nvErrKeys paramNvOk s)
def execSiStartupTestDone (fails : List SiFail) (s : State) : Host.Outcome State Fault Refusal := .next (siStartupDone fails s)

end Sys2Proof.Machine
end

