-- ==== Sys2Proof/Machine/Flags.lean ====
section
/-! DEFINITION. The status words and status objects that the manual computes from the state of the module (Tables 4.20, 4.21, 9.11, 9.13, 10.8, 10.9, 11.13, 12.10, 12.12, 12.13, 13.7, 13.8, 14.8), and the status outputs (R393, R394). -/

namespace Sys2Proof.Machine

/-! ### Islands -/

/-- The outputs follow the edge channel (row 6 of Table 1.6) while a carrier or braking drives it. -/
def State.islSwitching (s : State) (i : Island) : Bool :=
  i.live && i.verified && !i.uvlo && i.permit && i.token && !i.safeApplied && (s.sys.dev == .run || s.sys.dev == .discharge)

/-- ISL_STATE (Table 4.20). -/
def State.islState (s : State) (i : Island) : Nat :=
  if !i.live then 0 else if !i.trained then 1 else if !i.verified then 2
  else if i.safeApplied then 4 else if s.islSwitching i then 5 else 3

/-- ISL_FLAGS (Table 4.21). -/
def Island.flags (i : Island) : Nat :=
  ofBits [i.powered, i.verified, i.safeApplied, i.claim == .waiting || i.claim == .late, i.latched, i.uvlo, i.bstLow, i.bootstrap, i.permit, i.token,
          i.live && i.linkOk, i.edgeOk, i.preStale]

/-- DIE_ACTIVE: declared dies on a live island, isolated outputs apart (R134). -/
def State.dieActive (s : State) (n : Nat) : Nat :=
  let i := s.isl.getD n State.resetIsland
  ofBits ((List.range 4).map fun k => i.verified && bit (s.get O.DIE_DECL n) k && !(i.outs.getD k State.resetOut).isolated)

/-- One bit for each island. -/
def State.islBits (s : State) (f : Island → Bool) : Nat := ofBits (s.isl.map f)

/-! ### Safety inputs -/

/-- The evaluator is in demand: a failed test, or no non-demand pattern after its start-up demand (R382, R386). -/
def State.inDemand (s : State) (e : Nat) : Bool :=
  s.getB O.ENABLE e && ((s.ev e).failed || (!(s.ev e).startup && !s.quiet e))

/-- The evaluator is in start-up demand; before the configuration has been loaded every evaluator reads so (Table 10.9). -/
def State.inStartup (s : State) (e : Nat) : Bool := (s.getB O.ENABLE e || !s.sup.selftestDone) && (s.ev e).startup

/-- Any evaluator in demand or in start-up demand. -/
def State.safetyDemand (s : State) : Bool := (List.range 4).any fun e => s.inDemand e || s.inStartup e

/-- SI_STATE (Table 10.8). -/
def State.siState (s : State) (e : Nat) : Nat :=
  if !s.getB O.ENABLE e && s.sup.selftestDone then 0
  else if s.getB O.ENABLE e && (s.ev e).failed then 4
  else if (s.ev e).startup then 1
  else if s.inDemand e then 2 else 3

/-- SAFE_N is low (R393). -/
def State.safeNLow (s : State) : Bool := s.safeAct != 0xFF || s.safetyDemand || !s.getB O.SI_READY

/-- FAULT_N is low (R394). -/
def State.faultNLow (s : State) : Bool := !s.sys.standbySeen || s.coll.any

/-- SI_STATUS (Table 10.9). -/
def State.siStatus (s : State) : Nat :=
  ofBits ((List.range 4).map s.inStartup ++ (List.range 4).map s.inDemand ++ [s.getB O.SI_READY, s.safeNLow, s.pins.safeRst])

/-! ### Module -/

/-- LIMITED of STATUS_WORD. -/
def State.limited (s : State) : Bool :=
  if s.charger then s.get O.CHG_LIMIT_CAUSE % 512 != 0 else s.machines.any fun m => s.getN O.LIMIT_CAUSE m / 4 % 512 != 0

/-- The active bank is verified (R291). -/
def State.mapsValid (s : State) : Bool := bit (s.get O.MAP_STATUS) 1 && s.nv.activeBank.isSome && !s.coll.cond .mapActiveInvalid

/-- Bits 0 to 15 of STATUS_WORD (Table 12.10). -/
def State.statusBits (s : State) : List Bool :=
  [s.runRefusal.isNone, s.mapsValid && !s.charger, s.isl.all (fun i => i.verified), s.isl.any s.islSwitching, s.safeAct != 0xFF, s.coll.any,
   !s.coll.reported.isEmpty, s.limited, s.get O.DEG_MODES != 0, s.safetyDemand, s.disch.running, s.cmdT.hold, s.sys.runPending,
   s.dict.blockW.isSome || s.dict.blockR.isSome, !s.sec.sessions.isEmpty, s.get O.CONFIG != s.get O.CONFIG_ACTIVE]

/-- STATUS_WORD (Table 12.10). -/
def State.statusWord (s : State) : Nat := ofBits s.statusBits + s.sys.dev.code * 65536

/-- CLAMP_STATE of a bridge (Table 9.11). -/
def State.clampState (s : State) (b : Nat) : Nat :=
  let c := s.clamps.getD b State.resetClamp
  if s.links ≤ b then 0 else if c.failed then 2 else if c.on || (s.disch.running && s.disch.clampOn) then 1 else 0

/-- HLM_STATUS (Table 9.13): the bits of the last step with PERMIT and FORCED_ASC as they are. -/
def State.hlmStatus (s : State) (m : Nat) : Int :=
  setBit (setBit (s.get O.HLM_STATUS m) 1 s.hlm.permit) 7 s.hlm.forcedAsc

/-- ST_STATE (Table 11.13). -/
def State.stState (s : State) : Nat :=
  match s.mem.test with
  | some x => if x.onRequest then 3 else 2
  | none => if (s.sys.dev == .boot || s.sys.dev == .selftest) && !s.sup.selftestDone then 1 else 0

/-! ### Fault lists -/

def slotCode (x : Option Slot) : Nat := match x with | some y => y.code.num | none => 0
def slotClass (x : Option Slot) : Nat := match x with | some y => y.cls | none => 0

def State.viewFaults (s : State) (o : Obj) (p : Nat) : Option Int :=
  if o = O.ACTIVE_CODE ∨ o = O.SAFE_CAUSE then some (slotCode s.coll.active)
  else if o = O.ACTIVE_CLASS then some (slotClass s.coll.active)
  else if o = O.PENDING_CODE then some (slotCode s.coll.pend)
  else if o = O.PENDING_CLASS then some (slotClass s.coll.pend)
  else if o = O.REPORTED then some ((s.coll.reported.map fun f => f.num).getD p 0)
  else if o = O.LOG_FIRST then some (match s.log.records.head? with | some r => r.seq | none => 0)
  else if o = O.LOG_LAST then some (match s.log.records.getLast? with | some r => r.seq | none => 0)
  else if o = O.SAFE_STATE_ACT then some s.safeAct
  else if o = O.PRELOAD_CHOICE then some s.hlm.choice.num
  else if o = O.CLAMP_STATE then some (s.clampState 0 + 4 * s.clampState 1 : Nat)
  else if o = O.HLM_STATUS then some (s.hlmStatus p)
  else none

/-- Output p of 0..47. -/
def State.outOf (s : State) (p : Nat) : Out := (s.isl.getD (p / 4) State.resetIsland).outs.getD (p % 4) State.resetOut

def State.viewIsl (s : State) (o : Obj) (p : Nat) : Option Int :=
  let i := s.isl.getD p State.resetIsland
  if o = O.ISL_STATE then some (s.islState i)
  else if o = O.ISL_FLAGS then some i.flags
  else if o = O.DIE_ACTIVE then some (s.dieActive p)
  else if o = O.PRELOAD_SEEN then some i.preload.num
  else if o = O.FUNC_DECL then some (funcMask (Fin.ofNat 12 p) (s.get O.FUNC_DECL p))
  else if o = O.ISL_SUPPLY then some (s.islBits fun i => i.powered)
  else if o = O.ISL_VERIFIED then some (s.islBits fun i => i.verified)
  else if o = O.ISL_BOOTSTRAP then some (s.islBits fun i => i.bootstrap)
  else if o = O.ISL_LATCHED then some (s.islBits fun i => i.latched)
  else if o = O.TD_ON_APPLIED then some (s.tdApplied p (s.outOf p).tdBal)
  else if o = O.VG_TRIM_APPLIED then some (s.vgApplied p (s.outOf p).vgBal)
  else if o = O.DRV_EN_LEVEL then some (b2i s.pins.drvEn)
  else none

/-- PT1 in TRACTION-2: the instant of the B1 carrier in the control period of B0 (R245, R247). -/
def State.pt1 (s : State) : Int :=
  let per := s.getN O.CARRIER_PERIOD
  roundQ (mkRat (s.getN O.B1_PHASE * per) 3600) % (per / (1 + s.getN O.UPDATE_MODE) : Nat)

/-- Text of an identity object, NUL-padded. -/
def textNum (t : String) : Int := leNat (t.toList.map fun c => BitVec.ofNat 8 c.toNat)

def State.viewSys (s : State) (o : Obj) (p : Nat) : Option Int :=
  if o = O.STATUS_WORD then some s.statusWord
  else if o = O.DEV_STATE then some s.sys.dev.code
  else if o = O.PREV_STATE then some s.sys.prev.code
  else if o = O.STATE_TIME then some (min ((s.now - s.sys.since) / 1000) 0xFFFFFFFF : Nat)
  else if o = O.CLOCK_STATUS then some (setBit (s.get O.CLOCK_STATUS) 3 (s.isl.any (fun i => i.live) && s.isl.all fun i => !i.live || i.trained))
  else if o = O.CMD_STATUS then some (ofBits [s.cmdT.timedOut, s.cmdT.hold])
  else if o = O.SI_STATUS then some s.siStatus
  else if o = O.SI_STATE then some (s.siState p)
  else if o = O.RST_LEVEL then some (b2i s.pins.safeRst)
  else if o = O.ST_STATE then some s.stState
  else if o = O.BLOCK_W_KEY then some (match s.dict.blockW with | some x => x.key | none => 0)
  else if o = O.BLOCK_W_DONE then some (match s.dict.blockW with | some x => x.done | none => 0)
  else if o = O.BLOCK_W_TOTAL then some (match s.dict.blockW with | some x => x.total | none => 0)
  else if o = O.BLOCK_R_KEY then some (match s.dict.blockR with | some x => x.key | none => 0)
  else if o = O.OP_TIME then some s.opTime
  else if o = O.NODES_EXPECTED then some (setBit (s.get O.NODES_EXPECTED) 0 false)
  else if o = O.PORT_STATE then
    some (let x := s.net.ports.getD p State.resetPort
          if x.quarantined then 2 else if x.up then 1 else 0)
  else if o = O.PTP_STATE then some (if s.getB O.PTP_ENABLE then max 1 (s.get O.PTP_STATE) else 0)
  else if o = O.SYNC_STATE then some (if s.carrier then s.get O.SYNC_STATE else 0)
  else if o = O.PT_INSTANT ∧ p = 0 ∧ s.cfg = 1 then some s.pt1
  else none

/-- KEY of a system record (R408): bits 31..24 are 0x01. -/
def persKey (k : Nat) : Nat :=
  let sys := [O.ACTIVE_BANK.key 0, O.OP_TIME.key 0, O.CORR_DATA.key 0, O.ENERGY_IMPORT.key 0, O.ENERGY_EXPORT.key 0]
  if 0x1000000 ≤ k then (if sys.contains (k - 0x1000000) then k - 0x1000000 else 0)
  else if sys.contains k then 0 else k

def State.viewNv (s : State) (o : Obj) (p : Nat) : Option Int :=
  if o = O.NV_ERASE_MAX then some s.nv.eraseMax
  else if o = O.PERS_KEYS then some s.nv.persist.length
  else if o = O.SPENT_COUNT then some (s.nv.persist.filter fun r => decide (1000000 ≤ r.writes)).length
  else if o = O.PERS_WRITES then some (s.nv.writesOf (persKey (s.getN O.PERS_SELECT)))
  else if o = O.LC_STATE then some s.otp.lc
  else if o = O.DEBUG_STATE then some (if s.otp.lc = 3 then 0 else if s.otp.lc = 0 ∨ s.otp.lc = 4 then 2 else 1)
  else if o = O.OEM_KEY_STATE then some (s.otp.oem.getD p ⟨0, []⟩).state
  else if o = O.VENDOR_REVOKED then some s.otp.vendorRevoked
  else if o = O.ROLLBACK_CTR then some s.otp.rollback
  else if o = O.SLOT_STATE then some ([s.nv.sec.slotA, s.nv.sec.slotB, s.nv.sec.slotR].getD p s.nv.sec.slotA).state
  else if o = O.SLOT_VERSION then some ([s.nv.sec.slotA, s.nv.sec.slotB, s.nv.sec.slotR].getD p s.nv.sec.slotA).version.toNat
  else if o = O.SLOT_ROLLBACK then some ([s.nv.sec.slotA, s.nv.sec.slotB, s.nv.sec.slotR].getD p s.nv.sec.slotA).rollback
  else if o = O.PARAM_STATE then some (if p = 0 then s.nv.sec.half0.state else s.nv.sec.half1.state)
  else if o = O.SESSIONS_OPEN then
    some (ofBits ((List.range 5).map fun c => s.sec.sessions.any fun x => portCode x.port == c))
  else none

/-- Identity of the part (Table 12.12). -/
def viewPart (o : Obj) : Option Int :=
  if o = O.VENDOR_NAME then some (textNum "Icolmas")
  else if o = O.PART_NUMBER then some (textNum "VVZ4810")
  else if o = O.PRODUCT_NAME then some (textNum "Zesko")
  else if o = O.SILICON_STEP then some Config.siliconStep.toNat
  else if o = O.SERIAL_NUMBER then some Config.serialNumber.toNat
  else if o = O.LOT_CODE then some (leNat (Config.lotCode.take 16))
  else if o = O.DATE_CODE then some Config.dateCode.toNat
  else if o = O.BOOT_ROM_VERSION then some Config.bootRomVersion.toNat
  else if o = O.MAC_ADDR then some Config.macAddr.toNat
  else none

/-- Measured objects that no command brings: a free value at each read (assumption 19). -/
def noMeasure : List Obj := [O.VIN_MEAS, O.INPUT_POWER, O.RAIL_MEAS, O.BST_MEAS, O.PERS_LOG_FREE, O.TEC, O.REC]

def State.viewFree (s : State) (o : Obj) (p : Nat) : Option Int :=
  if o = O.BST_MEAS ∧ p % 2 = 1 then some 0
  else if noMeasure.contains o then some (o.ty.fit (Config.measured (s.freeIx + p)))
  else none

/-- Value that a status object shows, where it is no stored value. -/
def State.view (s : State) (o : Obj) (p : Nat) : Option Int :=
  ((((s.viewFaults o p).or (s.viewIsl o p)).or (s.viewSys o p)).or (s.viewNv o p)).or ((viewPart o).or (s.viewFree o p))

/-- Value that an object reads as while nothing is staged. -/
def State.shown (s : State) (o : Obj) (p : Nat) : Int := (s.view o p).getD (s.get o p)

/-- Value that a read returns (R433): of a group member the staged one. -/
def State.value (s : State) (o : Obj) (p : Nat) : Int :=
  match s.staged.find? (o.key p) with
  | some v => if o = O.FUNC_DECL then funcMask (Fin.ofNat 12 p) v else if o = O.NODES_EXPECTED then setBit v 0 false else v
  | none => s.shown o p

end Sys2Proof.Machine
end

