-- ==== Sys2Proof/Machine/Block.lean ====
section
/-! DEFINITION. Block transfers of DOMAIN objects: start, windows, end, abort, and what each owner does with its data (R289, R377, R441..R444, R501, R502, R509, R511). -/

namespace Sys2Proof.Machine

/-! ### Content of DOMAIN objects -/

/-- Bytes of an event record (Table 9.9). -/
def LogRec.bytes (r : LogRec) : List Byte :=
  let body := leBytes 8 r.opTime ++ leBytes 4 r.seq ++ leBytes 2 r.code ++ leBytes 1 r.kind ++ leBytes 1 r.dev ++ Ty.encode .i16 r.speed ++
    leBytes 2 r.vdc ++ Ty.encode .i16 r.temp ++ Ty.encode .i16 r.torque ++ leBytes 4 r.detail ++ leBytes 1 r.safe ++ [0]
  body ++ leBytes 2 (crc16 body).toNat

/-- Bytes of a trace record (Table 7.11). -/
def TraceRec.bytes (r : TraceRec) : List Byte :=
  leBytes 4 r.period ++ leBytes 2 r.flags ++ leBytes 2 r.values.length ++ (r.values.map fun v => leBytes 4 v).flatten

/-- LOG_DATA (R377). -/
def State.logData (s : State) : List Byte :=
  (((s.log.records.filter fun r => decide (s.getN O.LOG_READ_SEQ ≤ r.seq)).take (s.getN O.LOG_READ_COUNT)).map LogRec.bytes).flatten

/-- Cells of the correction layer from a cell number on, one byte each in cell order (R296, R299); the list holds the cells that are not 0, numbers rising. -/
def corrBytes : Nat → List (Nat × Int) → List Byte
  | n, [] => List.replicate (1048576 - n) 0
  | n, (k, v) :: t => List.replicate (k - n) 0 ++ Ty.encode .i8 v ++ corrBytes (k + 1) t

/-- Active header and descriptors (R284, Tables 7.7, 7.15). -/
def State.image (s : State) : List Byte := match s.nv.activeBank with
  | some b => (s.bank b).image
  | none => []

/-- The trace can be read: DONE, or after a stop (R303). -/
def State.traceReads (s : State) : Bool := s.get O.TRACE_STATE == 3 || (s.get O.TRACE_STATE == 0 && s.fl.trace.stopped)

/-- The content of a readable DOMAIN as it stands, or the abort code of its owner. -/
def State.domain (s : State) (key : Nat) : Except Nat (List Byte) :=
  if key = O.SET_HEADER.key 0 then (if s.nv.activeBank.isSome then .ok (padTo 256 (s.image.take 256)) else .error abortState)
  else if key = O.SET_DESC.key 0 then
    (if s.nv.activeBank.isSome then .ok ((s.image.drop 256).take (64 * (s.image.getD 0x13 0).toNat)) else .error abortState)
  else if key = O.CORR_DATA.key 0 then .ok (corrBytes 0 s.fl.corr)
  else if key = O.TRACE_DATA.key 0 then (if s.traceReads then .ok ((s.fl.trace.ring.map TraceRec.bytes).flatten) else .error abortState)
  else if key = O.LOG_DATA.key 0 then .ok s.logData
  else if s.otp.identity then .ok (padTo 64 (Config.devPubkey.take 64)) else .error abortState

/-! ### Owners of write transfers -/

/-- Slot that FW_DATA writes (R509). -/
def State.fwTarget (s : State) : FwSlot :=
  match s.sec.running with
  | some .a => .b
  | some .b => .a
  | _ => if s.durable O.FW_PREFERRED = 1 then .b else .a

/-- Half that PARAM_DATA writes: the one that is not active (R511). -/
def State.paramTarget (s : State) : Bool := match s.nv.sec.activeHalf with
  | some h => !h
  | none => false

/-- Preconditions of the owner at the start (R441); in CHARGER the map store refuses downloads (chapter Field loop). -/
def State.ownerCheck (s : State) (key : Nat) (lvl : Lvl) : Option Nat :=
  if key = O.OEM_KEY_WRITE.key 0 then s.keyWriteCheck lvl
  else if key = O.KEY_BLOB.key 0 then (if s.sys.dev = .standby then none else some abortState)
  else if key = O.SET_DATA.key 0 then (if s.charger then some abortState else none)
  else if key = O.FW_DATA.key 0 then (if s.sec.running = some s.fwTarget then some abortState else none)
  else if key = O.RECOVERY_DATA.key 0 then (if s.sys.dev = .service ∧ s.sec.running ≠ some .recovery then none else some abortState)
  else none

def State.putSlotState (s : State) (k : FwSlot) (st : Nat) : State := s.putSlot k { s.nv.sec.slot k with state := st }

/-- The owner's store enters LOADING (R289, R509, R511). -/
def State.ownerStart (s : State) (key : Nat) : State :=
  if key = O.SET_DATA.key 0 then (s.putBank s.staging ⟨1, none, 0, []⟩).syncMaps
  else if key = O.FW_DATA.key 0 then s.putSlotState s.fwTarget 1
  else if key = O.RECOVERY_DATA.key 0 then s.putSlotState .recovery 1
  else if key = O.PARAM_DATA.key 0 then s.putHalf s.paramTarget { s.nv.sec.half s.paramTarget with state := 1, set := none }
  else s

/-- A slot that is loading enters VERIFYING. -/
def State.slotVerifies (s : State) (k : FwSlot) : State := if (s.nv.sec.slot k).state = 1 then s.putSlotState k 2 else s

def State.halfVerifies (s : State) (h : Bool) : State :=
  if (s.nv.sec.half h).state = 1 then s.putHalf h { s.nv.sec.half h with state := 2 } else s

def State.bankVerifies (s : State) (b : Nat) (data : List Byte) : State :=
  if (s.bank b).state = 1 then (s.putBank b ⟨2, none, 0, data⟩).syncMaps else s

/-- The owner takes the whole of the data: its refusal, if any (R289, R501, R502, R509, R511). -/
def State.ownerEnd (s : State) (key : Nat) (data : List Byte) : Option Nat × State :=
  if key = O.SET_DATA.key 0 then (none, (s.bankVerifies 0 data).bankVerifies 1 data)
  else if key = O.FW_DATA.key 0 then (none, (s.slotVerifies .a).slotVerifies .b)
  else if key = O.RECOVERY_DATA.key 0 then (none, s.slotVerifies .recovery)
  else if key = O.PARAM_DATA.key 0 then (none, (s.halfVerifies false).halfVerifies true)
  else if key = O.OEM_KEY_WRITE.key 0 then s.keyWrite data
  else s.keyBlob data

/-! ### Start (R441) -/

/-- A handle for a new transfer: the next one that the other transfer does not hold. -/
def State.takeHandle (s : State) : Byte × State :=
  let held := fun (h : Byte) => (match s.dict.blockW with | some x => x.handle == h | none => false) ||
    (match s.dict.blockR with | some x => x.handle == h | none => false)
  let h := if held s.dict.nextHandle then s.dict.nextHandle + 1 else s.dict.nextHandle
  (h, { s with dict := { s.dict with nextHandle := h + 1, deadHandles := s.dict.deadHandles.filter fun d => d != h } })

def State.levelReq (s : State) (r : Req) : Lvl := (s.levelOf r.port r.session).getD .opr

/-- Checks of BLOCK_W_START in the order of Table 12.5. -/
def State.startCheck (s : State) (r : Req) (key total window : Nat) : Option Nat :=
  if isSubZero key then some abortAccess
  else match findObj key with
  | none => some abortNoObject
  | some (o, _) =>
    let own := s.ownerCheck key (s.levelReq r)
    if !o.ty.isDomain then some abortCmd
    else if o.acc ≠ .wo then some abortAccess
    else if (s.levelReq r).num < o.lvl.num ∨ own = some abortLevel then some abortLevel
    else if o.guarded ∧ s.sourceOk r.port = false then some abortSource
    else if window = 0 then some abortValue
    else if s.dict.blockW.isSome then some abortState
    else match own with
      | some c => some c
      | none => if o.ty.bytes < total then some abortSize else none

/-- STAGING_SIZE of a port, bytes (R458). -/
def State.stagingBytes (s : State) (p : Port) : Nat := 1024 * s.getN O.STAGING_SIZE (portCode p - 1)

def startW (r : Req) (key total window : Nat) (id : ReqId) (s : State) : State :=
  match s.startCheck r key total window with
  | some c => s.refuse id c
  | none =>
    let w := min window (s.stagingBytes r.port)
    let (h, s) := s.takeHandle
    let x : BlockW := { key := key, port := portBase r.port, handle := h, total := total, window := w, data := [], done := 0, waiting := [],
                        full := 0, ending := none, dropped := 0 }
    ({ s with dict := { s.dict with blockW := some x } }.ownerStart key).reply id (.ok (leBytes 4 w ++ [h]))

/-- Checks of BLOCK_R_START, then the content is fixed (R443). -/
def startR (r : Req) (key : Nat) (id : ReqId) (s : State) : State :=
  if isSubZero key then s.refuse id abortCmd
  else match findObj key with
  | none => s.refuse id abortNoObject
  | some (o, _) =>
    if !o.ty.isDomain then s.refuse id abortCmd
    else if o.acc = .wo then s.refuse id abortAccess
    else if (s.levelReq r).num < o.lvl.num then s.refuse id abortLevel
    else if s.dict.blockR.isSome then s.refuse id abortState
    else match s.domain key with
      | .error c => s.refuse id c
      | .ok data =>
        let (h, s) := s.takeHandle
        { s with dict := { s.dict with blockR := some ⟨key, portBase r.port, h, data⟩ } }.reply id (.ok (leBytes 4 data.length ++ [h]))

/-! ### Windows (R442) -/

/-- The write transfer that a frame names. -/
def State.writing (s : State) (p : Port) (h : Byte) : Option BlockW := s.dict.blockW.filter fun x => x.handle == h && x.port == portBase p

def State.reading (s : State) (p : Port) (h : Byte) : Option BlockR := s.dict.blockR.filter fun x => x.handle == h && x.port == portBase p

def State.putW (s : State) (x : BlockW) : State := { s with dict := { s.dict with blockW := some x } }

/-- Everything received so far ends a window. -/
def BlockW.whole (x : BlockW) : Bool := !x.data.isEmpty && (x.data.length % x.window == 0 || x.data.length == x.total)

/-- A segment lies at the next offset, within the total, inside one window, and has a window buffer to go to. -/
def BlockW.fits (x : BlockW) (offset n : Nat) : Bool :=
  offset == x.data.length && decide (offset + n ≤ x.total) && decide (offset % x.window + n ≤ x.window) && decide (x.full < 2)

/-- The NV interface serves the staging write of a full window when it has nothing else (R407). -/
def State.nvKick (s : State) : State := if s.mem.serving.isSome then s else { s with mem := { s.mem with serving := s.nvNext } }

/-- BLOCK_W_DATA: stored, or discarded and counted; it has no reply but its refusal. -/
def blockData (r : Req) (h : Byte) (offset : Nat) (data : List Byte) (id : ReqId) (s : State) : State :=
  match s.writing r.port h with
  | none => s.refuse id abortHandle
  | some x =>
    if x.fits offset data.length then
      let x := { x with data := x.data ++ data }
      (s.putW (if x.whole && !data.isEmpty then { x with full := x.full + 1 } else x)).nvKick.send []
    else (s.putW { x with dropped := x.dropped + 1 }).send []

/-- BLOCK_W_WINDOW: NEXT_OFFSET at once, or once the other window buffer is free. -/
def blockWindow (r : Req) (h : Byte) (id : ReqId) (s : State) : State :=
  match s.writing r.port h with
  | none => s.refuse id abortHandle
  | some x =>
    if x.whole && decide (2 ≤ x.full) then (s.putW { x with waiting := x.waiting ++ [id] }).defer id
    else s.reply id (.ok (leBytes 4 x.data.length))

/-! ### End -/

/-- Every byte has been passed on: CRC, owner, and the reply (R442). -/
def State.finishW (s : State) (x : BlockW) (crc : Word) (answer : State → Reply → State) : State :=
  if crc32 x.data ≠ crc then answer s.abortW (.abort abortCrc)
  else
    let (why, s) := s.ownerEnd x.key x.data
    let s := { s with dict := { s.dict with blockW := none } }.unnote .blockAborted
    match why with
    | some c => answer s (.abort c)
    | none => answer s (.ok [])

/-- An answer to a request that has not been deferred. -/
def State.answer (id : ReqId) (s : State) (r : Reply) : State := match r with
  | .ok d => s.reply id (.ok d)
  | .abort c => s.refuse id c

def blockEnd (r : Req) (h : Byte) (crc : Word) (id : ReqId) (s : State) : State :=
  match s.writing r.port h with
  | none => s.refuse id abortHandle
  | some x =>
    if x.data.length < x.total ∨ x.ending.isSome = true then s.refuse id abortState
    else if x.full = 0 then s.finishW x crc (State.answer id)
    else (s.putW { x with ending := some (id, crc) }).defer id

/-- BLOCK_WINDOW_FREE: the oldest full window has passed to its owner; what waited for it is answered. -/
def windowFree (s : State) : State :=
  match s.dict.blockW with
  | none => s
  | some x =>
    if x.full = 0 then s
    else
      let y := { x with full := x.full - 1, done := min (x.done + x.window) x.data.length, waiting := [] }
      let s := x.waiting.foldl (fun (s : State) id => State.alsoSent (fun s => s.replyLate id (.ok (leBytes 4 x.data.length))) s) ((s.putW y).send [])
      match y.ending with
      | some (id, crc) =>
        if y.full = 0 then
          State.alsoSent (fun s => (s.putW { y with ending := none }).finishW { y with ending := none } crc fun s r => s.replyLate id r) s
        else s
      | none => s

/-! ### Reading (R443) -/

/-- The read transfer has returned its last byte; a repeating trace arms again (R303). -/
def State.readDone (s : State) (x : BlockR) : State :=
  let s := { s with dict := { s.dict with blockR := none } }.unnote .blockAborted
  if x.key = O.TRACE_DATA.key 0 ∧ s.get O.TRACE_MODE = 2 then s.traceArm else s

def blockRead (r : Req) (h : Byte) (offset len : Nat) (id : ReqId) (s : State) : State :=
  match s.reading r.port h with
  | none => s.refuse id abortHandle
  | some x =>
    let bytes := (x.data.drop offset).take (min len (s.maxRequest r.port - 8))
    let s := if x.data.length ≤ offset + bytes.length then s.readDone x else s
    s.reply id (.ok bytes)

/-! ### Abort (R444) -/

/-- Requests that a write transfer keeps are refused, and it ends as aborted. -/
def State.cutW (s : State) (x : BlockW) (code : Nat) : State :=
  let ids := x.waiting ++ (x.ending.map fun e => e.1).toList
  let s := (s.putW { x with waiting := [], ending := none }).abortW
  ids.foldl (fun (s : State) id => State.alsoSent (fun s => s.replyLate id (.abort code)) s) s

def blockAbort (r : Req) (h : Byte) (id : ReqId) (s : State) : State :=
  match s.writing r.port h, s.reading r.port h with
  | some x, _ => State.alsoSent (fun s => s.done id) ((s.send []).cutW x abortHandle)
  | none, some _ => s.abortR.done id
  | none, none => s.refuse id abortHandle

/-- BLOCK_IDLE_TIMEOUT of the write or of the read transfer. -/
def blockIdle (write : Bool) (s : State) : State :=
  if write then (match s.dict.blockW with | some x => (s.send []).cutW x abortTimeout | none => s) else s.abortR

/-! ### The commands -/

/-- Key that an index and a subindex name. -/
def keyOf (idx : Half) (sub : Byte) : Nat := idx.toNat * 256 + sub.toNat

def State.wStartReq (s : State) (r : Req) (key total window : Nat) : State := s.service r 0x10 key (startW r key total window)
def State.wDataReq (s : State) (r : Req) (key : Nat) (h : Byte) (offset : Nat) (data : List Byte) : State := s.service r 0x11 key (blockData r h offset data)
def State.wWindowReq (s : State) (r : Req) (key : Nat) (h : Byte) : State := s.service r 0x12 key (blockWindow r h)
def State.wEndReq (s : State) (r : Req) (key : Nat) (h : Byte) (crc : Word) : State := s.service r 0x13 key (blockEnd r h crc)
def State.rStartReq (s : State) (r : Req) (key : Nat) : State := s.service r 0x18 key (startR r key)
def State.rDataReq (s : State) (r : Req) (key : Nat) (h : Byte) (offset len : Nat) : State := s.service r 0x19 key (blockRead r h offset len)
def State.abortReq (s : State) (r : Req) (key : Nat) (h : Byte) : State := s.service r 0x1F key (blockAbort r h)

def execBlockWStart (r : Req) (idx : Half) (sub : Byte) (total window : Nat) (s : State) : Host.Outcome State Fault Refusal :=
  .next (s.wStartReq r (keyOf idx sub) total window)
def execBlockWData (r : Req) (idx : Half) (sub : Byte) (handle : Byte) (offset : Nat) (data : List Byte) (s : State) : Host.Outcome State Fault Refusal :=
  .next (s.wDataReq r (keyOf idx sub) handle offset data)
def execBlockWWindow (r : Req) (idx : Half) (sub : Byte) (handle : Byte) (s : State) : Host.Outcome State Fault Refusal :=
  .next (s.wWindowReq r (keyOf idx sub) handle)
def execBlockWindowFree (s : State) : Host.Outcome State Fault Refusal := .next (windowFree s)
def execBlockWEnd (r : Req) (idx : Half) (sub : Byte) (handle : Byte) (crc : Word) (s : State) : Host.Outcome State Fault Refusal :=
  .next (s.wEndReq r (keyOf idx sub) handle crc)
def execBlockRStart (r : Req) (idx : Half) (sub : Byte) (s : State) : Host.Outcome State Fault Refusal := .next (s.rStartReq r (keyOf idx sub))
def execBlockRData (r : Req) (idx : Half) (sub : Byte) (handle : Byte) (offset len : Nat) (s : State) : Host.Outcome State Fault Refusal :=
  .next (s.rDataReq r (keyOf idx sub) handle offset len)
def execBlockAbort (r : Req) (idx : Half) (sub : Byte) (handle : Byte) (s : State) : Host.Outcome State Fault Refusal :=
  .next (s.abortReq r (keyOf idx sub) handle)
def execBlockIdleTimeout (write : Bool) (s : State) : Host.Outcome State Fault Refusal := .next (blockIdle write s)

end Sys2Proof.Machine
end

