-- ==== Sys2Proof/Machine/Dictionary.lean ====
section
/-! DEFINITION. READ and WRITE of any object, unknown commands, service frames as bytes, and process frames (R430..R437, R440, R445..R447, R464..R467). -/

namespace Sys2Proof.Machine

/-! ### READ -/

def readValue (r : Req) (key : Nat) (id : ReqId) (s : State) : State :=
  if isSubZero key then s.reply id (.ok (leBytes 1 (highSub (key / 256))))
  else match findObj key with
  | none => s.refuse id abortNoObject
  | some (o, p) =>
    if o.ty.isDomain then s.refuse id abortCmd
    else if o.acc = .wo then s.refuse id abortAccess
    else if o.acc = .ro ∧ (s.levelReq r).num < o.lvl.num then s.refuse id abortLevel
    else
      let b := o.ty.encode (s.value o p)
      (if noMeasure.contains o then s.draw else s).reply id (.ok b)

def State.readReq (s : State) (r : Req) (key : Nat) : State := s.service r 0x01 key (readValue r key)

/-! ### WRITE of an object without a row of its own -/

/-- Records accepted only in STANDBY (R97, R151, R199, R242, R397, R455). -/
def standbyOnly (o : Obj) : Bool :=
  o.idx == 0x2611 || o == O.CONFIG || (decide (0x2800 ≤ o.idx) && decide (o.idx ≤ 0x28FF)) ||
  (o.idx == 0x2500 && decide (o.sub ≤ 3)) || o.idx == 0x2502 || (o.idx == 0x2550 && decide (o.sub ≤ 3)) ||
  (o.idx == 0x2400 && decide (o.sub ≤ 3)) || (o.idx == 0x2408 && o.sub == 1) || (o.idx == 0x240A && decide (o.sub ≤ 3)) ||
  (o.idx == 0x240B && decide (o.sub ≤ 4)) || (o.idx == 0x240D && decide (o.sub ≤ 3))

/-- Records accepted only in STANDBY and READY (R243, R363, R455, R496). -/
def standbyReady (o : Obj) : Bool :=
  o == O.CARRIER_FREQ || o == O.UPDATE_MODE || o == O.B1_PHASE || o == O.ARRANGEMENT || o.idx == 0x2710 || o.idx == 0x2718 || o == O.CMD_SOURCE ||
  (decide (0x2040 ≤ o.idx) && decide (o.idx ≤ 0x204F)) || (decide (0x1100 ≤ o.idx) && decide (o.idx ≤ 0x11FF)) ||
  (decide (0x2C00 ≤ o.idx) && decide (o.idx ≤ 0x2C0F))

/-- The object belongs to a converter group that the module fills (R157, R199), or to a unit held in meter configuration (R337). -/
def State.heldObj (s : State) (o : Obj) (p : Nat) : Bool :=
  let g := p / o.subs
  (o.idx == 0x2508 && (g == 0 || (g == 1 && s.cfg == 1))) ||
  (o.idx == 0x2520 && decide (o.sub ≤ 8) && s.charger && decide (g < if s.get O.GRID_MODE = 2 then 2 else 6))

/-- Abort code that the owner gives a write of an object without a row of its own; Table 12.5 sets the order. -/
def State.ownerRule (s : State) (o : Obj) (p : Nat) (v : Int) : Option Nat :=
  if (o = O.MIN_PARAM_VERSION ∨ o = O.MIN_SET_VERSION) ∧ v < s.get o p then some abortValue
  else if o = O.STAGING_SIZE ∧ v % 4 ≠ 0 then some abortValue
  else if o = O.INDEX_POS ∧ 4 * s.planned O.ENC_LINES ≤ v then some abortValue
  else if o = O.CMD_MODE ∧ v = 1 ∧ s.get O.SPAN_ROLE = 1 ∧ s.get O.DIST_MODE = 1 then some abortValue
  else if o = O.ASC_BRAKE_CMD then s.brakeRefusal p v
  else if o = O.PCMP_VALUE ∧ bit (s.get O.PCMP_MODE p) 3 = true ∧ (v < 0 ∨ (s.turn (pcmpCh (s.get O.PCMP_MODE p)) : Int) ≤ v) then some abortValue
  else if standbyOnly o ∧ s.sys.dev ≠ .standby then some abortState
  else if standbyReady o ∧ s.sys.dev ≠ .standby ∧ s.sys.dev ≠ .ready then some abortState
  else if s.heldObj o p then some abortState
  else if o = O.ROT_ENABLE ∧ s.otp.lc = 3 then some abortState
  else none

/-- A value written to an RW object acts at once (R341, R357, R446). -/
def State.putNow (s : State) (o : Obj) (p : Nat) (v : Int) : State :=
  let s := { s.set o v p with dict := { s.dict with procVals := s.dict.procVals.drop (o.key p) } }
  if o = O.CMD_MODE ∨ o = O.TQ_LIM_POS ∨ o = O.TQ_LIM_NEG then s.hlmSee p false else s

/-- The write of a value: staged, stored or queued for durability (R409, R433). -/
def writeValue (o : Obj) (p : Nat) (v : Int) (id : ReqId) (s : State) : State :=
  match s.ownerRule o p v with
  | some c => s.refuse id c
  | none =>
    if o.acc = .rwp then s.persist id (o.key p) v
    else if o.grp ≠ 0 then (s.stage o p v).done id
    else (s.putNow o p v).done id

/-- PT1 cannot be written in TRACTION-2 (R247). -/
def State.noWrite (s : State) (o : Obj) (p : Nat) : Bool := o == O.PT_INSTANT && p == 0 && s.cfg == 1

def State.writeGeneric (s : State) (r : Req) (o : Obj) (p : Nat) (v : Int) : State :=
  if s.noWrite o p then s.service r 0x02 (o.key p) fun id s => s.refuse id abortAccess
  else s.writeReq r o p v (writeValue o p v)

/-! ### Any WRITE -/

/-- State after an outcome; a write answers a next state. -/
def stateOf (x : Host.Outcome State Fault Refusal) (s : State) : State := match x with
  | .next t => t
  | _ => s

/-- A write of an object that has a row of its own: that row, its measured operands drawn as free values (assumption 19). -/
def State.writeOwn (s : State) (r : Req) (o : Obj) (p : Nat) (v : Int) : Option (Host.Outcome State Fault Refusal) :=
  let b8 := BitVec.ofInt 8 v
  let b32 := BitVec.ofInt 32 v
  let n12 : IslIx := Fin.ofNat 12 p
  let m2 : Fin 2 := Fin.ofNat 2 p
  let rg := (List.range 4).map fun k => (Config.measured (s.freeIx + k)).toNat
  let ntc := Config.measured (s.freeIx + 4)
  let ok := Config.freeBit s.freeIx
  if o = O.COMMIT_2A20 then some (execTempCommit r s)
  else if o = O.RESET_CAUSE then some (execResetCauseClear r (BitVec.ofInt 16 v) s)
  else if o = O.CAL_CMD then some (if v = 1 then execCalCmdFirst r n12 rg ntc s.draw else execCalCmdSecond r n12 rg ntc s.draw)
  else if o = O.COMMIT_260F then some (execIslandGlobalCommit r s)
  else if o = O.COMMIT_ISL then some (execIslandCommit r n12 s)
  else if o = O.CAL_REQUEST then some (execCalRequest r b8 s)
  else if o = O.COMMIT_25FF then some (execSensingCommit r s)
  else if o = O.ALIGN_CMD then some (execAlignCmd r m2 s)
  else if o = O.PCMP_VALUE then some (execPcmpValueWrite r (Fin.ofNat 4 p) v s)
  else if o = O.PCMP_MODE then some (execPcmpModeWrite r (Fin.ofNat 4 p) b8 s)
  else if o = O.COMMIT_24FF then some (execPositionCommit r s)
  else if o = O.TORQUE_CMD then some (execTorqueCmd r m2 b32 s)
  else if o = O.SPEED_CMD then some (execSpeedCmd r m2 b32 s)
  else if o = O.ASC_BRAKE_CMD then some (execAscBrakeCmd r m2 b8 s)
  else if o = O.COMMIT_21FF then some (execLimitCommit r s)
  else if o = O.COMMIT_22FF then some (execFieldLoopCommit r s)
  else if o = O.ACTIVATE then some (execActivate r s)
  else if o = O.CORR_CMD then some (if v = 1 then execCorrReset r s else if v = 2 then execCorrSave r s else execCorrDelete r s)
  else if o = O.COMMIT_23FF then some (execSolverCommit r s)
  else if o = O.TRACE_CMD then some (if v = 1 then execTraceArm r s else if v = 2 then execTraceForceTrigger r s else execTraceStop r s)
  else if o = O.COMMIT_2EFF then some (execTraceCommit r s)
  else if o = O.I_OUT_CMD then some (execIOutCmd r b32 s)
  else if o = O.RLY_CMD then some (execRlyCmd r b8 s)
  else if o = O.ENERGY_CLEAR then some (execEnergyClear r s)
  else if o = O.COMMIT_29FF then some (execChargerCommit r s)
  else if o = O.DISCH_CMD then some (if v = 1 then execDischStart r s else execDischStop r s)
  else if o = O.COMMIT_27FF then some (execProtectionCommit r ok s.draw)
  else if o = O.LOG_CLEAR then some (execLogClear r s)
  else if o = O.COMMIT_28FF then some (execSiCommit r ok s.draw)
  else if o = O.ST_REQUEST then some (execStRequest r b8 s)
  else if o = O.ST_ABORT then some (execStAbort r s)
  else if o = O.COMMIT_2BFF then some (execSelftestCommit r s)
  else if o = O.CONTROL_WORD then some (.next (s.controlReq r (BitVec.ofInt 16 v)))
  else if o = O.COMMIT_20FF then some (execMappingCommit r s)
  else if o = O.COMMIT_11FF then some (execNetCommit r s)
  else if o = O.COMMIT_2CFF then some (execSpanCommit r s)
  else if o = O.SESSION_CLOSE then some (execSessionClose r b8 s)
  else if o = O.LC_REQUEST then some (execLcRequest r b32 s)
  else if o = O.OEM_KEY_REVOKE then some (execOemKeyRevoke r b8 s)
  else if o = O.FW_CONFIRM then some (execFwConfirm r s)
  else if o = O.FW_PREFERRED then some (execFwPreferred r b8 s)
  else if o = O.PARAM_ACTIVATE then some (execParamActivate r s)
  else none

/-- Data of another length than the type's (Table 12.5). -/
def State.writeLength (s : State) (r : Req) (o : Obj) (key : Nat) : State :=
  s.service r 0x02 key fun id s => s.refuse id ((s.checkAccess r.port (s.levelReq r) o).getD abortLength)

/-- A WRITE request with its data bytes. -/
def State.writeAny (s : State) (r : Req) (key : Nat) (data : List Byte) : State :=
  if isSubZero key then s.service r 0x02 key fun id s => s.refuse id abortAccess
  else match findObj key with
  | none => s.service r 0x02 key fun id s => s.refuse id abortNoObject
  | some (o, p) =>
    if o.ty.isDomain then s.service r 0x02 key fun id s => s.refuse id abortCmd
    else if data.length ≠ o.ty.bytes then s.writeLength r o key
    else
      let v := o.ty.decode data
      if o.accepts v then
        match s.writeOwn r o p v with
        | some x => stateOf x s
        | none => s.writeGeneric r o p v
      else s.writeGeneric r o p v

/-! ### Service frames as bytes (R435) -/

def State.unknownReq (s : State) (r : Req) (cmd key : Nat) : State := s.service r cmd key fun id s => s.refuse id abortCmd

/-- A service frame of the transport: the request whose header and data the bytes hold (Tables 12.3, 12.4); fits says whether LEN agrees with the frame. -/
def State.serveFrame (s : State) (port : Port) (node : Fin 8) (fits : Nat → Bool) (b : List Byte) : State :=
  let u := fun (i n : Nat) => leNat ((b.drop i).take n)
  let len := u 6 2
  let cmd := u 0 1
  let key := u 2 2 * 256 + u 4 1
  let d := (b.drop 8).take len
  let f := fun (i n : Nat) => leNat ((d.drop i).take n)
  let good := fits (8 + len) && d.length == len
  let req := fun (ok : Bool) => (⟨port, node, b.getD 1 0, b.getD 5 0, good && ok, if good then 8 + len else b.length⟩ : Req)
  let h := d.getD 0 0
  match cmd with
  | 0x01 => s.readReq (req (len == 0)) key
  | 0x02 => s.writeAny (req true) key d
  | 0x10 => s.wStartReq (req (len == 8)) key (f 0 4) (f 4 4)
  | 0x11 => s.wDataReq (req (decide (8 ≤ len))) key h (f 4 4) (d.drop 8)
  | 0x12 => s.wWindowReq (req (len == 1)) key h
  | 0x13 => s.wEndReq (req (len == 8)) key h (BitVec.ofNat 32 (f 4 4))
  | 0x18 => s.rStartReq (req (len == 0)) key
  | 0x19 => s.rDataReq (req (len == 12)) key h (f 4 4) (f 8 4)
  | 0x1F => s.abortReq (req (len == 1)) key h
  | 0x30 => stateOf (execAuthChallenge (req true) (b.getD 4 0) s) s
  | 0x31 => stateOf (execAuthResponse (req true) (b.getD 4 0) d s) s
  | c => s.unknownReq (req true) c key

/-! ### Receive process frames (R445, R446, R466) -/

/-- Values of a frame: each entry's key with the number its bytes encode. -/
def cutEntries : List Nat → List Byte → List (Nat × Int)
  | [], _ => []
  | e :: es, b =>
    let n := entryBits e / 8
    let v := match findObj (entryKey e) with
      | some (o, _) => o.ty.decode (b.take n)
      | none => 0
    (entryKey e, v) :: cutEntries es (b.drop n)

/-- Abort code of one entry, under the checks of Table 12.5 at level OPR. -/
def State.procEntry (s : State) (port : Port) (e : Nat × Int) : Option Nat :=
  match findObj e.1 with
  | none => some abortNoObject
  | some (o, p) =>
    match s.checkAccess port .opr o with
    | some c => some c
    | none =>
      if !o.accepts e.2 then some abortValue
      else if o = O.CONTROL_WORD then s.ctlRefusal .opr (BitVec.ofInt 16 e.2)
      else s.ownerRule o p e.2

/-- One value: at once for CONTROL_WORD (R449), the compares (R242), host relays (R327) and a worker's fields (R496); else at the next solver step, or at once while no carrier runs. -/
def State.procPut (s : State) (e : Nat × Int) : State :=
  match findObj e.1 with
  | none => s
  | some (o, p) =>
    if o = O.CONTROL_WORD then s
    else if o = O.PCMP_VALUE ∨ o = O.PCMP_MODE then (s.set o e.2 p).armPcmp p
    else if o = O.RLY_CMD ∧ !s.charger then (s.set o e.2 p).hostRelays
    else if s.carrier ∧ o.idx ≠ 0x2C11 then { s with dict := { s.dict with procVals := s.dict.procVals.put e.1 e.2 } }
    else s.set o e.2 p

/-- What a value of the frame does besides: the Helmet's copies (R356), the command timer (R281, R326). -/
def State.procSeen (s : State) (e : Nat × Int) : State :=
  match findObj e.1 with
  | none => s
  | some (o, p) =>
    if o = O.TORQUE_CMD ∨ o = O.SPEED_CMD ∨ o = O.ASC_BRAKE_CMD then s.commandSeen p
    else if o = O.CMD_MODE ∨ o = O.TQ_LIM_POS ∨ o = O.TQ_LIM_NEG then s.hlmSee p false
    else if o = O.I_OUT_CMD then s.currentSeen
    else s

/-- One process write of a list of values: refused whole, or accepted whole (R446). -/
def State.procWrite (s : State) (port : Port) (l : List (Nat × Int)) : State :=
  let cw := l.find? fun e => e.1 == O.CONTROL_WORD.key 0
  match l.findSome? (s.procEntry port) with
  | some c =>
    let s := if cw.isSome then s.set O.LAST_REFUSAL c else s
    (s.bump O.PROC_REJECTED).note .procReject
  | none =>
    let s := match cw with | some e => s.ctlAct none (BitVec.ofInt 16 e.2) | none => s
    let s := l.foldl State.procPut s
    l.foldl State.procSeen s

/-- CMAC of a process frame: the 24 most significant bits under K_p (R466). -/
def State.procMac (s : State) (ident ctr : Nat) (data : List Byte) : Nat :=
  (Config.cmacProc (s.getN O.KEY_GEN 0) ([0x50#8, 0x52#8, 0x4F#8, 0x43#8] ++ leBytes 4 (s.getN O.START_COUNT)) (leBytes 4 ident ++ data ++ leBytes 4 ctr)).toNat / 256

/-- Counter value of the trailer that a received frame carries: the first of the four above the last accepted one that matches (R466). -/
def State.procFresh (s : State) (ident : Nat) (data trailer : List Byte) : Option Nat :=
  let last := (s.net.rxCtr.lookup ident).getD 0
  ([1, 2, 3, 4].map fun k => last + k).find? fun c =>
    decide (c < 2 ^ 32) && c % 256 == leNat (trailer.take 1) && s.procMac ident c data == leNat ((trailer.drop 1).take 3) && trailer.length == 4

/-- Identifier of R466: of the CAN frame, else the frame number (R474). -/
def State.procIdent (s : State) (o : Obj) (port : Nat) (p : Nat) : Nat := if port = 1 then s.getN o p else p

/-- A frame that fails its authentication is rejected whole (R466). -/
def State.procForged (s : State) (port : Port) : State := match port with
  | .can c => (s.bump O.AUTH_FAIL c.val).note .canAuthFail c.val
  | p => s.note .canAuthFail (2 + portCode p)

/-- PROCESS_FRAME: receive frame p at its port. -/
def processFrame (port : Port) (p : Nat) (data : List Byte) (s : State) : State :=
  if !(s.sys.dev.serves && s.portOpen port) || s.get O.PROC_PORT p != portCode port then s
  else
    let ents := entriesOf (fun o q => s.get o q) O.RX_COUNT O.RX_ENTRY p
    let n := mapBytes ents
    let body := data.take n
    if body.length < n then (s.bump O.PROC_REJECTED).note .procReject
    else if s.getB O.PROC_AUTH p then
      let ident := s.procIdent O.PROC_ID (portCode port) p
      match s.procFresh ident body ((data.drop n).take 4) with
      | none => s.procForged port
      | some c =>
        { s with net := { s.net with rxCtr := (ident, c) :: s.net.rxCtr.filter fun x => x.1 != ident } }.procWrite port (cutEntries ents body)
    else s.procWrite port (cutEntries ents body)

/-! ### Transmit process frames (R447, R465, R466) -/

/-- Bytes of a transmit entry as the object shows. -/
def State.entryData (s : State) (e : Nat) : List Byte :=
  if isSubZero (entryKey e) then leBytes 1 (highSub (entryKey e / 256))
  else match findObj (entryKey e) with
    | some (o, p) => o.ty.encode (s.value o p)
    | none => []

/-- A datagram to an address; it waits while the address is not resolved (R473). Kind 0 ARP request, 1 ARP reply, 2 ICMP echo reply, 3 process frame, 4 trace. -/
def State.ethSend (s : State) (kind : Nat) (ip : Word) (data : List Byte) : State :=
  if !s.getB O.ETH_ENABLE || s.get O.LINK_STATE == 0 then s
  else if s.net.arp.contains ip then s.send (s.out ++ [Sent.eth kind ip data])
  else { s with net := { s.net with arpWait := s.net.arpWait ++ [(ip, Sent.eth kind ip data)] } }.send (s.out ++ [Sent.eth 0 ip []])

/-- A frame enters its queue: it replaces an older instance of itself that has not started, in its place (R465, R467). -/
def putQueue (x : CanOut) (busy : Bool) (cap : Nat) (q : List CanOut) : List CanOut × Bool :=
  let head := if busy then q.take 1 else []
  let rest := if busy then q.drop 1 else q
  if rest.any fun y => y.proc == x.proc then (head ++ rest.map (fun y => if y.proc == x.proc then x else y), true)
  else if q.length < cap then (q ++ [x], false) else (q, false)

def State.canProc (s : State) (p : Nat) (data : List Byte) : State :=
  let c := s.getN O.HOST_CH_ACTIVE
  let x : CanOut := ⟨⟨BitVec.ofNat 32 (s.getN O.TX_ID p), true, padTo (dlcLen data.length) data⟩, some p⟩
  let ch := s.canCh c
  if !s.canHost c then s
  else
    let safety := s.get O.TX_QUEUE p == 0
    let (q, old) := if safety then putQueue x (ch.sending == some 0) 4 ch.safety else putQueue x (ch.sending == some 1) 16 ch.process
    let s := s.updCan c fun y => if safety then { y with safety := q } else { y with process := q }
    (if old then s.bump O.TX_REPLACED p else s).canKick c

/-- TX_PROCESS_SAMPLE: frame p is sampled, given its trailer, and enters its transport. -/
def txSample (p : Nat) (s : State) : State :=
  if !s.sys.dev.serves || s.get O.TX_CYCLE p == 0 then s
  else
    let s := s.send []
    let body := ((entriesOf (fun o q => s.get o q) O.TX_COUNT O.TX_ENTRY p).map s.entryData).flatten
    let port := s.getN O.TX_PORT p
    let ident := s.procIdent O.TX_ID port p
    let c := (s.net.txCtr.lookup ident).getD 0 + 1
    let auth := s.getB O.TX_AUTH p
    if auth && decide (2 ^ 32 ≤ c) then s
    else
      let data := if auth then body ++ leBytes 1 c ++ leBytes 3 (s.procMac ident c body) else body
      let s := if auth then { s with net := { s.net with txCtr := (ident, c) :: s.net.txCtr.filter fun x => x.1 != ident } } else s
      let s := { s with net := { s.net with samples := s.net.samples.set p data } }
      match port with
      | 1 => s.canProc p data
      | 2 => s.ethSend 3 (BitVec.ofNat 32 (s.getN O.PROC_DEST)) (leBytes 4 p ++ data)
      | _ => s

/-! ### The commands -/

def execRead (r : Req) (idx : Half) (sub : Byte) (s : State) : Host.Outcome State Fault Refusal := .next (s.readReq r (keyOf idx sub))
def execWrite (r : Req) (idx : Half) (sub : Byte) (data : List Byte) (s : State) : Host.Outcome State Fault Refusal :=
  .next (s.writeAny r (keyOf idx sub) data)
def execUnknownCmd (r : Req) (cmd : Byte) (idx : Half) (sub : Byte) (s : State) : Host.Outcome State Fault Refusal :=
  .next (s.unknownReq r cmd.toNat (keyOf idx sub))
/-- BUSY_HOLD_EXPIRY (R440). -/
def execBusyHoldExpiry (s : State) : Host.Outcome State Fault Refusal := .next { s with dict := { s.dict with busyHold := none } }
def execProcessFrame (port : Port) (p : Fin 8) (data : List Byte) (s : State) : Host.Outcome State Fault Refusal := .next (processFrame port p.val data s)
def execTxProcessSample (p : Fin 8) (s : State) : Host.Outcome State Fault Refusal := .next (txSample p.val s)

end Sys2Proof.Machine
end

