-- ==== Sys2Proof/Machine/Network.lean ====
section
/-! DEFINITION. CAN FD, Ethernet and the SPI host port (R461..R479). -/

namespace Sys2Proof.Machine

/-! ### CAN FD -/

/-- Node of a service identifier of the host channel's block (R464). -/
def State.serviceNode (s : State) (c : Nat) (ident : Nat) : Option Nat :=
  let base := s.getN O.SRV_RX_ID (s.idsOf c)
  (List.range 8).find? fun n => base + n == ident

/-- Receive process frame of an identifier (R465). -/
def State.procOf (s : State) (ident : Nat) : Option Nat :=
  (List.range 8).find? fun p => s.get O.PROC_PORT p == 1 && s.getN O.PROC_ID p == ident

/-- The identifier is one that the host channel takes (R469, R471). -/
def State.hostIdent (s : State) (ident : Nat) : Bool :=
  (s.serviceNode (s.getN O.HOST_CH_ACTIVE) ident).isSome || (s.procOf ident).isSome

/-- An accepted frame is consumed: a classical one on a service identifier is discarded and counted (R464). -/
def State.canConsume (s : State) (c : Fin 4) (f : CanFrame) : State :=
  match s.serviceNode c.val f.ident.toNat with
  | some n => if f.fd then s.serveFrame (.can c) (Fin.ofNat 8 n) (fun k => dlcLen k == f.data.length) f.data else s.bump O.REQ_ABORTED
  | none => match s.procOf f.ident.toNat with
    | some p => processFrame (.can c) p f.data s
    | none => s

/-- CAN_FRAME_RECEIVE (R463, R469): a redundant channel executes none; a host channel takes the frames of its identifiers while a receive entry is free. -/
def canReceive (c : Fin 4) (f : CanFrame) (full : Bool) (s : State) : State :=
  if !s.sys.dev.serves || (s.canCh c.val).busOff then s
  else if s.canHost c.val then
    if !s.hostIdent f.ident.toNat then s
    else if full then (s.bump O.RX_OVERFLOW c.val).note .canRxOverflow c.val
    else
      let s := s.updCan c.val fun x => { x with lastRx := s.now }
      ({ s with net := { s.net with redundantHeard := false } }).canConsume c f
  else if s.get O.CAN_ROLE c.val = 2 ∧ s.net.failedCh = none ∧ s.hostIdent f.ident.toNat then
    { s with net := { s.net with redundantHeard := true } }
  else s

/-- A place of SERVICE frees: the oldest reply that waits in its buffers enters (R467). -/
def State.canRefill (s : State) (c : Nat) : State :=
  let x := s.canCh c
  match x.held with
  | [] => s
  | (id, f) :: rest =>
    if x.service.length < 8 then
      { s.updCan c (fun y => { y with service := y.service ++ [f], held := rest }) with dict := { s.dict with poolUsed := s.dict.poolUsed - id.bufs } }
    else s

/-- CAN_FRAME_SENT (R467): the frame on the bus ends, or loses arbitration and stays queued; the head of the highest non-empty queue comes next. -/
def canSent (c : Fin 4) (lostArb : Bool) (s : State) : State :=
  match (s.canCh c.val).sending with
  | none => s
  | some q =>
    let gone := fun (y : CanChan) =>
      if lostArb then { y with sending := none }
      else match q with
        | 0 => { y with sending := none, safety := y.safety.drop 1 }
        | 1 => { y with sending := none, process := y.process.drop 1 }
        | _ => { y with sending := none, service := y.service.drop 1 }
    ((((s.send []).updCan c.val gone).canRefill c.val).canKick c.val)

/-- Queued frames of a channel. -/
def CanChan.queued (x : CanChan) : Nat := x.safety.length + x.process.length + x.service.length

/-- The redundant channel of a host channel, if one exists (R463, R471). -/
def State.redundant (s : State) : Option Nat :=
  let r := s.getN O.REDUNDANT_CH
  if s.net.failedCh = none ∧ r < 4 ∧ s.get O.CAN_ROLE r = 2 then some r else none

/-- The takeover of R471: the redundant channel carries every frame of the failed one, whose sessions are closed. -/
def State.canTakeover (s : State) : State :=
  match s.net.takeover with
  | none => s
  | some r =>
    let f := s.getN O.HOST_CH_ACTIVE
    let x := s.canCh f
    let s := { s with net := { s.net with takeover := none, failedCh := some f } }
    let s := s.updCan r fun y => { y with safety := x.safety, process := x.process, service := x.service, held := x.held, lastRx := s.now }
    let s := (s.updCan f fun y => { y with safety := [], process := [], service := [], held := [], sending := none }).set O.HOST_CH_ACTIVE r
    let s := s.endSessions fun y => y.port == .can (Fin.ofNat 4 f)
    (s.degrade 8 .canTakeover).canKick r

/-- The host channel is declared failed (R471): a redundant channel takes over at the next control-period boundary, or at once while no carrier runs. -/
def State.hostFailed (s : State) : State :=
  if s.net.takeover.isSome then s
  else match s.redundant with
    | none => s.note .canHostLost
    | some r =>
      let s := { s with net := { s.net with takeover := some r } }
      if s.carrier then s else s.canTakeover

/-- CAN_BUS_OFF (R470): every queued frame is discarded and counted; the third within 10 s fails a host channel (R471). -/
def canBusOff (c : Fin 4) (s : State) : State :=
  let x := s.canCh c.val
  if !s.sys.dev.runs || x.busOff || s.get O.CAN_ROLE c.val == 0 || s.get O.CAN_ROLE c.val == 3 || s.net.failedCh == some c.val then s
  else
    let at' := s.now :: x.offAt.filter fun t => decide (s.now < t + 10000000)
    let s := (s.send []).updCan c.val fun y =>
      { y with safety := [], process := [], service := [], sending := none, lost := y.lost + y.queued, busOff := true, offAt := at' }
    let s := (List.range 8).foldl (fun (s : State) _ => s.canRefill c.val) s
    let s := (s.bump O.BUSOFF_COUNT c.val).note .canBusOff c.val
    if decide (3 ≤ at'.length) && s.canHost c.val then s.hostFailed else s

/-- CAN_BUS_OFF_RECOVERY (R470). -/
def canRecover (c : Fin 4) (s : State) : State :=
  if !(s.canCh c.val).busOff then s
  else (((s.send []).updCan c.val fun y => { y with busOff := false }).unnote .canBusOff c.val).canKick c.val

/-- HOST_TMO_EXPIRY (R471). -/
def hostTimeout (s : State) : State :=
  let x := s.canCh (s.getN O.HOST_CH_ACTIVE)
  if s.sys.dev.serves && s.net.redundantHeard && decide (1000 * s.getN O.HOST_TMO ≤ s.elapsed x.lastRx) then (s.send []).hostFailed else s

/-! ### Ethernet -/

def State.ethUp (s : State) : Bool := s.sys.dev.runs && s.getB O.ETH_ENABLE && s.get O.LINK_STATE != 0

/-- ETH_LINK_CHANGE (R472): a link that drops reports, and leaves when it returns. -/
def linkChange (speed : Fin 5) (s : State) : State :=
  if !(s.sys.dev.runs && s.getB O.ETH_ENABLE) then s
  else
    let had := s.get O.LINK_STATE != 0
    let s := s.set O.LINK_STATE speed.val
    if speed.val ≠ 0 then s.unnote .ethLinkDown else if had then s.note .ethLinkDown else s

/-- ARP_REQUEST (R473): answered for the module's own address; the sender's address is then resolved, and its datagrams leave. -/
def arpRequest (target senderIp : Word) (s : State) : State :=
  if !s.ethUp || s.getN O.IP_ADDR != target.toNat then s
  else
    let go := (s.net.arpWait.filter fun x => x.1 == senderIp).map fun x => x.2
    let net := { s.net with arp := senderIp :: s.net.arp.filter (fun x => x != senderIp), arpWait := s.net.arpWait.filter fun x => x.1 != senderIp }
    ({ s with net := net }).send (Sent.eth 1 senderIp [] :: go)

/-- ICMP_ECHO (R473). -/
def icmpEcho (dst src : Word) (payload : List Byte) (s : State) : State :=
  if !s.ethUp || s.getN O.IP_ADDR != dst.toNat then s else (s.send []).ethSend 2 src payload

/-- ARP_TIMEOUT (R473): datagrams queued for the address are dropped. -/
def arpTimeout (ip : Word) (s : State) : State :=
  { s with net := { s.net with arpWait := s.net.arpWait.filter fun x => x.1 != ip } }

/-- The port is an 802.1AS end station (R475). -/
def State.ptpOn (s : State) : Bool := s.ethUp && s.getB O.PTP_ENABLE

def ptpMessage (offsetNs : Int) (timeNs : Nat) (s : State) : State :=
  if !s.ptpOn then s
  else (((s.set O.PTP_OFFSET (O.PTP_OFFSET.ty.fit offsetNs)).set O.PTP_TIME (O.PTP_TIME.ty.fit timeNs)).set O.PTP_STATE 2).unnote .ptpUnsync

def ptpLoss (s : State) : State :=
  if !(s.sys.dev.runs && s.getB O.ETH_ENABLE && s.getB O.PTP_ENABLE) then s else (s.set O.PTP_STATE 1).note .ptpUnsync

/-- DATAGRAM_DISCARDED: too large a request (R438), or a length that does not match the content (R474). -/
def datagramDiscarded (tooLarge : Bool) (s : State) : State :=
  if !(s.ethUp && s.sys.dev.serves) then s
  else if tooLarge then s.bump O.REQ_ABORTED else s.bump O.RX_DISCARDED

/-! ### SPI host port -/

/-- A transmit frame of the SPI port has been sampled. -/
def State.procReady (s : State) : Bool :=
  (List.range 8).any fun p => s.get O.TX_PORT p == 3 && !(s.net.samples.getD p []).isEmpty

/-- BUSY: the pool could not take a 2,048-byte request (R479, R439, R440). -/
def State.spiBusy (s : State) : Bool :=
  decide (s.poolSize < s.dict.poolUsed + s.bufsFor 2048) ||
  (match s.dict.busyHold with | some p => p != Port.spi | none => false)

/-- STATUS of a transaction (Table 13.2). -/
def State.spiStatus (s : State) : Byte := BitVec.ofNat 8 (ofBits [!s.net.spiQ.isEmpty, s.procReady, s.net.spiBad, s.spiBusy])

/-- What the module shifts out: STATUS, three zeros, then the response (R478). -/
def State.spiOut (s : State) (data : List Byte) : State := s.send [Sent.spi ([s.spiStatus, 0, 0, 0] ++ data)]

/-- A response with its RLEN and CRC-32 (Table 13.2). -/
def spiResponse (data : List Byte) : List Byte :=
  let b := leBytes 2 data.length ++ data
  b ++ leBytes 4 (crc32 b).toNat

def State.spiOpen (s : State) : Bool := s.sys.dev.serves && s.getB O.SPI_ENABLE

/-- A good transaction (R479). -/
def State.spiGood (s : State) : State := ({ s with net := { s.net with spiBad := false } }).unnote .spiFrameErr

/-- A discarded transaction (R479). -/
def State.spiDiscard (s : State) : State :=
  let s := s.spiOut []
  (({ s with net := { s.net with spiBad := true } }).bump O.SPI_ERRORS).note .spiFrameErr

def spiService (node : Fin 8) (data : List Byte) (crcOk : Bool) (s : State) : State :=
  if !s.spiOpen then s
  else if !crcOk then s.spiDiscard
  else State.alsoSent (fun t => t.serveFrame .spi node (fun k => k == data.length) data) (s.spiOut []).spiGood

/-- SPI_SERVICE_RD: the oldest pending reply is clocked out whole, removed, and frees its buffers. -/
def spiRead (s : State) : State :=
  if !s.spiOpen then s
  else match s.net.spiQ with
    | [] => (s.spiOut (spiResponse [])).spiGood
    | (id, r) :: rest =>
      let t := (s.spiOut (spiResponse (replyFrame id r))).spiGood
      { t with net := { t.net with spiQ := rest }, dict := { t.dict with poolUsed := t.dict.poolUsed - id.bufs } }

def spiProcWrite (p : Fin 8) (data : List Byte) (s : State) : State :=
  if !s.spiOpen then s else State.alsoSent (processFrame .spi p.val data) (s.spiOut []).spiGood

def spiProcRead (p : Fin 8) (s : State) : State :=
  if !s.spiOpen then s else (s.spiOut (spiResponse (s.net.samples.getD p.val []))).spiGood

/-! ### The commands -/

def execCanFrameReceive (c : Fin 4) (frame : CanFrame) (full : Bool) (s : State) : Host.Outcome State Fault Refusal := .next (canReceive c frame full s)
def execCanFrameSent (c : Fin 4) (lostArb : Bool) (s : State) : Host.Outcome State Fault Refusal := .next (canSent c lostArb s)
def execCanBusOff (c : Fin 4) (s : State) : Host.Outcome State Fault Refusal := .next (canBusOff c s)
def execCanBusOffRecovery (c : Fin 4) (s : State) : Host.Outcome State Fault Refusal := .next (canRecover c s)
def execHostTmoExpiry (s : State) : Host.Outcome State Fault Refusal := .next (hostTimeout s)
def execEthLinkChange (speed : Fin 5) (s : State) : Host.Outcome State Fault Refusal := .next (linkChange speed s)
def execArpRequest (target senderIp : Word) (s : State) : Host.Outcome State Fault Refusal := .next (arpRequest target senderIp s)
def execIcmpEcho (dst src : Word) (payload : List Byte) (s : State) : Host.Outcome State Fault Refusal := .next (icmpEcho dst src payload s)
def execArpTimeout (ip : Word) (s : State) : Host.Outcome State Fault Refusal := .next (arpTimeout ip s)
def execPtpMessage (offsetNs : Int) (timeNs : Nat) (s : State) : Host.Outcome State Fault Refusal := .next (ptpMessage offsetNs timeNs s)
def execPtpSyncLoss (s : State) : Host.Outcome State Fault Refusal := .next (ptpLoss s)
def execSpiServiceReq (node : Fin 8) (data : List Byte) (crcOk : Bool) (s : State) : Host.Outcome State Fault Refusal := .next (spiService node data crcOk s)
def execSpiServiceRd (s : State) : Host.Outcome State Fault Refusal := .next (spiRead s)
def execSpiProcWr (p : Fin 8) (data : List Byte) (s : State) : Host.Outcome State Fault Refusal := .next (spiProcWrite p data s)
def execSpiProcRd (p : Fin 8) (s : State) : Host.Outcome State Fault Refusal := .next (spiProcRead p s)
def execSpiBadTransaction (s : State) : Host.Outcome State Fault Refusal := .next (if s.spiOpen then s.spiDiscard else s)
def execDatagramDiscarded (tooLarge : Bool) (s : State) : Host.Outcome State Fault Refusal := .next (datagramDiscarded tooLarge s)

end Sys2Proof.Machine
end

