-- ==== Sys2Proof/Machine/Span.lean ====
section
/-! DEFINITION. The Span link (R480..R493): frames, sessions, cyclic commands, synchronisation, ring and conflicts. -/

namespace Sys2Proof.Machine

/-! ### Frames (R482, R483, R485) -/

/-- Bytes that the CMAC covers: header bytes 0x00..0x09 and the payload (R482). -/
def spanBytes (type : Nat) (h : SpanHdr) (data : List Byte) : List Byte :=
  [BitVec.ofNat 8 type, h.src, h.dst, BitVec.ofNat 8 data.length] ++ leBytes 6 h.fresh.toNat ++ data

/-- Context of the session key K_n (R484). -/
def sessionCtx (n : Nat) (nm nw : DWord) : List Byte :=
  [0x53#8, 0x50#8, 0x41#8, 0x4E#8, BitVec.ofNat 8 n] ++ leBytes 8 nm.toNat ++ leBytes 8 nw.toNat

/-- The ring key's generation in force; none is loaded at 0 (R502). -/
def State.ringGen (s : State) : Nat := s.getN O.KEY_GEN 1

/-- The CMAC field holds the CMAC under K_RING, or under the session key of its context (R485). -/
def State.spanMacOk (s : State) (ctx : List Byte) (type : Nat) (h : SpanHdr) (data : List Byte) : Bool :=
  s.ringGen != 0 && Config.cmacRing s.ringGen ctx (spanBytes type h data) == h.cmac

/-- RING_STATE: closed, open at one port, or isolated with none (R492). -/
def State.ringState (s : State) : State :=
  let k := (s.net.ports.filter fun x => x.up && !x.quarantined).length
  s.set O.RING_STATE (if k = 2 then 0 else if k = 1 then 1 else 2)

def State.updPort (s : State) (p : Fin 2) (f : SpanPort → SpanPort) : State := { s with net := { s.net with ports := s.net.ports.modify p.val f } }

/-- A replayed or forged frame (R485, R486): the 16th within 1 s quarantines the port. -/
def State.spanForged (s : State) (p : Fin 2) : State :=
  let s := (s.bump O.PORT_AUTH_FAIL p.val).note .spanAuthFail p.val
  let fails := s.now :: ((s.net.ports.getD p.val State.resetPort).fails.filter fun t => decide (s.now < t + 1000000))
  if fails.length < 16 then s.updPort p fun x => { x with fails := fails }
  else (((s.updPort p fun x => { x with fails := [], quarantined := true }).note .spanQuarantine p.val).note .spanRingOpen p.val).ringState

/-- The frame goes on out of the other port, its CORR raised by the residence time and the link delay (R483). -/
def State.spanForward (s : State) (type : Nat) (h : SpanHdr) (data : List Byte) : State :=
  let other := 1 - h.port
  if h.dst.toNat = s.ownNode ∨ h.dst = 0xFE#8 ∨ h.src.toNat = s.ownNode ∨ 7 ≤ h.hops ∨ s.spanUp other.val = false then s.send []
  else
    let h' : SpanHdr := { h with port := other, corr := h.corr + s.get O.LINK_DELAY h.port.val + Config.freeNat s.freeIx, hops := h.hops + 1 }
    s.draw.send [Sent.spanFwd other type h' data]

/-- The frame is for this node. -/
def State.spanMine (s : State) (h : SpanHdr) : Bool :=
  h.dst.toNat == s.ownNode || h.dst == 0xFE#8 || h.dst == 0xFF#8

/-- Take in a frame: a port that is up passes it on, and a frame for this node reaches its body; what the body sends follows what is passed on. -/
def State.spanIn (s : State) (type : Nat) (h : SpanHdr) (data : List Byte) (body : State → State) : State :=
  if !(s.spanUp h.port.val && h.crcOk) then s
  else if s.spanMine h then State.alsoSent body (s.spanForward type h data)
  else s.spanForward type h data

/-- A frame authenticated with K_RING. -/
def State.spanRing (s : State) (type : Nat) (h : SpanHdr) (data : List Byte) (body : State → State) : State :=
  s.spanIn type h data fun s => if s.spanMacOk [] type h data then body s else s.spanForged h.port

/-- FRESH against the window of R485. -/
def SpanPeer.duplicate (x : SpanPeer) (f : Nat) : Bool := x.seen.contains f
def SpanPeer.replayed (x : SpanPeer) (f : Nat) : Bool := decide (f + 64 < x.high)
def SpanPeer.accept (x : SpanPeer) (f : Nat) : SpanPeer :=
  let high := max x.high f
  { x with high := high, seen := f :: x.seen.filter fun g => decide (high ≤ g + 64) }

/-- Node that names the session with a node: the worker of the two (R484). -/
def State.sessionNode (s : State) (src : Nat) : Nat := if s.worker then s.ownNode else src

/-- A frame of a session (R484, R485): accepted once, in any order within the window. -/
def State.spanSession (s : State) (type : Nat) (h : SpanHdr) (data : List Byte) (body : State → State) : State :=
  s.spanIn type h data fun s =>
    let x := s.peer h.src.toNat
    match x.nonceM with
    | none => s
    | some nm =>
      if !x.joined || 8 ≤ h.src.toNat || h.src.toNat == s.ownNode then s
      else if !s.spanMacOk (sessionCtx (s.sessionNode h.src.toNat) nm x.nonceW) type h data then s.spanForged h.port
      else if x.duplicate h.fresh.toNat then s
      else if x.replayed h.fresh.toNat then s.spanForged h.port
      else body (s.updPeer h.src.toNat fun y => y.accept h.fresh.toNat)

/-! ### Joining (R484, R493) -/

def serialBytes : List Byte := leBytes 8 Config.serialNumber.toNat

/-- A nonce can be drawn and a ring key is loaded (R484, R502, R514). -/
def State.canDraw (s : State) : Bool := !s.sec.trngBad && s.ringGen != 0

/-- ANNOUNCE_TIMER: the manager's nonce is drawn once per start-up. -/
def announceTimer (s : State) : State :=
  if s.get O.SPAN_ROLE ≠ 1 ∨ s.ringGen = 0 then s
  else
    let drawn := if s.net.nonceM.isNone && s.canDraw then { s.draw with net := { s.net with nonceM := some (BitVec.ofNat 64 (Config.trng s.freeIx)) } } else s
    match drawn.net.nonceM with
    | none => drawn
    | some nm =>
      let k := drawn.net.annTx + 1
      (({ drawn with net := { drawn.net with annTx := k } }).send []).spanBoth 0x01 0xFF k (serialBytes ++ leBytes 8 nm.toNat)

/-- JOIN_REQ of the join that runs; the FRESH of a frame outside a session is left open. -/
def State.joinReq (s : State) : State :=
  s.draw.spanBoth 0x02 0 (Config.freeNat s.freeIx % 2 ^ 48) (serialBytes ++ leBytes 8 (s.peer 0).nonceW.toNat)

/-- ANNOUNCE: the manager sees another manager (R493); a worker that is not joined starts a join (R484). -/
def announce (h : SpanHdr) (serial nonce : DWord) (s : State) : State :=
  s.spanRing 0x01 h (leBytes 8 serial.toNat ++ leBytes 8 nonce.toNat) fun s =>
    if s.get O.SPAN_ROLE = 1 then
      if serial = Config.serialNumber then s else (s.set O.SPAN_ROLE 3).note .spanRoleConflict
    else
      let x := s.peer 0
      if x.joined || x.nonceM == some nonce || !s.canDraw then s
      else
        let nw := BitVec.ofNat 64 (Config.trng s.freeIx)
        (s.draw.updPeer 0 fun y => { y with nonceM := some nonce, nonceW := nw }).joinReq

/-- JOIN_RETRY: a worker that is not joined repeats its JOIN_REQ. -/
def joinRetry (s : State) : State :=
  let x := s.peer 0
  if s.worker && !x.joined && x.nonceM.isSome && s.ringGen != 0 then (s.send []).joinReq else s

/-- JOIN_ACK to node n. -/
def State.joinAck (s : State) (n : Nat) (nm nw : DWord) : State :=
  s.draw.spanBoth 0x03 n (Config.freeNat s.freeIx % 2 ^ 48) (leBytes 8 nw.toNat ++ leBytes 8 nm.toNat)

/-- JOIN_REQ at the manager: a joined number with another serial is refused (R493); a repeated request is answered again; else a session begins. -/
def joinRequest (h : SpanHdr) (serial nonce : DWord) (s : State) : State :=
  s.spanRing 0x02 h (leBytes 8 serial.toNat ++ leBytes 8 nonce.toNat) fun s =>
    let n := h.src.toNat
    if s.get O.SPAN_ROLE ≠ 1 ∨ n = 0 ∨ 8 ≤ n then s
    else match s.net.nonceM with
    | none => s
    | some nm =>
      let x := s.peer n
      if s.get O.NODE_STATE (n - 1) = 2 ∧ s.get O.N_SERIAL (n - 1) ≠ serial.toNat then s.note .spanNodeConflict n
      else if x.joined && x.nonceW == nonce && s.get O.NODE_STATE (n - 1) == 2 then s.joinAck n nm nonce
      else
        let s := s.updPeer n fun _ => ⟨true, some nm, nonce, 0, [], 0, s.now⟩
        ((s.set O.N_SERIAL serial.toNat (n - 1)).set O.NODE_STATE 2 (n - 1)).joinAck n nm nonce

/-- JOIN_ACK at the worker: over its own Nw and the Nm it answered. -/
def joinAcked (h : SpanHdr) (nonceM nonceW : DWord) (s : State) : State :=
  s.spanRing 0x03 h (leBytes 8 nonceW.toNat ++ leBytes 8 nonceM.toNat) fun s =>
    let x := s.peer 0
    if !s.worker || x.joined || x.nonceM != some nonceM || x.nonceW != nonceW then s
    else
      let s := s.updPeer 0 fun y => { y with joined := true, high := 0, seen := [], tx := 0 }
      ({ s with net := { s.net with lastCyclic := s.now } }).unnote .spanMgrLost

/-! ### CYCLIC and STATUS (R487..R491) -/

def cyclicBytes (c : CyclicData) : List Byte :=
  leBytes 2 c.controlWord.toNat ++ [c.cmdMode, c.ascBrake] ++
  ([c.torque, c.speed, c.tqPos, c.tqNeg, c.spdPos, c.spdNeg, c.tOfs, c.period].map fun w => leBytes 4 w.toNat).flatten

def spanStatusBytes (d : SpanStatusData) : List Byte :=
  ([d.statusWord, d.torqueEst, d.availPos, d.availNeg, d.speed].map fun w => leBytes 4 w.toNat).flatten ++
  leBytes 2 d.activeCode.toNat ++ [d.safeState, d.syncState] ++ leBytes 2 d.syncErr.toNat

/-- Command fields of a CYCLIC frame as one process write (R487). -/
def State.cyclicFields (s : State) (c : CyclicData) : List (Nat × Int) :=
  if s.charger then [(O.I_OUT_CMD.key 0, (c.torque.toNat : Int))]
  else [(O.CMD_MODE.key 0, (c.cmdMode.toNat : Int)), (O.ASC_BRAKE_CMD.key 0, (c.ascBrake.toNat : Int)), (O.TORQUE_CMD.key 0, (c.torque.toNat : Int)),
        (O.SPEED_CMD.key 0, (c.speed.toNat : Int)), (O.TQ_LIM_POS.key 0, (c.tqPos.toNat : Int)), (O.TQ_LIM_NEG.key 0, (c.tqNeg.toNat : Int)),
        (O.SPEED_LIM_POS.key 0, (c.spdPos.toNat : Int)), (O.SPEED_LIM_NEG.key 0, (c.spdNeg.toNat : Int))]

/-- Difference of an instant from a boundary, taken to the nearest one (0.1 ns). -/
def wrapTo (period d : Int) : Int :=
  if period ≤ 0 then d else
    let r := d % period
    if period < 2 * r then r - period else r

/-- The own boundary less the one aimed at (R488), 0.1 ns; the reception instant counts from the own boundary. -/
def State.syncErr (s : State) (h : SpanHdr) (c : CyclicData) (tFirst : Int) : Int :=
  let per := s.get O.CARRIER_PERIOD
  let mgr := tFirst - h.corr - s.get O.LINK_DELAY h.port.val - c.tOfs.toNat
  let aim := mgr + roundQ (mkRat (s.get O.SPAN_PHASE * per) 3600)
  wrapTo (per / (1 + s.get O.UPDATE_MODE)) (0 - aim)

/-- SYNC_STATE and SPAN_SYNC_LOST after one Span cycle (R488). -/
def State.syncStep (s : State) (err : Int) (mismatch : Bool) : State :=
  let s := s.set O.SYNC_ERR (O.SYNC_ERR.ty.fit err)
  let good := if err.natAbs ≤ 20 ∧ mismatch = false then s.net.syncGood + 1 else 0
  let bad := if s.sys.dev = .run ∧ 200 < err.natAbs then s.net.syncBad + 1 else 0
  let st : Int := if mismatch then 3 else if 100 ≤ good then 2 else 1
  let s := ({ s with net := { s.net with syncGood := good, syncBad := bad } }).set O.SYNC_STATE st
  let s := if 10 ≤ bad then s.note .spanSyncLost else s
  if st = 2 then s.unnote .spanSyncLost else s

/-- STATUS of a worker (Table 13.4). -/
def State.ownStatus (s : State) : SpanStatusData :=
  let w := fun (o : Obj) => BitVec.ofInt 32 (s.shown o 0)
  { statusWord := w O.STATUS_WORD, torqueEst := if s.charger then w O.I_OUT else w O.TORQUE_EST, availPos := if s.charger then 0 else w O.T_AVAIL_POS,
    availNeg := if s.charger then 0 else w O.T_AVAIL_NEG, speed := w O.SPEED, activeCode := BitVec.ofInt 16 (s.shown O.ACTIVE_CODE 0),
    safeState := BitVec.ofNat 8 s.safeAct, syncState := BitVec.ofInt 8 (s.shown O.SYNC_STATE 0), syncErr := BitVec.ofInt 16 (s.get O.SYNC_ERR) }

/-- CONTROL_WORD of a CYCLIC frame, the first of its two writes (R487, R449). -/
def State.cyclicControl (s : State) (w : Half) : State :=
  match s.ctlRefusal .opr w with
  | some c => s.set O.LAST_REFUSAL c
  | none => s.ctlAct none w

/-- CYCLIC at a worker: its timers start again (R490), both writes, synchronisation, and the STATUS that answers. -/
def cyclic (h : SpanHdr) (c : CyclicData) (tFirst : Int) (mismatch : Bool) (s : State) : State :=
  s.spanSession 0x10 h (cyclicBytes c) fun s =>
    if !s.worker || !s.sys.dev.serves then s
    else
      let s := { s with net := { s.net with lastCyclic := s.now }, cmdT := if s.cmdT.running then s.timerRestart else s.cmdT }
      if resetWrite c.controlWord then s.cyclicControl c.controlWord
      else
        let s := (s.cyclicControl c.controlWord)
        let s := s.procWrite (.span 0) (s.cyclicFields c)
        let s := if s.carrier then s.syncStep (s.syncErr h c tFirst) mismatch else { s with net := { s.net with syncGood := 0, syncBad := 0 } }
        s.spanSend 0x11 0 (spanStatusBytes s.ownStatus)

/-- STATUS at the manager (R491). -/
def spanStatus (h : SpanHdr) (d : SpanStatusData) (s : State) : State :=
  s.spanSession 0x11 h (spanStatusBytes d) fun s =>
    let n := h.src.toNat
    let p := n - 1
    if s.get O.SPAN_ROLE ≠ 1 ∨ n = 0 then s
    else
      let s := ((s.set O.N_STATUS_WORD d.statusWord.toNat p).set O.N_TORQUE_EST d.torqueEst.toNat p).set O.N_T_AVAIL_POS d.availPos.toNat p
      let s := ((s.set O.N_T_AVAIL_NEG d.availNeg.toNat p).set O.N_SPEED d.speed.toInt p).set O.N_SAFE_STATE d.safeState.toNat p
      let s := ((s.set O.N_ACTIVE_CODE d.activeCode.toNat p).set O.NODE_STATE 2 p).updPeer n fun y => { y with last := s.now }
      (s.unnote .spanNodeLost n).noteIf (d.safeState != 0xFF#8) .spanNodeSafe n

/-- Smallest N for which the control rate over N is at most SPAN_RATE (R487). -/
def State.spanN (s : State) : Nat :=
  let rate := s.get O.CTRL_RATE
  let lim := 1000 * s.get O.SPAN_RATE
  max 1 ((rate + lim - 1) / lim).toNat

/-- Fields for worker n in relay mode (R489); torque 0 while WORKER_SAFE_ACT holds it (R491). -/
def State.relayFields (s : State) (p : Nat) : CyclicData :=
  let w := fun (o : Obj) => BitVec.ofInt 32 (s.get o p)
  { controlWord := BitVec.ofInt 16 (s.get O.W_CONTROL_WORD p), cmdMode := BitVec.ofInt 8 (s.get O.W_CMD_MODE p),
    ascBrake := BitVec.ofInt 8 (s.get O.W_ASC_BRAKE_CMD p), torque := w O.W_TORQUE_CMD, speed := w O.W_SPEED_CMD, tqPos := w O.W_TQ_LIM_POS,
    tqNeg := w O.W_TQ_LIM_NEG, spdPos := w O.W_SPEED_LIM_POS, spdNeg := w O.W_SPEED_LIM_NEG, tOfs := 0, period := 0 }

/-- A value of machine 0 times SHARE_n / 100, as binary32 (R489). -/
def State.shared (s : State) (o : Obj) (n : Nat) : Word := BitVec.ofNat 32 (f32Of (s.getQ o * mkRat (s.get O.SHARE n) 100))

/-- Fields for worker n in share mode (R489); the fields it does not name are free values. -/
def State.shareFields (s : State) (n : Nat) : CyclicData :=
  { controlWord := BitVec.ofInt 16 (s.get O.W_CONTROL_WORD (n - 1)), cmdMode := 0, ascBrake := if Config.freeBit s.freeIx then 1 else 0,
    torque := s.shared O.TORQUE_CMD n, speed := BitVec.ofNat 32 (Config.freeNat s.freeIx), tqPos := s.shared O.TQ_LIM_POS n, tqNeg := s.shared O.TQ_LIM_NEG n,
    spdPos := BitVec.ofInt 32 (s.get O.SPEED_LIM_POS), spdNeg := BitVec.ofInt 32 (s.get O.SPEED_LIM_NEG), tOfs := 0, period := 0 }

/-- CYCLIC frame to worker n; T_OFS, a time of the port, is a free value. -/
def State.sendCyclic (s : State) (n : Nat) : State :=
  let c := if s.get O.DIST_MODE = 1 then s.shareFields n else s.relayFields (n - 1)
  let c := if s.spanStops then { c with torque := 0 } else c
  let c := { c with tOfs := BitVec.ofNat 32 (Config.freeNat (s.freeIx + 1)), period := BitVec.ofNat 32 (s.getN O.PERIOD_COUNT) }
  ({ s with freeIx := s.freeIx + 2 }).spanSend 0x10 n (cyclicBytes c)

/-- SPAN_CYCLE: at every N-th B0 boundary the manager sends one CYCLIC frame to each joined worker (R487). -/
def spanCycle (s : State) : State :=
  if s.get O.SPAN_ROLE ≠ 1 ∨ (s.carrier = true ∧ s.net.boundaries < s.spanN) then s
  else
    let s := ({ s with net := { s.net with boundaries := 0 } }).send []
    ((List.range 8).filter fun n => n != 0 && s.get O.NODE_STATE (n - 1) == 2).foldl State.sendCyclic s

/-- SPAN_MGR_TIMEOUT (R490): a new join starts with the next ANNOUNCE. -/
def managerLost (s : State) : State :=
  if s.worker && s.sys.dev.runs && decide (1000 * s.getN O.SPAN_TMO ≤ s.elapsed s.net.lastCyclic) then
    let s := s.note .spanMgrLost
    if (s.peer 0).joined then
      let s := s.updPeer 0 fun y => { y with joined := false, nonceM := none }
      ({ s with net := { s.net with syncGood := 0, syncBad := 0 } }).set O.SYNC_STATE 0
    else s
  else s

/-- SPAN_NODE_TIMEOUT (R491). -/
def nodeLost (n : Fin 8) (s : State) : State :=
  let p := n.val - 1
  if s.get O.SPAN_ROLE = 1 ∧ n.val ≠ 0 ∧ bit (s.get O.NODES_EXPECTED) n.val = true ∧ s.sys.dev.runs = true ∧ 1000 * s.getN O.SPAN_TMO ≤ s.elapsed (s.peer n.val).last then
    let s := s.note .spanNodeLost n.val
    if s.get O.NODE_STATE p = 2 then s.set O.NODE_STATE 3 p else s
  else s

/-! ### Relayed service frames (R459, R460) -/

/-- SERVICE at a worker. -/
def spanService (h : SpanHdr) (frame : List Byte) (s : State) : State :=
  s.spanSession 0x20 h frame fun s =>
    if s.worker then s.serveFrame (.span (Fin.ofNat 8 h.src.toNat)) (Fin.ofNat 8 s.ownNode) (fun k => k == frame.length) frame else s

/-- The reply that a service frame carries (Table 12.3). -/
def frameReply (b : List Byte) : Reply :=
  let d := (b.drop 8).take (leNat ((b.drop 6).take 2))
  if b.getD 0 0 = 0xFF#8 then .abort (leNat (d.take 2)) else .ok d

/-- SERVICE_REPLY at the manager: it goes to the requesting port, and the request's buffers are freed. -/
def spanReply (h : SpanHdr) (frame : List Byte) (s : State) : State :=
  s.spanSession 0x21 h frame fun s =>
    match s.net.relays.find? fun x => x.1 == h.src.toNat && x.2.seq == frame.getD 1 0 with
    | none => s
    | some x =>
      let s := { s with net := { s.net with relays := s.net.relays.erase x }, dict := { s.dict with poolUsed := s.dict.poolUsed - x.2.bufs } }
      s.reply x.2 (frameReply frame)

/-- RELAY_REPLY_TIMEOUT: the oldest outstanding request of the node is refused. -/
def relayLost (node : Fin 8) (s : State) : State :=
  match s.net.relays.find? fun x => x.1 == node.val with
  | none => s
  | some x => ({ s with net := { s.net with relays := s.net.relays.erase x } }).replyLate x.2 (.abort abortState)

/-! ### Link delay and ring (R483, R486, R492) -/

/-- A DELAY frame out of one port to its neighbour; its FRESH is left open. -/
def State.sendDelay (s : State) (type : Nat) (p : Fin 2) : State :=
  if s.spanUp p.val && s.ringGen != 0 then s.draw.send (s.out ++ [Sent.span p type 0xFE (Config.freeNat s.freeIx % 2 ^ 48) []]) else s

def delayReq (h : SpanHdr) (s : State) : State := s.spanRing 0x30 h [] fun s => s.sendDelay 0x31 h.port

/-- DELAY_RESP: half of the round trip less the neighbour's turnaround, both in 0.1 ns. -/
def delayResp (h : SpanHdr) (rtt turn : Int) (s : State) : State :=
  s.spanRing 0x31 h [] fun s => s.set O.LINK_DELAY (O.LINK_DELAY.ty.fit (quantQ (mkRat (rtt - turn) 2))) h.port.val

def delayTimer (s : State) : State := ((s.send []).sendDelay 0x30 0).sendDelay 0x30 1

/-- The module is a node of the ring. -/
def State.node (s : State) : Bool := s.sys.dev.runs && (s.get O.SPAN_ROLE == 1 || s.get O.SPAN_ROLE == 2)

/-- SPAN_PORT_DOWN. -/
def portDown (p : Fin 2) (s : State) : State :=
  if !s.node then s else ((s.updPort p fun x => { x with up := false }).note .spanRingOpen p.val).ringState

/-- SPAN_PORT_UP: SPAN_RING_OPEN leaves once the port has been up for 100 ms. -/
def portUp (p : Fin 2) (s : State) : State :=
  if !s.node || (s.net.ports.getD p.val State.resetPort).up then s
  else (s.updPort p fun x => { x with up := true, upFrom := s.now }).ringState

/-- QUARANTINE_END: the port resumes with its failure count at 0. -/
def quarantineEnd (p : Fin 2) (s : State) : State :=
  if !(s.net.ports.getD p.val State.resetPort).quarantined then s
  else
    let s := s.updPort p fun x => { x with quarantined := false, fails := [], upFrom := s.now }
    ((s.set O.PORT_AUTH_FAIL 0 p.val).unnote .spanQuarantine p.val).ringState

/-! ### The commands -/

def execAnnounce (h : SpanHdr) (serial nonce : DWord) (s : State) : Host.Outcome State Fault Refusal := .next (announce h serial nonce s)
def execAnnounceTimer (s : State) : Host.Outcome State Fault Refusal := .next (announceTimer s)
def execJoinReq (h : SpanHdr) (serial nonce : DWord) (s : State) : Host.Outcome State Fault Refusal := .next (joinRequest h serial nonce s)
def execJoinRetry (s : State) : Host.Outcome State Fault Refusal := .next (joinRetry s)
def execJoinAck (h : SpanHdr) (nonceM nonceW : DWord) (s : State) : Host.Outcome State Fault Refusal := .next (joinAcked h nonceM nonceW s)
def execCyclic (h : SpanHdr) (data : CyclicData) (tFirst : Int) (mismatch : Bool) (s : State) : Host.Outcome State Fault Refusal :=
  .next (cyclic h data tFirst mismatch s)
def execSpanStatus (h : SpanHdr) (data : SpanStatusData) (s : State) : Host.Outcome State Fault Refusal := .next (spanStatus h data s)
def execSpanService (h : SpanHdr) (frame : List Byte) (s : State) : Host.Outcome State Fault Refusal := .next (spanService h frame s)
def execSpanServiceReply (h : SpanHdr) (frame : List Byte) (s : State) : Host.Outcome State Fault Refusal := .next (spanReply h frame s)
def execDelayReq (h : SpanHdr) (s : State) : Host.Outcome State Fault Refusal := .next (delayReq h s)
def execDelayResp (h : SpanHdr) (rtt turn : Int) (s : State) : Host.Outcome State Fault Refusal := .next (delayResp h rtt turn s)
def execDelayExchangeTimer (s : State) : Host.Outcome State Fault Refusal := .next (delayTimer s)
def execSpanCycle (s : State) : Host.Outcome State Fault Refusal := .next (spanCycle s)
def execRelayReplyTimeout (node : Fin 8) (s : State) : Host.Outcome State Fault Refusal := .next (relayLost node s)
def execSpanPortDown (p : Fin 2) (s : State) : Host.Outcome State Fault Refusal := .next (portDown p s)
def execSpanPortUp (p : Fin 2) (s : State) : Host.Outcome State Fault Refusal := .next (portUp p s)
def execQuarantineEnd (p : Fin 2) (s : State) : Host.Outcome State Fault Refusal := .next (quarantineEnd p s)
def execSpanMgrTimeout (s : State) : Host.Outcome State Fault Refusal := .next (managerLost s)
def execSpanNodeTimeout (n : Fin 8) (s : State) : Host.Outcome State Fault Refusal := .next (nodeLost n s)

end Sys2Proof.Machine
end

