-- ==== Sys2Proof/Machine/Boundary.lean ====
section
/-! DEFINITION. The control-period boundary and t_S of a bridge (R35, R203, R244, R249, R294), with the trace (R301..R305, R476). -/

namespace Sys2Proof.Machine

/-! ### Trace -/

/-- A slot's value in its four bytes (Table 7.11). -/
def State.slotValue (s : State) (key : Nat) : Nat :=
  match findObj key with
  | some (o, p) => (s.value o p % 2 ^ 32).toNat
  | none => 0

/-- The number that a slot's four bytes stand for. -/
def probeNum (key raw : Nat) : Rat :=
  match findObj key with
  | some (o, _) => if o.ty = .f32 then f32Val raw else if o.ty.signed && decide (2 ^ 31 ≤ raw) then (raw : Rat) - 2 ^ 32 else raw
  | none => 0

/-- A field-loop input holds a STALE word (Table 5.3). -/
def State.staleInput (s : State) (b : Nat) : Bool :=
  (List.range 4).any fun e => bit (s.get O.INJ_RESULT (4 * b + e)) 20

/-- FLAGS of Table 7.11 at t_S; bit 0 is taken when the period ends. -/
def State.traceFlags (s : State) (b : Nat) : Nat :=
  ofBits [false, s.fl.fle != 0, s.staleInput b, s.coll.cond .mapExtrap, bit (s.get O.LIMIT_CAUSE (s.machOf b)) 10, s.safeAct != 0xFF] +
    256 * s.getN O.SHUNT_METHOD

def State.updTrace (s : State) (f : Trace → Trace) : State := { s with fl := { s.fl with trace := f s.fl.trace } }

/-- The trace records. -/
def State.tracing (s : State) : Bool := s.get O.TRACE_STATE == 1 || s.get O.TRACE_STATE == 2

/-- Slot values as they stand at t_S (R302). -/
def State.traceSnap (s : State) (b : Nat) : State :=
  if s.tracing && s.get O.TRACE_BRIDGE == b then s.updTrace fun t => { t with snap := (s.slots.map s.slotValue, s.traceFlags b) } else s

/-- Number of used slots before slot k, 0..63. -/
def State.slotPos (s : State) (k : Nat) : Nat := ((List.range k).filter fun j => s.getN O.PROBE_SRC j != 0).length

/-- Value of the trigger slot in a record. -/
def State.trigValue (s : State) (values : List Nat) : Option Rat :=
  let k := s.getN O.TRIG_SLOT - 1
  let key := s.getN O.PROBE_SRC k
  if key = 0 then none else values[s.slotPos k]?.map (probeNum key)

/-- The trigger slot levelCrossed TRIG_LEVEL with TRIG_EDGE (R304). -/
def levelCrossed (edge : Int) (level : Rat) (prev cur : Option Rat) : Bool :=
  match prev, cur with
  | some a, some c =>
    (edge != 1 && decide (a < level) && decide (level ≤ c)) || (edge != 0 && decide (level < a) && decide (c ≤ level))
  | _, _ => false

/-- A record goes to the network in stream mode, or is dropped and counted (R305, R476); in Main pair takeover streaming is suspended. -/
def State.traceStream (s : State) (r : TraceRec) : State :=
  if bit (s.get O.DEG_MODES) 0 then s
  else if !s.getB O.ETH_ENABLE || s.get O.LINK_STATE == 0 || Config.freeBit s.freeIx then
    ((s.draw.updTrace fun t => { t with gap := true, dropAt := some s.now }).bump O.LOST_COUNT).note .traceOverrun
  else
    let time := if s.getB O.PTP_ENABLE && s.get O.PTP_STATE == 2 then Config.freeNat (s.freeIx + 1) else 0
    let head := leBytes 4 s.net.traceSeq ++ leBytes 8 time ++ leBytes 2 1 ++ leBytes 2 (s.getN O.RECORD_LEN)
    let seq := s.net.traceSeq
    let old := match s.fl.trace.dropAt with | some t => decide (t + 1000000 ≤ s.now) | none => false
    let s := ({ s with freeIx := s.freeIx + 2, net := { s.net with traceSeq := (seq + 1) % 2 ^ 32 } }).updTrace fun t => { t with gap := false }
    let s := if old then s.unnote .traceOverrun else s
    (s.bump O.TRACE_DATAGRAMS).ethSend 4 (BitVec.ofNat 32 (s.getN O.TRACE_DEST_IP)) (head ++ r.bytes)

/-- One record: the ring, the trigger and its fill (R302..R304), and the stream. -/
def State.traceRecord (s : State) (b : Nat) (values : List Nat) (flags : Nat) : State :=
  let t := s.fl.trace
  let cur := s.trigValue values
  let stream := s.get O.TRACE_MODE == 3
  let cross := s.get O.TRIG_SRC == 1 && levelCrossed (s.get O.TRIG_EDGE) (s.getQ O.TRIG_LEVEL) t.prev cur
  let fires := !stream && s.get O.TRACE_STATE == 1 && (t.trig || cross)
  let cap := s.getN O.CAPACITY
  let fl := flags + (if (s.bridge b).late then 1 else 0) + (if fires then 64 else 0) + (if stream && t.gap then 128 else 0)
  let r : TraceRec := ⟨s.getN O.PERIOD_COUNT b, fl, values⟩
  let left := if fires then cap - cap * s.getN O.PRE_TRIG / 100 - 1 else t.left - 1
  let ring := t.ring ++ [r]
  let s := s.updTrace fun t => { t with ring := ring.drop (ring.length - cap), prev := cur, trig := false, left := left }
  let s := if fires then s.set O.TRACE_STATE (if left = 0 then 3 else 2)
    else if s.get O.TRACE_STATE = 2 ∧ left = 0 then s.set O.TRACE_STATE 3 else s
  if stream then s.traceStream r else s

/-- A boundary of TRACE_BRIDGE: every DECIM-th writes the record of the period that ends. -/
def State.traceStep (s : State) (b : Nat) : State :=
  if !(s.tracing && s.get O.TRACE_BRIDGE == b) || s.fl.trace.snap.1.length != s.slots.length then s
  else
    let n := s.fl.trace.phase + 1
    if n < s.getN O.DECIM then s.updTrace fun t => { t with phase := n }
    else
      let snap := s.fl.trace.snap
      (s.updTrace fun t => { t with phase := 0 }).traceRecord b snap.1 snap.2

/-! ### The boundary -/

/-- Solver steps that have not published when the next is due (R294). -/
def State.solverAge (s : State) (m : Nat) : State :=
  let n := s.solverN
  let a := (s.mach m).age + 1
  let miss := decide (2 * n ≤ a) && a % n == 0
  let s := s.updMach m fun q => { q with age := a, skipped := if miss then q.skipped + 1 else q.skipped, inTime := if miss then 0 else q.inTime }
  if 3 ≤ (s.mach m).skipped then s.note .solverLate m else s

/-- Position of the channel that the bridge latches, and the angle that the FLE takes from it (R200, R203, R246). -/
def State.latchAt (s : State) (b : Nat) (pos : List PosSample) : State :=
  if s.charger then s
  else
    let ch := s.machOf b
    let x := pos[ch]?
    let s := match x with
      | some q => if b = 0 ∨ s.chanOn 1 = true then s.latch ch q s.period else s
      | none => s
    s.bridgeAngle b x.isSome

/-- What a boundary of B0 does besides: MARK on every edge channel (R244), the drive token, calibrations, machines, discharge, Main's mailbox (R361). -/
def State.boundary0 (s : State) (grid : GridSample) : State :=
  let s := s.send (s.out ++ allIslands.map fun n => Sent.symbol n 0b101#3)
  let s := s.calBoundary.dischWatch.tokenIssue
  let s := if s.charger then s.gridBoundary grid else s.machines.foldl (fun (s : State) m => (s.brakeBoundary m).solverAge m) s
  let s := s.dischAngles
  { s with hlm := { s.hlm with mailCount := s.hlm.mailCount + 1, mailTorque := s.getQ O.TORQUE_REF }, net := { s.net with boundaries := s.net.boundaries + 1 } }

/-- The trigger line that a boundary fires: PT0, and PT1 for B1 (R244, R245). -/
def controlBoundary (bridge : Fin 2) (x : BoundarySample) (s : State) : State :=
  let b := bridge.val
  if !(s.carrier && decide (b < s.bridges)) then s
  else
    let s := (s.send []).traceStep b
    let s := if b = 0 then s.applyCommits.canTakeover else s
    let s := s.bump O.PERIOD_COUNT b
    let s := ((s.takeRefs b).newDuties b).clearSamples b
    let s := (s.latchAt b x.pos).firePt b
    if b = 0 then s.boundary0 x.grid else s

/-- FLE_START: the computation of the bridge, then what follows its V_DC: the 1 ms average (R258), the clamp (R365) and the end of a discharge (R371). -/
def fleStarts (bridge : Fin 2) (s : State) : State :=
  let b := bridge.val
  if !(s.carrier && decide (b < s.bridges)) then s
  else
    let s := if s.charger then s.chargerLoop else s.fleStart b
    (((s.vdcHistory b).clampMark b).dischPass).traceSnap b

/-! ### The commands -/

def execControlPeriodBoundary (bridge : Fin 2) (sample : BoundarySample) (s : State) : Host.Outcome State Fault Refusal := .next (controlBoundary bridge sample s)
def execFleStart (bridge : Fin 2) (s : State) : Host.Outcome State Fault Refusal := .next (fleStarts bridge s)

end Sys2Proof.Machine
end

