-- ==== Sys2Proof/Machine/Rillys.lean ====
section
/-! DEFINITION. The Rillys link: acceptance of frames, sequence numbers, retransmission, the drive token at the island, parameter sets and link loss (R27, R28, R135..R141). -/

namespace Sys2Proof.Machine

/-- CRC, ISL, LEN and SEQ of a frame are right for a receiver (R138). -/
def hdrOk (n : IslIx) (d : LinkDir) (h : RillysHdr) : Bool :=
  h.crcOk && h.isl.toNat == n.val && h.lenOk && h.seq == d.rxSeq + 1 + h.skip.setWidth 16

/-- A retransmission of a frame already accepted: discarded and acknowledged again (R139). -/
def hdrRepeat (n : IslIx) (d : LinkDir) (h : RillysHdr) : Bool :=
  h.crcOk && h.isl.toNat == n.val && h.lenOk && h.retry && h.seq == d.rxSeq

/-- A frame's ACK_SEQ covers the frame that waits for it (R139). -/
def LinkDir.acked (d : LinkDir) (ack : Half) : LinkDir :=
  match d.unacked with
  | some q => if q.1 = ack then { d with unacked := none, retried := false } else d
  | none => d

/-- The receiver accepts a frame: its SEQ, and the acknowledgement for the other direction. -/
def LinkDir.take (d : LinkDir) (h : RillysHdr) : LinkDir := { d with rxSeq := h.seq }

/-- EPOCH satisfies R28: it is the accepted one, or a new one that the island may accept. -/
def Island.epochOk (i : Island) (h : RillysHdr) : Bool :=
  h.epoch == i.epoch || (i.permit && !i.token) || !i.verified

/-- The token at the island after an accepted frame (R27, R28): only a new epoch makes it current; a frame of the accepted epoch keeps it. -/
def Island.takeToken (now : Nat) (h : RillysHdr) (i : Island) : Island :=
  if h.epoch ≠ i.epoch then
    { i with epoch := h.epoch, token := h.token && i.permit && i.verified, tokenAt := now }
  else if h.token && i.token then { i with tokenAt := now } else i

/-- A discarded frame is counted (R138). -/
def State.discard (s : State) (n : IslIx) (h : RillysHdr) : State :=
  let s := s.updIsl n fun i => { i with discards := i.discards + 1 }
  if h.crcOk then s else s.bump O.LINK_CRC_ERR

/-- A frame from the control die arrives at island n: accepted, it acts as f (R138, R139, R27). -/
def State.atIsland (s : State) (n : IslIx) (h : RillysHdr) (f : State → State) : State :=
  s.ifLive n fun s =>
    let i := s.island n
    if !i.trained then s
    else if hdrRepeat n i.down h then s.discard n h
    else if !hdrOk n i.down h then s.discard n h
    else if !i.epochOk h then (s.discard n h).bump O.LINK_EPOCH_DISCARD
    else
      f (s.onIslR n fun i => ({ i with down := i.down.take h, up := i.up.acked h.ackSeq, linkOk := true } : Island).takeToken s.now h)

/-- A frame from island n arrives at the control die. -/
def State.atDie (s : State) (n : IslIx) (h : RillysHdr) (f : State → State) : State :=
  let i := s.island n
  if !i.trained || !(s.sys.dev.runs) then s
  else if hdrRepeat n i.up h then s.discard n h
  else if !hdrOk n i.up h then s.discard n h
  else f (s.updIsl n fun i => { i with up := i.up.take h, down := i.down.acked h.ackSeq, linkOk := true })

/-! ### Frames from the control die -/

/-- CMD at the island: acknowledgement of a fast-fault code (R127), the latch of ISL_GATE_STUCK (R120), a probe (R131), sampling offsets (R169), apply-at-MARK (R141). -/
def cmdIn (n : IslIx) (h : RillysHdr) (p : CmdPayload) (s : State) : State :=
  s.atIsland n h fun s =>
    s.onIslR n fun i =>
      { i with ffPend := match p.ackCode with | some c => i.ffPend.erase c | none => i.ffPend,
               stuckLatched := i.stuckLatched || p.latchStuck,
               outs := match p.probe with
                 | some k => i.outs.modify k.val fun o => { o with probeDue := true }
                 | none => i.outs,
               offsets := p.offsets, applyNext := i.applyNext || p.applyAtMark }

/-- Staged values of the COMMITs that wait for island n. -/
def State.cfgFor (s : State) (n : IslIx) : CfgSet :=
  (s.dict.commits.filter fun c => c.wait.contains n).flatMap fun c => c.vals

/-- CFG at the island: the staged values arrive, and their CRC is due in CFG_ACK (R141). -/
def cfgIn (n : IslIx) (h : RillysHdr) (s : State) : State :=
  s.atIsland n h fun s => (s.updIsl n fun i => { i with staged := s.cfgFor n }).updIsl n (Island.pushUp 0xB#4)

/-- IDLE keeps the link alive, at the island or at the control die (R140). -/
def idleIn (n : IslIx) (h : RillysHdr) (toIsland : Bool) (s : State) : State :=
  if toIsland then s.atIsland n h id else s.atDie n h id

/-! ### Frames from an island -/

/-- One COMMIT after a CFG_ACK of island n: confirmed, sent again, or refused (R141, step 4). -/
def State.cfgAnswer (s : State) (n : IslIx) (ok : Bool) (c : PendCommit) : State × List PendCommit :=
  if !c.wait.contains n then (s, [c])
  else if ok then
    let w := c.wait.filter fun m => m != n
    let s := if w.isEmpty then c.isls.foldl (fun (s : State) m => s.updIsl m (Island.pushDown 0x1#4)) s else s
    (s, [{ c with wait := w }])
  else if c.retried.contains n then ((s.replyLate c.req (.abort abortHardware)).post .islCfgMismatch n.val, [])
  else (s.updIsl n (Island.pushDown 0x2#4), [{ c with retried := n :: c.retried }])

/-- CFG_ACK: the CRC-32 of the island's staged set against that of the set sent (R141). -/
def cfgAck (n : IslIx) (h : RillysHdr) (crc : Word) (s : State) : State :=
  s.atDie n h fun s =>
    let ok := crc == crc32 (Config.cfgImage (s.cfgFor n))
    let waiting := s.dict.commits.any fun c => c.wait.contains n
    let (s, cs) := s.dict.commits.foldl (fun (a : State × List PendCommit) c =>
      let (s, l) := a.1.cfgAnswer n ok c
      (s, a.2 ++ l)) (s, [])
    let s := { s with dict := { s.dict with commits := cs } }
    if ok && waiting then s.leave .islCfgMismatch n.val else s

/-- EVENT: the record of an island's event; the DESAT record reports ISL_DESAT (Table 4.7), and the code is acknowledged in a CMD frame (R127). -/
def eventIn (n : IslIx) (h : RillysHdr) (code : BitVec 4) (s : State) : State :=
  s.atDie n h fun s =>
    let s := s.updIsl n (Island.pushDown 0x1#4)
    if code = 0x1#4 then s.post .islDesat n.val else s

/-- On-state gate voltage more than 1.5 V from its applied value, on four consecutive on-intervals (R113, R133). -/
def State.gateVolt (s : State) (n : IslIx) (k : Nat) (v : Int) : State :=
  let s := s.set O.VG_ON_MEAS v (4 * n.val + k)
  let i := s.island n
  let o := i.outs.getD k State.resetOut
  if !s.declared n k || o.isolated || i.bootstrap then s
  else
    let want := 10 * (i.vposSet + s.vgHeld n (s.vgApplied (4 * n.val + k) o.vgBal))
    let bad := if 150 < absI (v - want) then o.vgBad + 1 else 0
    let s := s.updIsl n fun i => { i with outs := i.outs.modify k fun o => { o with vgBad := bad } }
    if 4 ≤ bad then s.dieFail n k else s

/-- TELEM: edge times and on-state gate voltages of the last period (R112, R253). -/
def telemIn (n : IslIx) (h : RillysHdr) (eOn eOff : Nat) (vg : List Int) (s : State) : State :=
  s.atDie n h fun s =>
    let s := (s.set O.EDGE_ON_MEAS eOn n.val).set O.EDGE_OFF_MEAS eOff n.val
    let s := s.updIsl n fun i => { i with telemMissed := 0 }
    (List.range 4).foldl (fun (s : State) k => match vg[k]? with | some v => s.gateVolt n k v | none => s) s

/-- RESULT: one word per sampling instant (R170). -/
def resultFrame (n : IslIx) (h : RillysHdr) (w : DWord) (s : State) : State := s.atDie n h fun s => s.resultIn n w

/-! ### Slots, retransmission, loss -/

/-- Frames of this type are retransmitted (Table 4.14). -/
def retriable (t : BitVec 4) : Bool := t == 0x1#4 || t == 0xA#4 || t == 0x9#4 || t == 0x2#4 || t == 0xB#4

/-- The sender gives the next SEQ to a frame (R139): its SKIP is spent. -/
def LinkDir.sent (d : LinkDir) (t : BitVec 4) : LinkDir :=
  { d with txSeq := d.txSeq + 1, skip := 0,
           unacked := if retriable t then some (d.txSeq + 1, t) else d.unacked,
           retried := if retriable t then false else d.retried }

/-- RILLYS_SLOT: an end sends its pending frame of highest priority, or an IDLE (R137, R140); the control die stamps the token while it issues it (R27). -/
def slotSend (n : IslIx) (fromIsland : Bool) (s : State) : State :=
  let i := s.island n
  if !i.live || !i.trained then s
  else if fromIsland then
    let t := i.upQ.headD 0#4
    (s.updIsl n fun i => { i with upQ := i.upQ.drop 1, up := i.up.sent t, results := if t = 0x8#4 then i.results.drop 1 else i.results }).send
      [.rillys n t (i.up.txSeq + 1) i.epoch false false]
  else if !s.sys.dev.runs then s
  else
    let t := i.downQ.headD 0#4
    (s.updIsl n fun i => { i with downQ := i.downQ.drop 1, down := i.down.sent t }).send
      [.rillys n t (i.down.txSeq + 1) s.sys.epoch s.sys.tokenOn false]

/-- A frame not acknowledged within 3.0 µs: sent once more, then abandoned (R139). -/
def LinkDir.timeout (d : LinkDir) : LinkDir :=
  match d.unacked with
  | some _ => if d.retried then { d with unacked := none, retried := false, skip := d.skip + 1 } else { d with retried := true }
  | none => d

def resend (n : IslIx) (fromIsland : Bool) (s : State) : State :=
  let i := s.island n
  let d := if fromIsland then i.up else i.down
  match d.unacked with
  | none => s
  | some q =>
    let s := s.updIsl n fun i => if fromIsland then { i with up := i.up.timeout } else { i with down := i.down.timeout }
    if d.retried then s.bump O.LINK_ABANDONED
    else
      (s.bump O.LINK_RETRIES).send
        [.rillys n q.2 q.1 (if fromIsland then i.epoch else s.sys.epoch) (!fromIsland && s.sys.tokenOn) true]

/-- RILLYS_LINK_LOST: no frame accepted for 8.0 µs (R140): the token expires and the preload applies; the control die reports it. -/
def linkLost (n : IslIx) (s : State) : State :=
  if (s.island n).trained = false then s
  else
    let s := s.onIslR n fun i => { i with linkOk := false, trained := false, token := false }
    if s.sys.dev.runs then ((s.bump O.LINK_LOSSES).carrierFails (32 + n.val)).post .islLinkLost n.val else s

/-- LINK_ERROR_RATE_WINDOW: more than 16 discarded frames in 1 ms (R139). -/
def errWindow (n : IslIx) (s : State) : State :=
  let bad := decide (16 < (s.island n).discards)
  let s := s.updIsl n fun i => { i with discards := 0 }
  if s.sys.dev.runs then s.noteIf bad .islLinkErrRate n.val else s

/-! ### The commands -/

def execCmdFrame (n : IslIx) (h : RillysHdr) (payload : CmdPayload) (s : State) : Host.Outcome State Fault Refusal := .next (cmdIn n h payload s)
def execCfgFrame (n : IslIx) (h : RillysHdr) (s : State) : Host.Outcome State Fault Refusal := .next (cfgIn n h s)
def execCfgAckFrame (n : IslIx) (h : RillysHdr) (crc : Word) (s : State) : Host.Outcome State Fault Refusal := .next (cfgAck n h crc s)
def execResultFrame (n : IslIx) (h : RillysHdr) (result : DWord) (s : State) : Host.Outcome State Fault Refusal := .next (resultFrame n h result s)
def execIdleFrame (n : IslIx) (h : RillysHdr) (toIsland : Bool) (s : State) : Host.Outcome State Fault Refusal := .next (idleIn n h toIsland s)
/-- The record itself is telemetry: the state it leaves is the report and the acknowledgement due. -/
def execEventFrame (n : IslIx) (h : RillysHdr) (code : BitVec 4) (_rec : List Byte) (s : State) : Host.Outcome State Fault Refusal := .next (eventIn n h code s)
def execTelemFrame (n : IslIx) (h : RillysHdr) (edgeOn edgeOff : Nat) (vgOn : List Int) (s : State) : Host.Outcome State Fault Refusal := .next (telemIn n h edgeOn edgeOff vgOn s)
def execRillysSlot (n : IslIx) (fromIsland : Bool) (s : State) : Host.Outcome State Fault Refusal := .next (slotSend n fromIsland s)
def execRetransmitTimeout (n : IslIx) (fromIsland : Bool) (s : State) : Host.Outcome State Fault Refusal := .next (resend n fromIsland s)
def execRillysLinkLost (n : IslIx) (s : State) : Host.Outcome State Fault Refusal := .next (linkLost n s)
def execLinkErrorRateWindow (n : IslIx) (s : State) : Host.Outcome State Fault Refusal := .next (errWindow n s)

end Sys2Proof.Machine
end

