-- ==== Sys2Proof/Machine/Dispatch.lean ====
section
/-! DEFINITION. One arm per command: each a direct call of its meaning. -/

namespace Sys2Proof.Machine

def exec (i : Instr) (s : State) : Host.Outcome State Fault Refusal :=
  match i with
  | .vinPorRise => Sys2Proof.Machine.execVinPorRise s
  | .vinPorFall => Sys2Proof.Machine.execVinPorFall s
  | .vinValidRise straps => Sys2Proof.Machine.execVinValidRise straps s
  | .vinUvFall => Sys2Proof.Machine.execVinUvFall s
  | .vinHighRise vinMv => Sys2Proof.Machine.execVinHighRise vinMv s
  | .vinHighFall => Sys2Proof.Machine.execVinHighFall s
  | .vinWarnLowCross below => Sys2Proof.Machine.execVinWarnLowCross below s
  | .vddioOutOfBand => Sys2Proof.Machine.execVddioOutOfBand s
  | .railOutOfWindow rail => Sys2Proof.Machine.execRailOutOfWindow rail s
  | .clockCheckWindow dom devPpt => Sys2Proof.Machine.execClockCheckWindow dom devPpt s
  | .pllLossOfLock pll => Sys2Proof.Machine.execPllLossOfLock pll s
  | .crystalLoss => Sys2Proof.Machine.execCrystalLoss s
  | .startAttemptCheck xtalOk railsOk pllsOk vddioMv => Sys2Proof.Machine.execStartAttemptCheck xtalOk railsOk pllsOk vddioMv s
  | .startRetry => Sys2Proof.Machine.execStartRetry s
  | .resetNFall lowNs => Sys2Proof.Machine.execResetNFall lowNs s
  | .resetNRise straps => Sys2Proof.Machine.execResetNRise straps s
  | .sramClearDone => Sys2Proof.Machine.execSramClearDone s
  | .bootSlotCheckDone slot seen => Sys2Proof.Machine.execBootSlotCheckDone slot seen s
  | .bootRetry => Sys2Proof.Machine.execBootRetry s
  | .powerOnSelftestDone fails nvErrKeys paramNvOk => Sys2Proof.Machine.execPowerOnSelftestDone fails nvErrKeys paramNvOk s
  | .siStartupTestDone fails => Sys2Proof.Machine.execSiStartupTestDone fails s
  | .islandGroupStart => Sys2Proof.Machine.execIslandGroupStart s
  | .rillysLinkTrained n => Sys2Proof.Machine.execRillysLinkTrained n s
  | .islandVerifyStepDone n meas => Sys2Proof.Machine.execIslandVerifyStepDone n meas s
  | .islandSupplyReleaseTimer => Sys2Proof.Machine.execIslandSupplyReleaseTimer s
  | .sleepEntryDone wake timer => Sys2Proof.Machine.execSleepEntryDone wake timer s
  | .wakeRise highUs straps => Sys2Proof.Machine.execWakeRise highUs straps s
  | .wakeTimerExpiry straps => Sys2Proof.Machine.execWakeTimerExpiry straps s
  | .tempScan temps => Sys2Proof.Machine.execTempScan temps s
  | .thermalShutdownTrip sensor => Sys2Proof.Machine.execThermalShutdownTrip sensor s
  | .thermalDwellEnd => Sys2Proof.Machine.execThermalDwellEnd s
  | .processMonitorTick code band => Sys2Proof.Machine.execProcessMonitorTick code band s
  | .islPowerAverage n mw => Sys2Proof.Machine.execIslPowerAverage n mw s
  | .tempCommit r => Sys2Proof.Machine.execTempCommit r s
  | .resetCauseClear r mask => Sys2Proof.Machine.execResetCauseClear r mask s
  | .mainLockstepError p => Sys2Proof.Machine.execMainLockstepError p s
  | .hotRestartDone p pass => Sys2Proof.Machine.execHotRestartDone p pass s
  | .controlPeriodBoundary bridge sample => Sys2Proof.Machine.execControlPeriodBoundary bridge sample s
  | .fleStart bridge => Sys2Proof.Machine.execFleStart bridge s
  | .fleComputeDone bridge errA errB differ => Sys2Proof.Machine.execFleComputeDone bridge errA errB differ s
  | .dutyLoadDeadline bridge => Sys2Proof.Machine.execDutyLoadDeadline bridge s
  | .heartbeatLost n => Sys2Proof.Machine.execHeartbeatLost n s
  | .helmetPreloadEval => Sys2Proof.Machine.execHelmetPreloadEval s
  | .preloadWord n w => Sys2Proof.Machine.execPreloadWord n w s
  | .preloadStale n => Sys2Proof.Machine.execPreloadStale n s
  | .helmetStep m mapCrcOk => Sys2Proof.Machine.execHelmetStep m mapCrcOk s
  | .helmetCountCheck => Sys2Proof.Machine.execHelmetCountCheck s
  | .helmetLockstepError => Sys2Proof.Machine.execHelmetLockstepError s
  | .ascEstablishTimeout onConfirmed => Sys2Proof.Machine.execAscEstablishTimeout onConfirmed s
  | .safetyMapReload crcOk => Sys2Proof.Machine.execSafetyMapReload crcOk s
  | .drvEnFall lowNs => Sys2Proof.Machine.execDrvEnFall lowNs s
  | .drvEnRise lowNs => Sys2Proof.Machine.execDrvEnRise lowNs s
  | .keepOff n => Sys2Proof.Machine.execKeepOff n s
  | .keepOn n => Sys2Proof.Machine.execKeepOn n s
  | .off n gates => Sys2Proof.Machine.execOff n gates s
  | .on n gates => Sys2Proof.Machine.execOn n gates s
  | .offSoft n => Sys2Proof.Machine.execOffSoft n s
  | .mark n shuntUv vdcUv => Sys2Proof.Machine.execMark n shuntUv vdcUv s
  | .probe n => Sys2Proof.Machine.execProbe n s
  | .reservedSymbol n => Sys2Proof.Machine.execReservedSymbol n s
  | .prePhaseEnd n k byLevel => Sys2Proof.Machine.execPrePhaseEnd n k byLevel s
  | .slopePhaseEnd n k edgeTime => Sys2Proof.Machine.execSlopePhaseEnd n k edgeTime s
  | .slopeTimeout n k => Sys2Proof.Machine.execSlopeTimeout n k s
  | .edgeLost n => Sys2Proof.Machine.execEdgeLost n s
  | .offConfChange n gates => Sys2Proof.Machine.execOffConfChange n gates s
  | .partnerOffConf n p v => Sys2Proof.Machine.execPartnerOffConf n p v s
  | .partnerClaim n p v => Sys2Proof.Machine.execPartnerClaim n p v s
  | .claimWindowClose n => Sys2Proof.Machine.execClaimWindowClose n s
  | .ilkTmo n => Sys2Proof.Machine.execIlkTmo n s
  | .interlockRefreshLoss n p => Sys2Proof.Machine.execInterlockRefreshLoss n p s
  | .ilkLost n => Sys2Proof.Machine.execIlkLost n s
  | .gateStuck n k => Sys2Proof.Machine.execGateStuck n k s
  | .islUvloFall n => Sys2Proof.Machine.execIslUvloFall n s
  | .islUvloRelease n => Sys2Proof.Machine.execIslUvloRelease n s
  | .islRailDev n vpos vneg => Sys2Proof.Machine.execIslRailDev n vpos vneg s
  | .vddiFailure n => Sys2Proof.Machine.execVddiFailure n s
  | .bootstrapChangeover n => Sys2Proof.Machine.execBootstrapChangeover n s
  | .bootstrapReturn n => Sys2Proof.Machine.execBootstrapReturn n s
  | .bstLow n low => Sys2Proof.Machine.execBstLow n low s
  | .desatConfirm n => Sys2Proof.Machine.execDesatConfirm n s
  | .fastFaultCode n code => Sys2Proof.Machine.execFastFaultCode n code s
  | .ktiWindowEnd n k on raw gateDrop => Sys2Proof.Machine.execKtiWindowEnd n k on raw gateDrop s
  | .balancerUpdate pos => Sys2Proof.Machine.execBalancerUpdate pos s
  | .probeInterval n k => Sys2Proof.Machine.execProbeInterval n k s
  | .probeDone n k vpre v50 v150 => Sys2Proof.Machine.execProbeDone n k vpre v50 v150 s
  | .calCmdFirst r n rgMeans ntc => Sys2Proof.Machine.execCalCmdFirst r n rgMeans ntc s
  | .calCmdSecond r n rgMeans ntc => Sys2Proof.Machine.execCalCmdSecond r n rgMeans ntc s
  | .islandGlobalCommit r => Sys2Proof.Machine.execIslandGlobalCommit r s
  | .islandCommit r n => Sys2Proof.Machine.execIslandCommit r n s
  | .cfgFrame n h => Sys2Proof.Machine.execCfgFrame n h s
  | .cfgAckFrame n h crc => Sys2Proof.Machine.execCfgAckFrame n h crc s
  | .cmdFrame n h payload => Sys2Proof.Machine.execCmdFrame n h payload s
  | .resultFrame n h result => Sys2Proof.Machine.execResultFrame n h result s
  | .eventFrame n h code rec => Sys2Proof.Machine.execEventFrame n h code rec s
  | .telemFrame n h edgeOn edgeOff vgOn => Sys2Proof.Machine.execTelemFrame n h edgeOn edgeOff vgOn s
  | .idleFrame n h toIsland => Sys2Proof.Machine.execIdleFrame n h toIsland s
  | .rillysSlot n fromIsland => Sys2Proof.Machine.execRillysSlot n fromIsland s
  | .retransmitTimeout n fromIsland => Sys2Proof.Machine.execRetransmitTimeout n fromIsland s
  | .rillysLinkLost n => Sys2Proof.Machine.execRillysLinkLost n s
  | .linkErrorRateWindow n => Sys2Proof.Machine.execLinkErrorRateWindow n s
  | .triggerFire pt => Sys2Proof.Machine.execTriggerFire pt s
  | .saruConversionDone u uv => Sys2Proof.Machine.execSaruConversionDone u uv s
  | .regularSequenceStart u => Sys2Proof.Machine.execRegularSequenceStart u s
  | .islandSampleInstant n inst shuntUv vdcUv => Sys2Proof.Machine.execIslandSampleInstant n inst shuntUv vdcUv s
  | .ntcConversion n r1 r2 => Sys2Proof.Machine.execNtcConversion n r1 r2 s
  | .dcLinkWindowCross n upper trip => Sys2Proof.Machine.execDcLinkWindowCross n upper trip s
  | .icuWindowEnd u sample => Sys2Proof.Machine.execIcuWindowEnd u sample s
  | .icuWindowTimeout u sample => Sys2Proof.Machine.execIcuWindowTimeout u sample s
  | .refSettled ref => Sys2Proof.Machine.execRefSettled ref s
  | .refLost ref inRange => Sys2Proof.Machine.execRefLost ref inRange s
  | .calDue unit => Sys2Proof.Machine.execCalDue unit s
  | .calDone unit offset gain => Sys2Proof.Machine.execCalDone unit offset gain s
  | .calRequest r mask => Sys2Proof.Machine.execCalRequest r mask s
  | .cmpTrip c => Sys2Proof.Machine.execCmpTrip c s
  | .cmpRelease c => Sys2Proof.Machine.execCmpRelease c s
  | .sensingCommit r => Sys2Proof.Machine.execSensingCommit r s
  | .encoderEdge a b => Sys2Proof.Machine.execEncoderEdge a b s
  | .indexEvent => Sys2Proof.Machine.execIndexEvent s
  | .encWireFault => Sys2Proof.Machine.execEncWireFault s
  | .hallChange code stable => Sys2Proof.Machine.execHallChange code stable s
  | .hallIllegalTimeout => Sys2Proof.Machine.execHallIllegalTimeout s
  | .resolverCheck amp trackErr excFault theta => Sys2Proof.Machine.execResolverCheck amp trackErr excFault theta s
  | .sentFrame k frame => Sys2Proof.Machine.execSentFrame k frame s
  | .sentTimeout k => Sys2Proof.Machine.execSentTimeout k s
  | .ssiFrameDone frame => Sys2Proof.Machine.execSsiFrameDone frame s
  | .standstillStartDone ch meas => Sys2Proof.Machine.execStandstillStartDone ch meas s
  | .obsRecovery ch => Sys2Proof.Machine.execObsRecovery ch s
  | .catchAttempt ch => Sys2Proof.Machine.execCatchAttempt ch s
  | .catchPulseEnd ch angle emfSpeed => Sys2Proof.Machine.execCatchPulseEnd ch angle emfSpeed s
  | .catchDone ch ok => Sys2Proof.Machine.execCatchDone ch ok s
  | .alignCmd r ch => Sys2Proof.Machine.execAlignCmd r ch s
  | .alignDone ch avg => Sys2Proof.Machine.execAlignDone ch avg s
  | .pcmpValueWrite r p v => Sys2Proof.Machine.execPcmpValueWrite r p v s
  | .pcmpModeWrite r p mode => Sys2Proof.Machine.execPcmpModeWrite r p mode s
  | .positionCommit r => Sys2Proof.Machine.execPositionCommit r s
  | .solverStep m => Sys2Proof.Machine.execSolverStep m s
  | .torqueCmd r m v => Sys2Proof.Machine.execTorqueCmd r m v s
  | .speedCmd r m v => Sys2Proof.Machine.execSpeedCmd r m v s
  | .ascBrakeCmd r m v => Sys2Proof.Machine.execAscBrakeCmd r m v s
  | .ascAlternate m => Sys2Proof.Machine.execAscAlternate m s
  | .cmdTimeout => Sys2Proof.Machine.execCmdTimeout s
  | .activate r => Sys2Proof.Machine.execActivate r s
  | .mapVerifyDone bank mapSet checks => Sys2Proof.Machine.execMapVerifyDone bank mapSet checks s
  | .activeBankVerifyDone ok => Sys2Proof.Machine.execActiveBankVerifyDone ok s
  | .corrLearn m ePsiD ePsiQ => Sys2Proof.Machine.execCorrLearn m ePsiD ePsiQ s
  | .corrReset r => Sys2Proof.Machine.execCorrReset r s
  | .corrSave r => Sys2Proof.Machine.execCorrSave r s
  | .corrDelete r => Sys2Proof.Machine.execCorrDelete r s
  | .corrSaveDone => Sys2Proof.Machine.execCorrSaveDone s
  | .traceArm r => Sys2Proof.Machine.execTraceArm r s
  | .traceForceTrigger r => Sys2Proof.Machine.execTraceForceTrigger r s
  | .traceStop r => Sys2Proof.Machine.execTraceStop r s
  | .limitCommit r => Sys2Proof.Machine.execLimitCommit r s
  | .fieldLoopCommit r => Sys2Proof.Machine.execFieldLoopCommit r s
  | .solverCommit r => Sys2Proof.Machine.execSolverCommit r s
  | .traceCommit r => Sys2Proof.Machine.execTraceCommit r s
  | .gridPllLock => Sys2Proof.Machine.execGridPllLock s
  | .outerLoopStep => Sys2Proof.Machine.execOuterLoopStep s
  | .iOutCmd r v => Sys2Proof.Machine.execIOutCmd r v s
  | .rlyCmd r v => Sys2Proof.Machine.execRlyCmd r v s
  | .relayFeedbackChange k contact => Sys2Proof.Machine.execRelayFeedbackChange k contact s
  | .relayCheckTimeout k => Sys2Proof.Machine.execRelayCheckTimeout k s
  | .relayDriverShort k => Sys2Proof.Machine.execRelayDriverShort k s
  | .gridCheckTimeout => Sys2Proof.Machine.execGridCheckTimeout s
  | .prechargeTimeout => Sys2Proof.Machine.execPrechargeTimeout s
  | .rlyOverlapExpiry => Sys2Proof.Machine.execRlyOverlapExpiry s
  | .dcRampDone => Sys2Proof.Machine.execDcRampDone s
  | .outMatchDone => Sys2Proof.Machine.execOutMatchDone s
  | .outMatchTimeout => Sys2Proof.Machine.execOutMatchTimeout s
  | .stopCurrentWait => Sys2Proof.Machine.execStopCurrentWait s
  | .blockRelayOff => Sys2Proof.Machine.execBlockRelayOff s
  | .gridOkTimer => Sys2Proof.Machine.execGridOkTimer s
  | .energyClear r => Sys2Proof.Machine.execEnergyClear r s
  | .chargerCommit r => Sys2Proof.Machine.execChargerCommit r s
  | .faultPost code detail => Sys2Proof.Machine.execFaultPost code detail s
  | .faultLeave code detail => Sys2Proof.Machine.execFaultLeave code detail s
  | .faultReset r w => Sys2Proof.Machine.execFaultReset r w s
  | .resetHeldTimeout src => Sys2Proof.Machine.execResetHeldTimeout src s
  | .dischStart r => Sys2Proof.Machine.execDischStart r s
  | .dischStop r => Sys2Proof.Machine.execDischStop r s
  | .dischReq r w => Sys2Proof.Machine.execDischReq r w s
  | .dischPathCheck => Sys2Proof.Machine.execDischPathCheck s
  | .dischTimeout => Sys2Proof.Machine.execDischTimeout s
  | .logWrite ok => Sys2Proof.Machine.execLogWrite ok s
  | .logClear r => Sys2Proof.Machine.execLogClear r s
  | .protectionCommit r crcOk => Sys2Proof.Machine.execProtectionCommit r crcOk s
  | .siSample levels rst => Sys2Proof.Machine.execSiSample levels rst s
  | .testPulse tpB => Sys2Proof.Machine.execTestPulse tpB s
  | .testPulseEnd seen => Sys2Proof.Machine.execTestPulseEnd seen s
  | .hvilCycle iOut iRetOn iRetOff limit => Sys2Proof.Machine.execHvilCycle iOut iRetOn iRetOff limit s
  | .completeTest fails => Sys2Proof.Machine.execCompleteTest fails s
  | .safeRstEdge widthMs => Sys2Proof.Machine.execSafeRstEdge widthMs s
  | .helmetEvaluatorRead => Sys2Proof.Machine.execHelmetEvaluatorRead s
  | .siCommit r crcOk => Sys2Proof.Machine.execSiCommit r crcOk s
  | .sramCe mac addr => Sys2Proof.Machine.execSramCe mac addr s
  | .sramUe mac addr who => Sys2Proof.Machine.execSramUe mac addr who s
  | .mpuViolation who addr => Sys2Proof.Machine.execMpuViolation who addr s
  | .scrubStep => Sys2Proof.Machine.execScrubStep s
  | .nvOperationDone kind result => Sys2Proof.Machine.execNvOperationDone kind result s
  | .persistentWriteDone readbackOk => Sys2Proof.Machine.execPersistentWriteDone readbackOk s
  | .compactionDone keys eraseMax => Sys2Proof.Machine.execCompactionDone keys eraseMax s
  | .opTimeSave => Sys2Proof.Machine.execOpTimeSave s
  | .dmaDescriptorStart ch desc => Sys2Proof.Machine.execDmaDescriptorStart ch desc s
  | .dmaBeat ch fault => Sys2Proof.Machine.execDmaBeat ch fault s
  | .rotationSlot => Sys2Proof.Machine.execRotationSlot s
  | .selftestDone t sig cycles detail cut mismatch => Sys2Proof.Machine.execSelftestDone t sig cycles detail cut mismatch s
  | .stOverdue t => Sys2Proof.Machine.execStOverdue t s
  | .stRequest r t => Sys2Proof.Machine.execStRequest r t s
  | .stAbort r => Sys2Proof.Machine.execStAbort r s
  | .marchBlock => Sys2Proof.Machine.execMarchBlock s
  | .selftestCommit r => Sys2Proof.Machine.execSelftestCommit r s
  | .read r idx sub => Sys2Proof.Machine.execRead r idx sub s
  | .write r idx sub data => Sys2Proof.Machine.execWrite r idx sub data s
  | .unknownCmd r cmd idx sub => Sys2Proof.Machine.execUnknownCmd r cmd idx sub s
  | .blockWStart r idx sub total window => Sys2Proof.Machine.execBlockWStart r idx sub total window s
  | .blockWData r idx sub handle offset data => Sys2Proof.Machine.execBlockWData r idx sub handle offset data s
  | .blockWWindow r idx sub handle => Sys2Proof.Machine.execBlockWWindow r idx sub handle s
  | .blockWindowFree => Sys2Proof.Machine.execBlockWindowFree s
  | .blockWEnd r idx sub handle crc => Sys2Proof.Machine.execBlockWEnd r idx sub handle crc s
  | .blockRStart r idx sub => Sys2Proof.Machine.execBlockRStart r idx sub s
  | .blockRData r idx sub handle offset len => Sys2Proof.Machine.execBlockRData r idx sub handle offset len s
  | .blockAbort r idx sub handle => Sys2Proof.Machine.execBlockAbort r idx sub handle s
  | .blockIdleTimeout write => Sys2Proof.Machine.execBlockIdleTimeout write s
  | .busyHoldExpiry => Sys2Proof.Machine.execBusyHoldExpiry s
  | .processFrame port p data => Sys2Proof.Machine.execProcessFrame port p data s
  | .txProcessSample p => Sys2Proof.Machine.execTxProcessSample p s
  | .mappingCommit r => Sys2Proof.Machine.execMappingCommit r s
  | .readyReq r w => Sys2Proof.Machine.execReadyReq r w s
  | .readyReqClear r w => Sys2Proof.Machine.execReadyReqClear r w s
  | .runReq r w => Sys2Proof.Machine.execRunReq r w s
  | .runReqClear r w => Sys2Proof.Machine.execRunReqClear r w s
  | .serviceReq r w => Sys2Proof.Machine.execServiceReq r w s
  | .serviceReqClear r w => Sys2Proof.Machine.execServiceReqClear r w s
  | .sleepReq r w => Sys2Proof.Machine.execSleepReq r w s
  | .resetCmd r w => Sys2Proof.Machine.execResetCmd r w s
  | .canFrameReceive c frame full => Sys2Proof.Machine.execCanFrameReceive c frame full s
  | .canFrameSent c lostArb => Sys2Proof.Machine.execCanFrameSent c lostArb s
  | .canBusOff c => Sys2Proof.Machine.execCanBusOff c s
  | .canBusOffRecovery c => Sys2Proof.Machine.execCanBusOffRecovery c s
  | .hostTmoExpiry => Sys2Proof.Machine.execHostTmoExpiry s
  | .ethLinkChange speed => Sys2Proof.Machine.execEthLinkChange speed s
  | .arpRequest target senderIp => Sys2Proof.Machine.execArpRequest target senderIp s
  | .icmpEcho dst src payload => Sys2Proof.Machine.execIcmpEcho dst src payload s
  | .arpTimeout ip => Sys2Proof.Machine.execArpTimeout ip s
  | .ptpMessage offsetNs timeNs => Sys2Proof.Machine.execPtpMessage offsetNs timeNs s
  | .ptpSyncLoss => Sys2Proof.Machine.execPtpSyncLoss s
  | .spiServiceReq node data crcOk => Sys2Proof.Machine.execSpiServiceReq node data crcOk s
  | .spiServiceRd => Sys2Proof.Machine.execSpiServiceRd s
  | .spiProcWr p data => Sys2Proof.Machine.execSpiProcWr p data s
  | .spiProcRd p => Sys2Proof.Machine.execSpiProcRd p s
  | .spiBadTransaction => Sys2Proof.Machine.execSpiBadTransaction s
  | .announce h serial nonce => Sys2Proof.Machine.execAnnounce h serial nonce s
  | .announceTimer => Sys2Proof.Machine.execAnnounceTimer s
  | .joinReq h serial nonce => Sys2Proof.Machine.execJoinReq h serial nonce s
  | .joinRetry => Sys2Proof.Machine.execJoinRetry s
  | .joinAck h nonceM nonceW => Sys2Proof.Machine.execJoinAck h nonceM nonceW s
  | .cyclic h data tFirst mismatch => Sys2Proof.Machine.execCyclic h data tFirst mismatch s
  | .spanStatus h data => Sys2Proof.Machine.execSpanStatus h data s
  | .spanService h frame => Sys2Proof.Machine.execSpanService h frame s
  | .spanServiceReply h frame => Sys2Proof.Machine.execSpanServiceReply h frame s
  | .delayReq h => Sys2Proof.Machine.execDelayReq h s
  | .delayResp h rtt turn => Sys2Proof.Machine.execDelayResp h rtt turn s
  | .delayExchangeTimer => Sys2Proof.Machine.execDelayExchangeTimer s
  | .spanCycle => Sys2Proof.Machine.execSpanCycle s
  | .relayReplyTimeout node => Sys2Proof.Machine.execRelayReplyTimeout node s
  | .spanPortDown p => Sys2Proof.Machine.execSpanPortDown p s
  | .quarantineEnd p => Sys2Proof.Machine.execQuarantineEnd p s
  | .spanMgrTimeout => Sys2Proof.Machine.execSpanMgrTimeout s
  | .spanNodeTimeout n => Sys2Proof.Machine.execSpanNodeTimeout n s
  | .netCommit r => Sys2Proof.Machine.execNetCommit r s
  | .spanCommit r => Sys2Proof.Machine.execSpanCommit r s
  | .authChallenge r sub => Sys2Proof.Machine.execAuthChallenge r sub s
  | .authResponse r sub data => Sys2Proof.Machine.execAuthResponse r sub data s
  | .sessionClose r handle => Sys2Proof.Machine.execSessionClose r handle s
  | .sessionIdleTimeout => Sys2Proof.Machine.execSessionIdleTimeout s
  | .authLockoutEnd => Sys2Proof.Machine.execAuthLockoutEnd s
  | .trngHealthFail => Sys2Proof.Machine.execTrngHealthFail s
  | .lcRequest r v => Sys2Proof.Machine.execLcRequest r v s
  | .oemKeyRevoke r slot => Sys2Proof.Machine.execOemKeyRevoke r slot s
  | .fwConfirm r => Sys2Proof.Machine.execFwConfirm r s
  | .fwPreferred r v => Sys2Proof.Machine.execFwPreferred r v s
  | .fwSlotVerifyDone slot seen => Sys2Proof.Machine.execFwSlotVerifyDone slot seen s
  | .paramVerifyDone half set => Sys2Proof.Machine.execParamVerifyDone half set s
  | .paramActivate r => Sys2Proof.Machine.execParamActivate r s
  | .spanPortUp p => Sys2Proof.Machine.execSpanPortUp p s
  | .vddioBackInBand => Sys2Proof.Machine.execVddioBackInBand s
  | .tapInstruction instr => Sys2Proof.Machine.execTapInstruction instr s
  | .datagramDiscarded tooLarge => Sys2Proof.Machine.execDatagramDiscarded tooLarge s

end Sys2Proof.Machine
end

