-- ==== Sys2Proof/Machine/Tick.lean ====
section
/-! DEFINITION. What passes of itself while no command waits (assumption 1). -/

namespace Sys2Proof.Machine

/-- The island's token has expired (R27). -/
def Island.tokenOver (now : Nat) (i : Island) : Bool := i.token && decide (i.tokenAt + 8 ≤ now)

def Island.dropToken (now : Nat) (i : Island) : Island := if i.tokenOver now then { i with token := false } else i

/-- While no carrier runs, what waited for a boundary or a solver step takes effect (R141, R446, R471). -/
def State.noCarrier (s : State) : State :=
  if s.carrier || (s.dict.commits.isEmpty && s.dict.procVals.isEmpty && s.net.takeover.isNone) then s
  else
    let s : State := { s.send [] with dict := { s.dict with commits := s.dict.commits.map fun c => { c with wait := [] } } }
    s.takeProc.applyCommits.canTakeover

/-- One microsecond passes: the module's time, the operating time while VIN is valid, and the token of each island 8 µs after the last accepted frame that carried it (R27). -/
def tick (s : State) : State :=
  let s := { s with now := s.now + 1, opTime := if s.sup.vinValid then s.opTime + 1 else s.opTime }
  let s := s.noCarrier
  if s.isl.any (Island.tokenOver s.now) then
    State.refreshIsl { s with isl := s.isl.map (Island.dropToken s.now) }
  else s

end Sys2Proof.Machine
end

