-- ==== Sys2Proof/Safety.lean ====
section
/-! DEFINITION. The terms in which the statements speak: a command that completes, what a command may touch, a request that is executed, a fault that is reported or held, and the canonical form of the state. -/

namespace Sys2Proof.Safety
open Sys2Proof Sys2Proof.Machine

/-! ### Completion and frames -/

/-- The command completes with its own next state, and that state satisfies P. -/
def Ran (i : Instr) (s : State) (P : State → Prop) : Prop := ∃ t, exec i s = .next t ∧ P t

/-- Every object but those of the listed keys holds the value it held. -/
def onlyVals (keys : List Nat) (s t : State) : Prop := ∀ k, k ∉ keys → t.vals.find? k = s.vals.find? k

/-- Apart from object values, the state is as before. -/
def valsFrame (s t : State) : Prop := t = { s with vals := t.vals }

/-- Only the listed objects change. -/
def onlyObjects (keys : List Nat) (s t : State) : Prop := onlyVals keys s t ∧ valsFrame s t

/-- Reporting and logging: what a report of a C1 or C2 fault may touch. -/
def reportFrame (s t : State) : Prop :=
  t = { s with vals := t.vals, coll := t.coll, log := t.log, fl := { s.fl with trace := { s.fl.trace with trig := t.fl.trace.trig } } }

/-- What posting a fault of class C3 to C5 may touch: the collector, the log, the Helmet and the islands, the device state and what ends or begins with it. The lands, the SRAM, the networks, the safety inputs, the clamps and what was sent are as before. -/
def faultFrame (s t : State) : Prop :=
  t.pending = s.pending ∧ t.now = s.now ∧ t.opTime = s.opTime ∧ t.pins = s.pins ∧ t.clamps = s.clamps ∧ t.si = s.si ∧ t.mem = s.mem ∧
  t.net = s.net ∧ t.out = s.out

/-- One island changes, no other, and nothing else does. -/
def islFrame (n : IslIx) (s t : State) : Prop := t = { s with isl := t.isl } ∧ ∀ m : IslIx, m ≠ n → t.island m = s.island m

/-! ### Faults -/

/-- A report of a C1 or C2 fault: its condition is held, the code is in REPORTED (a C1 code only if the 32 places do not all hold others), and the slots of the collector are as before (R347). -/
def Reported (s t : State) (f : FaultCode) (d : Nat) : Prop :=
  (f, d) ∈ t.coll.conds ∧ (f ∈ t.coll.reported ∨ f.cls = 1 ∧ 32 ≤ s.coll.reported.length) ∧ t.coll.active = s.coll.active ∧ t.coll.pend = s.coll.pend ∧ t.coll.overflow = s.coll.overflow

/-- A C1 or C2 code that has left: neither its condition nor the code is listed. -/
def Left (t : State) (f : FaultCode) (d : Nat) : Prop := (f, d) ∉ t.coll.conds ∧ f ∉ t.coll.reported

/-- The one condition held of a code, listed once. -/
abbrev soleCond (s : State) (f : FaultCode) (d : Nat) : Prop :=
  (f, d) ∈ s.coll.conds ∧ f ∈ s.coll.reported ∧ (s.coll.conds.filter (fun x => x.1 == f)).length = 1 ∧ s.coll.reported.count f = 1

/-- The collector holds nothing. -/
abbrev emptyColl (s : State) : Prop := s.coll.active = none ∧ s.coll.pend = none ∧ s.coll.overflow = false

/-- A fault of the code would be the first one held, is not escalated (R343), and finds the module in a state that the collector moves. -/
abbrev firstFault (s : State) (f : FaultCode) : Prop :=
  emptyColl s ∧ s.recentRaises f < 3 ∧ s.sys.dev.running = true

/-- The fault holds the active slot, the permit is withdrawn, the token stopped and the device state entered (R345, R349, R529). -/
def FailedSafe (t : State) (f : FaultCode) (cls d : Nat) (dev : DevState) : Prop :=
  t.coll.active = some ⟨f, cls, d⟩ ∧ t.coll.pend = none ∧ (f, d) ∈ t.coll.conds ∧ t.hlm.permit = false ∧ t.sys.tokenOn = false ∧ t.sys.dev = dev

/-- A class C3 fault is held: SAFE_HOLD. -/
def HeldC3 (s t : State) (f : FaultCode) (d : Nat) : Prop := FailedSafe t f 3 d .safeHold ∧ faultFrame s t

/-- A class C4 fault is held: FAULT_LATCHED. -/
def HeldC4 (s t : State) (f : FaultCode) (d : Nat) : Prop := FailedSafe t f 4 d .faultLatched ∧ faultFrame s t

/-- No fault is held and no safe state is in force: what a fault of class C5 finds. -/
abbrev calm (s : State) : Prop :=
  emptyColl s ∧ s.sys.dev ≠ .safeHold ∧ s.sys.dev ≠ .faultLatched

/-- A reset of the whole control die with its RESET_CAUSE bit (Table 3.5): the die starts in BOOT with everything at its reset value, and the islands keep their supplies (R80). -/
def DieReset (s t : State) (cause : Nat) : Prop :=
  t.sys.dev = .boot ∧ bit (t.get O.RESET_CAUSE) cause = true ∧ (∀ n : IslIx, (t.island n).supplyOn = (s.island n).supplyOn) ∧
  t.hlm.permit = false ∧ t.sys.tokenOn = false ∧ t.staged = [] ∧ t.sec = State.resetSecurity ∧ t.dict = State.resetDict ∧ t.net = State.resetNet ∧
  t.mem = State.resetMemory ∧ t.pos = State.resetPosition ∧ t.chg = State.resetCharger ∧ t.pins.vddioHiZ = true ∧ t.nv.persist = s.nv.persist ∧
  t.nv.sec.otp = s.nv.sec.otp ∧ t.pending = s.pending ∧ t.now = s.now

/-- The one C3 fault held, with one condition, and no discharge that holds the device state (R451). -/
abbrev soleC3 (s : State) (f : FaultCode) (d : Nat) : Prop :=
  s.coll.active = some ⟨f, 3, d⟩ ∧ s.coll.pend = none ∧ s.coll.overflow = false ∧ s.coll.conds.filter (fun x => x.1 == f) = [(f, d)] ∧ s.disch.held = false

/-- The fault has left and the collector holds nothing; SAFE_HOLD has ended (R343, R349). -/
def FaultOver (t : State) (f : FaultCode) (d : Nat) : Prop := emptyColl t ∧ (f, d) ∉ t.coll.conds ∧ t.sys.dev ≠ .safeHold

/-! ### Rillys frames -/

/-- Island n accepts a frame with this header (R138, R139, R28). -/
abbrev downOk (s : State) (n : IslIx) (h : RillysHdr) : Prop :=
  (s.island n).live = true ∧ (s.island n).trained = true ∧ hdrRepeat n (s.island n).down h = false ∧ hdrOk n (s.island n).down h = true ∧
  (s.island n).epochOk h = true

/-- The control die accepts a frame of island n with this header. -/
abbrev upOk (s : State) (n : IslIx) (h : RillysHdr) : Prop :=
  (s.island n).trained = true ∧ s.sys.dev.runs = true ∧ hdrRepeat n (s.island n).up h = false ∧ hdrOk n (s.island n).up h = true

/-! ### Service requests -/

/-- Identity of a request, with the pool buffers it occupies. -/
def reqId (s : State) (r : Req) (cmd key : Nat) : ReqId :=
  { port := r.port, node := r.node, cmd := BitVec.ofNat 8 cmd, seq := r.seq, idx := BitVec.ofNat 16 (key / 256), sub := BitVec.ofNat 8 key,
    bufs := s.bufsFor r.size }

/-- The request repeats the last one of its port within 1 s (R436). -/
def repeated (s : State) (id : ReqId) : Bool :=
  match s.dict.last.find? (fun l => (portBase l.id.port) == (portBase id.port)) with
  | some l => decide (l.id.cmd = id.cmd ∧ l.id.seq = id.seq ∧ l.id.idx = id.idx ∧ l.id.sub = id.sub ∧ s.now < l.time + 1000000)
  | none => false

/-- No other port holds the freed buffers back (R440). -/
def notHeldBack (s : State) (p : Port) : Bool :=
  match s.dict.busyHold with
  | some q => (portBase q) == (portBase p)
  | none => true

/-- The module takes the request in: it serves frames, the port is open, the frame fits, is no repetition, finds its buffers and room in the persistent queue, is for this node, has the right LEN and names no session or an open one (R409, R435 to R440, R459, R514). -/
def takesIn (s : State) (r : Req) (cmd key : Nat) : Bool :=
  s.sys.dev.serves && s.portOpen r.port && decide (r.size ≤ s.maxRequest r.port) && !repeated s (reqId s r cmd key) &&
  decide (s.dict.poolUsed + s.bufsFor r.size ≤ s.poolSize) && notHeldBack s r.port && decide (r.node.val = s.ownNode) && r.lenOk &&
  !s.queueFull r (reqId s r cmd key) && (s.levelOf r.port r.session).isSome

/-- The state in which the body of an accepted request runs: the request is the port's last one, counted, and its session's idle time starts again. -/
def taken (s : State) (r : Req) (id : ReqId) : State :=
  let rest := s.dict.last.filter (fun l => (portBase l.id.port) != (portBase r.port))
  let s : State := { s with dict := { s.dict with last := ⟨id, s.now, none⟩ :: rest } }
  let s := if s.dict.busyHold == some (portBase r.port) then { s with dict := { s.dict with busyHold := none } } else s
  (s.bump O.REQ_ACCEPTED).touch r.port r.session

/-- A write of value v to place p of an object reaches its effect: taken in, and past the checks of Table 12.5. -/
abbrev writeRuns (s : State) (r : Req) (o : Obj) (p : Nat) (v : Int) : Prop :=
  takesIn s r 0x02 (o.key p) = true ∧ s.checkWrite r o v = none

/-- The reply that the last command has sent. -/
def Answered (t : State) (id : ReqId) (rep : Reply) : Prop := Sent.reply id rep ∈ t.out

/-- What a request may touch beside its own effect: the list of last requests, the pool and the hold on it, the idle time of sessions, the request counters, the queues of its port, and what is sent. -/
def requestFrame (s t : State) : Prop :=
  t = { s with vals := t.vals, dict := { s.dict with last := t.dict.last, poolUsed := t.dict.poolUsed, busyHold := t.dict.busyHold },
               sec := { s.sec with sessions := t.sec.sessions }, net := { s.net with can := t.net.can, spiQ := t.net.spiQ, peers := t.net.peers },
               out := t.out }

/-! ### The canonical form of the state -/

/-- Keys strictly rising. -/
def rising : List Nat → Bool
  | [] => true
  | [_] => true
  | a :: b :: t => decide (a < b) && rising (b :: t)

/-- Object values and staged values have rising keys, the SRAM is in its canonical form, and there are twelve islands. -/
def sound (s : State) : Prop :=
  rising (s.vals.map Prod.fst) = true ∧ rising (s.staged.map Prod.fst) = true ∧ s.mem.wf = true ∧ s.isl.length = 12

/-! ### COMMITs -/

/-- The state in which the body of a write to place p of an object runs. -/
abbrev atBody (s : State) (r : Req) (o : Obj) (p : Nat) : State := taken s r (reqId s r 0x02 (o.key p))

/-- A COMMIT is taken in while no carrier and no test runs; the staged values are in their canonical form. -/
abbrev commitsNow (s : State) (r : Req) (o : Obj) (p : Nat) : Prop :=
  writeRuns s r o p 1 ∧ s.carrier = false ∧ s.mem.test = none ∧ rising (s.staged.map Prod.fst) = true

/-- A COMMIT is taken in while a carrier runs. -/
abbrev commitsLater (s : State) (r : Req) (o : Obj) (p : Nat) : Prop := writeRuns s r o p 1 ∧ s.carrier = true

/-- The staged values of the group are in force and no longer staged, and the COMMIT is answered (R433). -/
def InForce (s t : State) (r : Req) (o : Obj) (p : Nat) : Prop :=
  (∀ e ∈ s.stagedOf (o.key p), t.getKey e.1 = e.2 ∧ e ∉ t.staged) ∧ Answered t (reqId s r 0x02 (o.key p)) (.ok [])

/-- The COMMIT waits with its values for the islands concerned and for a boundary (R141, R433). -/
def Deferred (s t : State) (r : Req) (o : Obj) (p : Nat) (isls : List IslIx) : Prop :=
  t.dict.commits = s.dict.commits ++ [⟨o.key p, reqId s r 0x02 (o.key p), s.stagedOf (o.key p), isls, isls, []⟩] ∧ t.staged = s.staged ∧
  (∀ e ∈ s.stagedOf (o.key p), t.getKey e.1 = s.getKey e.1) ∧ (∀ n ∈ isls, n.val < s.isl.length → 0x2#4 ∈ (t.island n).downQ) ∧ t.out = s.out

/-- The COMMIT is refused with an abort code; nothing of its group changes. -/
def RefusedCommit (s t : State) (r : Req) (o : Obj) (c : Nat) : Prop :=
  Answered t (reqId s r 0x02 (o.key 0)) (.abort c) ∧ t.staged = s.staged ∧ t.dict.commits = s.dict.commits ∧
  ∀ e ∈ s.stagedOf (o.key 0), t.getKey e.1 = s.getKey e.1

/-- What no COMMIT touches. -/
def outsideCommit (s t : State) : Prop :=
  t.pending = s.pending ∧ t.now = s.now ∧ t.pins = s.pins ∧ t.mem = s.mem ∧ t.nv = s.nv ∧ t.hlm = s.hlm ∧ t.sup = s.sup ∧ t.sys = s.sys

/-! ### What every step keeps -/

/-- The interlock of the power stage (R23, R29, R345, R529): the permit is asserted only with nothing held by the collector or for the pulses of a catch; an island counts its permit as valid only with the Helmet's permit and DRV_EN, and its token as current only with its permit. -/
def interlocked (s : State) : Prop :=
  (s.hlm.permit = true → s.coll.any = false ∨ s.catching = true) ∧
  (∀ i ∈ s.isl, i.permit = true → s.hlm.permit = true ∧ s.pins.drvEn = true) ∧
  (∀ i ∈ s.isl, i.token = true → i.permit = true)

/-- Every held slot has a class the collector holds (R347). -/
def collClasses (s : State) : Prop := ∀ x ∈ s.coll.held, 3 ≤ x.cls ∧ x.cls ≤ 5

/-- The one-time-programmable cells of t are those of s or further on: a life cycle, a key slot, a generation and the rollback counter never go back, and destroyed keys stay destroyed. -/
def otpOnward (s t : State) : Prop :=
  s.otp.lc ≤ t.otp.lc ∧ s.otp.rollback ≤ t.otp.rollback ∧ s.otp.procGen ≤ t.otp.procGen ∧ s.otp.ringGen ≤ t.otp.ringGen ∧
  (s.otp.destroyed = true → t.otp.destroyed = true) ∧
  ∀ k : Fin 4, (s.otp.oem.getD k.val ⟨0, []⟩).state ≤ (t.otp.oem.getD k.val ⟨0, []⟩).state

/-- Class under which a fault is held: a C3 code raised for the fourth time within 10 s is handled as C4 (R343). -/
def heldClass (s : State) (cls : Nat) (f : FaultCode) : Nat := if cls = 3 ∧ 3 ≤ s.recentRaises f then 4 else cls

/-- The codes of class C3 and C4 that FAULT_POST posts with no more than their posting. -/
def plainPost (f : FaultCode) : Prop :=
  (f.cls = 3 ∨ f.cls = 4) ∧ f ∉ [FaultCode.fleMismatch, .rotorLost, .vinUv, .vddioFail, .collectorOverflow, .siEoffDemand, .siHvilDemand, .siCoverDemand, .siAuxDemand]

end Sys2Proof.Safety
end

