-- ==== Sys2Proof/Certificates/Slice0/Obligations.lean ====
section
/-! DEFINITION. The statements about the model, each with the rules or sections of the manual it rests on. -/

open Sys2Proof Sys2Proof.Machine Sys2Proof.Safety

/-- With c at the front of the queue, step answers what exec answers for c on the state with the queue's rest. With an empty queue step answers the next state of tick: the time has advanced by 1 µs and the queue is still empty. That time passes on an empty queue is the model's choice (log entry 1). (00_scope.md) -/
def Obligations.StepRunsTheFrontCommand : Prop :=
  (∀ (s : State) (c : Instr) (rest : List Instr), s.pending = c :: rest → step s = exec c { s with pending := rest }) ∧
  (∀ (s : State), s.pending = [] → step s = .next (tick s) ∧ (tick s).now = s.now + 1 ∧ (tick s).pending = [])

/-- In the state after reset the queue is empty, the device state is BOOT, RESET_CAUSE shows the power-on, every other object is at its default (CONTROL_WORD 0), nothing is staged, every byte of the SRAM reads 0, the collector holds nothing, the permit and the token are off, and each of the twelve islands is unpowered with every output held off. Registers that the manual gives no reset value are at the values of the assumption log, of which this statement says nothing. (03_supply_clocks_start.md Resets, 03_supply_clocks_start.md Start-up, 11_memory_selftest.md SRAM, 12_object_dictionary.md Device states, 01_module_architecture.md Who may switch the power stage) -/
def Obligations.ResetState : Prop :=
  State.reset.pending = [] ∧ State.reset.sys.dev = .boot ∧ bit (State.reset.get O.RESET_CAUSE) 0 = true ∧ State.reset.get O.CONTROL_WORD = 0 ∧
  (∀ (o : Obj) (p : Nat), o.key p ≠ O.RESET_CAUSE.key 0 → State.reset.get o p = o.dfltAt p) ∧ State.reset.staged = [] ∧ (∀ a, State.reset.sram a = 0) ∧
  emptyColl State.reset ∧ State.reset.coll.reported = [] ∧ State.reset.hlm.permit = false ∧ State.reset.sys.tokenOn = false ∧
  (∀ n : IslIx, (State.reset.island n).supplyOn = false ∧ (State.reset.island n).permit = false ∧ (State.reset.island n).token = false ∧
    ∀ o ∈ (State.reset.island n).outs, o.phase.isOn = false)

/-- The state after reset is in its canonical form (stores with rising keys, SRAM with rising addresses and no entry at the reset value, twelve islands), satisfies the interlock, and its collector holds no class but C3 to C5. (01_module_architecture.md Who may switch the power stage, 09_protection.md The fault collector, 11_memory_selftest.md SRAM) -/
def Obligations.InvariantsHoldAtReset : Prop :=
  sound State.reset ∧ interlocked State.reset ∧ collClasses State.reset

/-- For every state in canonical form, in whatever device state and with whatever command at the front of its queue, a step that answers a next state answers one in canonical form: the values in force and the staged values have strictly rising keys, the SRAM lists strictly rising addresses and no byte at its reset value, and there are twelve islands. The form is the model's own; the memories and stores it describes are the manual's. (11_memory_selftest.md SRAM, 12_object_dictionary.md Objects and values, 12_object_dictionary.md Groups and COMMIT) -/
def Obligations.EveryStepKeepsTheCanonicalForm : Prop :=
  ∀ (s t : State), sound s → step s = .next t → sound t

/-- For every state in which the interlock holds, a step that answers a next state answers one in which it holds: the Helmet asserts the permit only while the collector holds nothing, or for the zero-vector pulses of a catch while ROTOR_LOST alone is held; an island counts the permit as valid only while the Helmet asserts it and DRV_EN is high; an island holds a token as current only while its permit is valid. (01_module_architecture.md Who may switch the power stage, 09_protection.md Classes and reactions, 09_protection.md The fault collector, 06_rotor_position.md Catch of a turning machine, 09_protection.md Loss of the rotor, 04_gate_drive_islands.md Gauntlet channel and DRV_EN) -/
def Obligations.EveryStepKeepsTheInterlock : Prop :=
  ∀ (s t : State), interlocked s → step s = .next t → interlocked t

/-- For every command and state, when exec answers a next state, the queue of waiting commands and the time are as before, and the count of free values drawn has not gone back. Queue, time and count are the model's own (log entries 1 and 7). (00_scope.md) -/
def Obligations.CommandsLeaveQueueAndTime : Prop :=
  ∀ (i : Instr) (s t : State), exec i s = .next t → t.pending = s.pending ∧ t.now = s.now ∧ s.freeIx ≤ t.freeIx

/-- For every command and every state, when exec answers a next state, the life-cycle state, the state of each OEM key slot (empty, valid, revoked), the key generations and the rollback counter are at or above what they were, and keys once destroyed stay destroyed. (14_security.md Life-cycle states, 14_security.md Key material, 14_security.md Secure boot) -/
def Obligations.OtpCellsNeverGoBack : Prop :=
  ∀ (i : Instr) (s t : State), exec i s = .next t → otpOnward s t

/-- A fault of class C1 or C2 that is posted and whose condition is not held yet is reported: its condition is held, its code stands in REPORTED (which a C1 code may miss while 32 others fill the list), a record with its number, class and detail waits for the log (of a C1 code raised again within 1 s only the count of such records advances), and the slots are as before. A fault of class C3, C4 or C5 is raised to the collector. Whatever a step does, a slot held after it has class C3, C4 or C5 if the slots held before it had. (R347) -/
def Obligations.C1AndC2TakeNoSlot : Prop :=
  (∀ (s : State) (f : FaultCode) (d : Nat), f.cls ≤ 2 → (f, d) ∉ s.coll.conds → Reported s (s.post f d) f d ∧
    ((f.cls = 2 ∨ s.coll.noted.lookup f = none) → (s.post f d).log.seq = s.log.seq + 1 ∧
      ∃ x ∈ (s.post f d).log.waiting, x.code = f.num ∧ x.kind = 16 + f.cls ∧ x.detail = d ∧ x.seq = s.log.seq) ∧
    (∀ t0, f.cls = 1 → s.coll.noted.lookup f = some t0 → s.now < t0 + 1000000 →
      (s.post f d).get O.LOG_SUPPRESSED = countNext (8 * O.LOG_SUPPRESSED.ty.bytes) (s.getN O.LOG_SUPPRESSED) ∧ (s.post f d).log = s.log)) ∧
  (∀ (s : State) (f : FaultCode) (d : Nat), 3 ≤ f.cls → s.post f d = s.raise f.cls f d ∧ 3 ≤ heldClass s f.cls f ∧ heldClass s f.cls f ≤ 5) ∧
  (∀ (s t : State), collClasses s → step s = .next t → collClasses t)

/-- For every posted fault of class C3 to C5: 1. a code already held changes nothing but the log, where its repeat has a record. 2. With both slots empty it becomes active. 3. With the pending slot empty and a lower class active, it becomes active and the active fault pending. 4. With the pending slot empty and an equal or higher class active, it goes to pending. 5. With both slots full the slots stay, the permit is withdrawn, COLLECTOR_OVERFLOW is held, which is handled as C4 (a module that runs is in FAULT_LATCHED), and a record of the third fault carries the two held codes in its detail. FAULT_POST of a code with no rule of its own posts it so. (R348) -/
def Obligations.CollectorPlacesFaults : Prop :=
  (∀ (s : State) (cls : Nat) (f : FaultCode) (d : Nat), (∃ x ∈ s.coll.held, x.code = f) →
    s.raise cls f d = { s with coll := { s.coll with conds := (s.raise cls f d).coll.conds }, log := (s.raise cls f d).log,
                               fl := { s.fl with trace := { s.fl.trace with trig := (s.raise cls f d).fl.trace.trig } } } ∧
    (s.raise cls f d).log.seq = s.log.seq + 1 ∧ ∃ x ∈ (s.raise cls f d).log.waiting, x.code = f.num ∧ x.detail = d) ∧
  (∀ (s : State) (cls : Nat) (f : FaultCode) (d : Nat), 3 ≤ cls → cls ≤ 5 → emptyColl s →
    (s.raise cls f d).coll.active = some ⟨f, heldClass s cls f, d⟩ ∧ (s.raise cls f d).coll.pend = none) ∧
  (∀ (s : State) (cls : Nat) (f : FaultCode) (d : Nat) (a : Slot), 3 ≤ cls → cls ≤ 5 → s.coll.holds f = false → s.coll.active = some a → s.coll.pend = none →
    a.cls < heldClass s cls f → (s.raise cls f d).coll.active = some ⟨f, heldClass s cls f, d⟩ ∧ (s.raise cls f d).coll.pend = some a) ∧
  (∀ (s : State) (cls : Nat) (f : FaultCode) (d : Nat) (a : Slot), 3 ≤ cls → cls ≤ 5 → s.coll.holds f = false → s.coll.active = some a → s.coll.pend = none →
    heldClass s cls f ≤ a.cls → (s.raise cls f d).coll.active = some a ∧ (s.raise cls f d).coll.pend = some ⟨f, heldClass s cls f, d⟩) ∧
  (∀ (s : State) (cls : Nat) (f : FaultCode) (d : Nat) (a b : Slot), 3 ≤ cls → cls ≤ 5 → s.coll.holds f = false → s.coll.active = some a → s.coll.pend = some b →
    (s.raise cls f d).coll.active = some a ∧ (s.raise cls f d).coll.pend = some b ∧ (s.raise cls f d).coll.overflow = true ∧ (s.raise cls f d).hlm.permit = false ∧
    (s.sys.dev.running = true → (s.raise cls f d).sys.dev = .faultLatched) ∧
    ∃ x ∈ (s.raise cls f d).log.waiting, x.code = f.num ∧ x.detail = a.code.num + 0x10000 * b.code.num) ∧
  (∀ (s : State) (f : FaultCode) (d : Nat), s.alive = true → s.sys.dev.runs = true → plainPost f → Ran (.faultPost f d) s fun t => t = s.raise f.cls f d)

/-- A value within its type (two's complement for the signed types, else unsigned) is encoded in as many bytes as the type has, byte k being bits 8k+7..8k, and decoding them gives the value back. A READ answers this encoding of the object's value. A WRITE, past its access checks, of data that decode to no value of the type or to one outside the object's range is refused with ABORT_VALUE and changes nothing but what every refused request changes. (R430) -/
def Obligations.ValuesAreLittleEndian : Prop :=
  (∀ (ty : Ty) (v : Int), (if ty.signed = true then -(2 ^ (8 * ty.bytes - 1) : Nat) ≤ v ∧ v < (2 ^ (8 * ty.bytes - 1) : Nat) else 0 ≤ v ∧ v < (2 ^ (8 * ty.bytes) : Nat)) →
    (ty.encode v).length = ty.bytes ∧ ty.decode (ty.encode v) = v ∧
    ∀ k, k < ty.bytes → (ty.encode v).getD k 0 = BitVec.ofNat 8 ((v % (2 ^ (8 * ty.bytes) : Nat)).toNat / 2 ^ (8 * k))) ∧
  (∀ (s : State) (r : Req) (idx : Half) (sub : Byte) (o : Obj) (p : Nat), takesIn s r 0x01 (keyOf idx sub) = true → isSubZero (keyOf idx sub) = false →
    findObj (keyOf idx sub) = some (o, p) → o.ty.isDomain = false → o.acc ≠ .wo → o.lvl = .obs → o ∉ noMeasure → Ran (.read r idx sub) s fun t =>
      Answered t (reqId s r 0x01 (keyOf idx sub)) (.ok (o.ty.encode ((taken s r (reqId s r 0x01 (keyOf idx sub))).value o p)))) ∧
  (∀ (o : Obj) (v : Int), o.ty = .bool → (o.accepts v = true ↔ v = 0 ∨ v = 1)) ∧
  (∀ (o : Obj) (v : Int), o.ty = .f32 → f32Bad v.toNat = true → o.accepts v = false) ∧
  (∀ (o : Obj) (v : Int), o.ty ≠ .bool → o.ty ≠ .f32 → o.rng ≠ [] → (o.accepts v = true ↔ ∃ x ∈ o.rng, x.1 ≤ v ∧ v ≤ x.2)) ∧
  (∀ (s : State) (r : Req) (idx : Half) (sub : Byte) (o : Obj) (p : Nat) (d : List Byte), takesIn s r 0x02 (keyOf idx sub) = true → isSubZero (keyOf idx sub) = false →
    findObj (keyOf idx sub) = some (o, p) → o.key p = keyOf idx sub → o.ty.isDomain = false → d.length = o.ty.bytes →
    s.checkAccess r.port ((s.levelOf r.port r.session).getD .opr) o = none → o.accepts (o.ty.decode d) = false → s.noWrite o p = false →
    (o.acc = .rwp → s.dict.persist.length < 2) → Ran (.write r idx sub d) s fun t =>
      Answered t (reqId s r 0x02 (keyOf idx sub)) (.abort 0x15) ∧ requestFrame s t ∧ onlyVals [O.REQ_ACCEPTED.key 0, O.REQ_ABORTED.key 0] s t)

/-- VIN rising through VIN_POR starts AON from its reset values; falling through it stops every island supply and puts the whole module in reset with the NV content kept; VIN valid begins a start-up attempt in BOOT with the straps read; a first VIN_UV leads to SAFE_HOLD; VIN_HIGH and VIN_WARN_LOW are reported and leave, and nothing but reporting changes. (03_supply_clocks_start.md Table 3.2, 03_supply_clocks_start.md Table 3.6, 03_supply_clocks_start.md Table 3.12) -/
def Obligations.VinLevelsActAsTable : Prop :=
  (∀ s : State, s.sup.vinUp = false → s.sup.hold.pin = false → s.sup.thermal = false → Ran .vinPorRise s fun t =>
    t.sup.vinUp = true ∧ t.sup.hold.por = true ∧ t.get O.RESET_CAUSE = 1 ∧ t.get O.THERM_SHUTDOWN_COUNT = 0 ∧ t.get O.WAKE_CAUSE = 0 ∧
    t.get O.CONFIG_ACTIVE = 0xFF ∧ t = { s with sup := t.sup, vals := t.vals } ∧
    onlyVals [O.RESET_CAUSE.key 0, O.THERM_SHUTDOWN_COUNT.key 0, O.WAKE_CAUSE.key 0, O.CONFIG_ACTIVE.key 0] s t) ∧
  (∀ s : State, s.sup.vinUp = true → Ran .vinPorFall s fun t =>
    t.sup.vinUp = false ∧ t.sup.vinValid = false ∧ t.sup.hold.por = true ∧ t.sys.dev = .off ∧ t.isl = s.isl.map Island.unpower ∧
    t.hlm.permit = false ∧ t.sys.tokenOn = false ∧ t.staged = [] ∧ t.nv.persist = s.nv.persist ∧ t.nv.sec.otp = s.nv.sec.otp ∧ t.log = s.log) ∧
  (∀ (s : State) (straps : BitVec 2), s.sup.vinUp = true → s.sup.hold = ⟨true, false, false, false⟩ → Ran (.vinValidRise straps) s fun t =>
    t.sup.vinValid = true ∧ t.sup.hold.none = true ∧ t.sys.dev = .boot ∧ t.sup.attempting = true ∧ t.pins.straps = straps ∧
    t.isl = s.isl ∧ t.nv = s.nv ∧ t.mem = s.mem ∧ t.net = s.net) ∧
  (∀ s : State, firstFault s .vinUv → s.sup.vinUp = true → Ran .vinUvFall s fun t =>
    HeldC3 { s with sup := { s.sup with vinValid := false } } t .vinUv 0 ∧ t.sup.vinValid = false) ∧
  (∀ (s : State) (mv : Nat), mv ≤ 45000 → s.sys.dev.runs = true → (FaultCode.vinHigh, 0) ∉ s.coll.conds → s.sup.vinUp = true → Ran (.vinHighRise mv) s fun t =>
    Reported s t .vinHigh 0 ∧ reportFrame { s with sup := { s.sup with vinHi := true } } t) ∧
  (∀ s : State, s.sys.dev.runs = true → soleCond s .vinHigh 0 → Ran .vinHighFall s fun t =>
    Left t .vinHigh 0 ∧ reportFrame { s with sup := { s.sup with vinHi := false } } t ∧ onlyVals [] s t) ∧
  (∀ s : State, s.sys.dev.runs = false → s.sup.vinUp = true → Ran .vinUvFall s fun t => t = { s with sup := { s.sup with vinValid := false } }) ∧
  (∀ s : State, s.sup.vinValid = false → emptyColl s → s.sup.vinHi = false → s.sup.vinWarn = false → s.vinAfresh.coll.active.map Slot.code = some .vinUv) ∧
  (∀ s : State, s.sys.dev.runs = true → (FaultCode.vinWarnLow, 0) ∉ s.coll.conds → s.sup.vinUp = true → Ran (.vinWarnLowCross true) s fun t =>
    Reported s t .vinWarnLow 0 ∧ reportFrame { s with sup := { s.sup with vinWarn := true } } t) ∧
  (∀ s : State, s.sys.dev.runs = true → soleCond s .vinWarnLow 0 → Ran (.vinWarnLowCross false) s fun t =>
    Left t .vinWarnLow 0 ∧ reportFrame { s with sup := { s.sup with vinWarn := false } } t ∧ onlyVals [] s t)

/-- VIN_HIGH_RISE with VIN above 45 V stops with the fault vinBeyondLimit, because the manual specifies no behaviour there; at or below 45 V it does not stop. (03_supply_clocks_start.md VIN and the internal rails) -/
def Obligations.VinBeyondLimitStops : Prop :=
  (∀ (s : State) (mv : Nat), 45000 < mv → exec (.vinHighRise mv) s = .fault .vinBeyondLimit) ∧
  (∀ (s : State) (mv : Nat), mv ≤ 45000 → ∃ t, exec (.vinHighRise mv) s = .next t)

/-- VDDIO out of its band sets the VDDIO outputs high impedance and a first VDDIO_FAIL leads to SAFE_HOLD; back in band, the fault leaves. A control rail outside its window, a lost PLL or the lost crystal resets the control die with RAIL or CLOCK set and keeps the island supplies; a clock domain is a fault only in the second deviating window in succession. VSAFE outside its window stops the Helmet: every heartbeat and permit ends. (03_supply_clocks_start.md VIN and the internal rails, 03_supply_clocks_start.md Clock domains, 03_supply_clocks_start.md Table 3.5, 03_supply_clocks_start.md Voltage and process monitors) -/
def Obligations.SupplyAndClockFailures : Prop :=
  (∀ s : State, firstFault s .vddioFail → s.get O.VDDIO_LEVEL ≠ 0 → Ran .vddioOutOfBand s fun t =>
    HeldC3 { s with pins := { s.pins with vddioHiZ := true } } t .vddioFail 0) ∧
  (∀ s : State, soleC3 s .vddioFail 0 → s.sys.dev = .safeHold → s.get O.VDDIO_LEVEL ≠ 0 → Ran .vddioBackInBand s fun t =>
    FaultOver t .vddioFail 0 ∧ t.pins.vddioHiZ = false) ∧
  (∀ (s : State) (r : Rail), r ≠ .vsafe → s.sup.asleep = 0 → s.sup.vinUp = true → s.sup.hold.por = false → s.sup.romRunning = true → calm s →
    Ran (.railOutOfWindow r) s fun t => DieReset s t 5) ∧
  (∀ s : State, s.sup.asleep = 0 → s.sup.vinUp = true → s.sup.hold.por = false → Ran (.railOutOfWindow .vsafe) s fun t =>
    t.hlm.stopped = true ∧ t.hlm.heartbeat = false ∧ t.hlm.permit = false ∧ ∀ n : IslIx, (t.island n).permit = false) ∧
  (∀ (s : State) (d : ClockDomain) (dev : Int), bit (s.get O.CLOCK_STATUS) 0 = true → 30 < absI dev → d ∉ s.sup.clockDev → d ≠ .safe → d ≠ .aon →
    Ran (.clockCheckWindow d dev) s fun t => t = { s with sup := { s.sup with clockDev := s.sup.clockDev.filter (fun x => x != d) ++ [d] } }) ∧
  (∀ (s : State) (d : ClockDomain) (dev : Int), bit (s.get O.CLOCK_STATUS) 0 = true → absI dev ≤ 30 → d ≠ .safe → d ≠ .aon →
    Ran (.clockCheckWindow d dev) s fun t => t = { s with sup := { s.sup with clockDev := s.sup.clockDev.filter (fun x => x != d) } }) ∧
  (∀ (s : State) (d : ClockDomain) (dev : Int), bit (s.get O.CLOCK_STATUS) 0 = true → 30 < absI dev → d ∈ s.sup.clockDev → d ≠ .safe → calm s →
    Ran (.clockCheckWindow d dev) s fun t => DieReset s t 4) ∧
  (∀ (s : State) (p : Pll), bit (s.get O.CLOCK_STATUS) 0 = true → calm s → Ran (.pllLossOfLock p) s fun t => DieReset s t 4) ∧
  (∀ s : State, bit (s.get O.CLOCK_STATUS) 8 = true → calm s → Ran .crystalLoss s fun t => DieReset s t 4)

/-- A scan puts every sensor reading in TEMP_SENSOR, and 0x8000 for an unpowered island (shown for a scan of plausible, equal readings with no sensor failed, which sets TEMP_MAX to that reading). The process monitor shows its result and reports PROCESS_BAND outside the band. An island power average is shown, at 1.5 W reports ISL_POWER_HIGH and below 1.4 W lets it leave. A write to RESET_CAUSE clears exactly the bits written 1 and is answered. (03_supply_clocks_start.md Temperature, 03_supply_clocks_start.md Island power, 03_supply_clocks_start.md Voltage and process monitors, 03_supply_clocks_start.md Table 3.6) -/
def Obligations.TemperatureMonitors : Prop :=
  (∀ (s : State) (c : Int), s.sys.dev.runs = true → s.sup.tempFailed = [] → -550 ≤ c → c ≤ 2000 → c < s.get O.TEMP_WARN - 50 → c < s.get O.TEMP_DERATE - 50 →
    soleCond s .tempWarn 0 → (∀ d, (FaultCode.tempDerate, d) ∉ s.coll.conds) →
    Ran (.tempScan (List.replicate 20 c)) s fun t =>
      t.get O.TEMP_MAX = c ∧ Left t .tempWarn 0 ∧ (∀ k < 20, k < 6 ∨ 18 ≤ k ∨ (s.isl.getD (k - 6) State.resetIsland).live = true → t.get O.TEMP_SENSOR k = c) ∧
      (∀ k, 6 ≤ k → k < 18 → (s.isl.getD (k - 6) State.resetIsland).live = false → t.get O.TEMP_SENSOR k = -32768) ∧ reportFrame s t) ∧
  (∀ (s : State) (code band : Nat), s.sys.dev.runs = true → 0 < band → (FaultCode.processBand, 0) ∉ s.coll.conds → Ran (.processMonitorTick code band) s fun t =>
    t.get O.PROCESS_CODE = code ∧ t.get O.PROCESS_STATE = band ∧ Reported s t .processBand 0 ∧ reportFrame s t) ∧
  (∀ (s : State) (n : IslIx) (mw : Nat), 1500 ≤ mw → (FaultCode.islPowerHigh, n.val) ∉ s.coll.conds → Ran (.islPowerAverage n mw) s fun t =>
    t.get O.ISL_POWER n.val = mw ∧ Reported s t .islPowerHigh n.val ∧ reportFrame s t ∧ onlyVals [O.ISL_POWER.key n.val, O.LOG_SUPPRESSED.key 0] s t) ∧
  (∀ (s : State) (n : IslIx) (mw : Nat), 1400 ≤ mw → mw < 1500 → Ran (.islPowerAverage n mw) s fun t =>
    t.get O.ISL_POWER n.val = mw ∧ onlyObjects [O.ISL_POWER.key n.val] s t) ∧
  (∀ (s : State) (n : IslIx) (mw : Nat), mw < 1400 → soleCond s .islPowerHigh n.val → Ran (.islPowerAverage n mw) s fun t =>
    t.get O.ISL_POWER n.val = mw ∧ Left t .islPowerHigh n.val ∧ reportFrame s t) ∧
  (∀ (s : State) (r : Req) (mask : Half), writeRuns s r O.RESET_CAUSE 0 mask.toNat → Ran (.resetCauseClear r mask) s fun t =>
    t.get O.RESET_CAUSE = (BitVec.ofInt 16 (s.get O.RESET_CAUSE) &&& ~~~ mask).toNat ∧ Answered t (reqId s r 0x02 (O.RESET_CAUSE.key 0)) (.ok []) ∧
    requestFrame s t ∧ onlyVals [O.RESET_CAUSE.key 0, O.REQ_ACCEPTED.key 0] s t)

/-- An attempt whose rails, crystal or PLLs fail ends with that cause and is begun again by a retry; one that passes shows the clock states and the VDDIO level and begins the clearing, after which the ROMs run. VDDIO at no level leaves its outputs high impedance with VDDIO_FAIL held, and start-up goes on. RESET_N low under 100 ns does nothing, from 1 us resets the control die, and between the two does the one or the other; RESET_N high again begins an attempt when no other source holds the reset. (03_supply_clocks_start.md Start-up, 03_supply_clocks_start.md Resets, 14_security.md Secure boot) -/
def Obligations.StartUpAttempts : Prop :=
  (∀ (s : State) (xtal plls : Bool) (mv : Nat), s.sup.attempting = true → Ran (.startAttemptCheck xtal false plls mv) s fun t =>
    t.sup.attempting = false ∧ t.sup.attemptFailed = some .rails ∧ t = { s with sup := t.sup }) ∧
  (∀ (s : State) (plls : Bool) (mv : Nat), s.sup.attempting = true → Ran (.startAttemptCheck false true plls mv) s fun t =>
    t.sup.attempting = false ∧ t.sup.attemptFailed = some .crystal ∧ t.sup.xtalMissed = true ∧ t = { s with sup := t.sup }) ∧
  (∀ (s : State) (mv : Nat), s.sup.attempting = true → Ran (.startAttemptCheck true true false mv) s fun t =>
    t.sup.attempting = false ∧ t.sup.attemptFailed = some .plls ∧ t = { s with sup := t.sup }) ∧
  (∀ (s : State) (mv : Nat), s.sup.attempting = true → s.sup.xtalMissed = false → (2970 ≤ mv ∧ mv ≤ 3630 ∨ 4500 ≤ mv ∧ mv ≤ 5500) →
    Ran (.startAttemptCheck true true true mv) s fun t =>
      t.sup.clearing = true ∧ t.sup.attempting = false ∧ t.get O.CLOCK_STATUS = 0x1F7 ∧ t.get O.VDDIO_LEVEL = (if mv ≤ 3630 then 1 else 2) ∧
      t.get O.VDDIO_MEAS = mv ∧ t.pins.vddioHiZ = false ∧ t = { s with sup := t.sup, pins := t.pins, vals := t.vals } ∧
      onlyVals [O.CLOCK_STATUS.key 0, O.VDDIO_LEVEL.key 0, O.VDDIO_MEAS.key 0] s t) ∧
  (∀ (s : State) (mv : Nat), s.sup.attempting = true → s.sup.xtalMissed = false → s.sys.dev = .boot → emptyColl s → s.recentRaises .vddioFail < 3 →
    (mv < 2970 ∨ 3630 < mv ∧ mv < 4500 ∨ 5500 < mv) → Ran (.startAttemptCheck true true true mv) s fun t =>
      t.sup.clearing = true ∧ t.get O.VDDIO_LEVEL = 0 ∧ t.pins.vddioHiZ = true ∧ t.coll.active = some ⟨.vddioFail, 3, 0⟩ ∧ t.sys.dev = .boot) ∧
  (∀ s : State, s.sup.attemptFailed.isSome = true → Ran .startRetry s fun t =>
    t = { s with sup := { s.sup with attempting := true, attemptFailed := none } }) ∧
  (∀ (s : State) (ns : Nat), ns < 100 → Ran (.resetNFall ns) s fun t => t = s) ∧
  (∀ (s : State) (ns : Nat), 1000 ≤ ns → s.pins.resetN = true → s.sup.vinUp = true → s.sup.hold.por = false → s.sup.asleep = 0 →
    Ran (.resetNFall ns) s fun t => DieReset s t 2 ∧ t.pins.resetN = false ∧ t.sup.hold.pin = true ∧ t.sup.attempting = false) ∧
  (∀ (s : State) (ns : Nat), 100 ≤ ns → ns < 1000 → s.pins.resetN = true → s.sup.vinUp = true → s.sup.hold.por = false → s.sup.asleep = 0 →
    Ran (.resetNFall ns) s fun t => t = s.draw ∨ (DieReset s t 2 ∧ t.pins.resetN = false)) ∧
  (∀ (s : State) (straps : BitVec 2), s.pins.resetN = false → s.sup.vinUp = true → s.sup.asleep = 0 → s.sup.hold = ⟨false, true, false, false⟩ →
    Ran (.resetNRise straps) s fun t => t.pins.resetN = true ∧ t.pins.straps = straps ∧ t.sup.hold.none = true ∧ t.sup.attempting = true ∧ t.isl = s.isl ∧ t.nv = s.nv) ∧
  (∀ s : State, s.sup.clearing = true → Ran .sramClearDone s fun t =>
    t = { s with sup := { s.sup with clearing := false, romRunning := true, slotsLeft := s.slotOrder } })

/-- A slot that both ROMs accept runs: it reads active, its number and version are shown, M1 is released and the power-on self-test begins. A slot that is rejected is marked invalid with its reason and the next slot is due; when none is left a retry tries them all again. The end of the power-on set is kept, and with it done the end of the safety-input start-up test with no evaluator enabled sets SI_READY and enters STANDBY. (14_security.md Secure boot, 12_object_dictionary.md Device states, 11_memory_selftest.md Self-test, 10_safety_inputs.md Start-up demand) -/
def Obligations.BootSelectsFirmware : Prop :=
  (∀ (s : State) (k : FwSlot) (rest : List FwSlot) (f : FwSeen), s.sys.dev = .boot → s.sup.romRunning = true → s.sup.slotsLeft = k :: rest →
    fwReason s.otp f = 0 → f.helmetOk = true → Ran (.bootSlotCheckDone k f) s fun t =>
      t.sys.dev = .selftest ∧ t.sec.running = some k ∧ (t.nv.sec.slot k).state = 5 ∧ (t.nv.sec.slot k).version = f.version ∧
      t.get O.FW_SLOT = slotNum k ∧ t.get O.FW_VERSION = f.version.toNat ∧ t.sup.m1Released = true ∧ t.hlm.heartbeat = true ∧ t.nv.persist = s.nv.persist) ∧
  (∀ (s : State) (k : FwSlot) (rest : List FwSlot) (f : FwSeen), s.sys.dev = .boot → s.sup.romRunning = true → s.sup.slotsLeft = k :: rest →
    fwReason s.otp f ≠ 0 → Ran (.bootSlotCheckDone k f) s fun t =>
      t.sup.slotsLeft = rest ∧ t.sys = s.sys ∧ t.sec.running = s.sec.running ∧ (t.nv.sec.slot k).state = 4 ∧ t.get O.REJECT_REASON (slotNum k) = fwReason s.otp f ∧
      t = { s with vals := t.vals, sup := t.sup, sec := t.sec, nv := t.nv } ∧ t.nv.persist = s.nv.persist ∧ onlyVals [O.REJECT_REASON.key (slotNum k)] s t) ∧
  (∀ s : State, s.sys.dev = .boot → s.sup.romRunning = true → s.sup.slotsLeft = [] → s.sec.running = none → Ran .bootRetry s fun t =>
    t = { s with sup := { s.sup with slotsLeft := s.slotOrder }, sec := { s.sec with rejects := [] } }) ∧
  (∀ (s : State) (bad : List Nat) (nvOk : Bool), s.sys.dev = .selftest → s.sup.selftestDone = false → Ran (.powerOnSelftestDone [] bad nvOk) s fun t =>
    t.sup.selftestDone = true ∧ t.nv.persist = s.nv.usable bad) ∧
  (∀ s : State, s.sys.dev = .selftest → s.sup.selftestDone = true → s.get O.SI_READY = 0 → (∀ e < 4, s.get O.ENABLE e = 0) → emptyColl s →
    s.get O.CONTROL_WORD = 0 → Ran (.siStartupTestDone []) s fun t =>
      t.get O.SI_READY = 1 ∧ t.sys.dev = .standby ∧ t.sys.standbySeen = true ∧ t.sup.keepSupplies = s.isl.any (fun i => i.supplyOn))

/-- ISLAND_GROUP_START starts the three islands of the next group, holding FREEWHEEL, and passes to the next group or to verification; with READY no longer wanted it switches every supply off. A trained link starts its sequence numbers anew with empty queues. A verification step that passes makes the next one due, and one that fails holds ISL_VERIFY_FAIL with the island and step in STANDBY with every supply off. In a STANDBY that kept the supplies they go off after 1 s of FREEWHEEL or BLOCK, and not before. (03_supply_clocks_start.md Table 3.8, 04_gate_drive_islands.md Table 4.16, 12_object_dictionary.md Table 12.9) -/
def Obligations.IslandsStartAndVerify : Prop :=
  (∀ (s : State) (k : Fin 4), s.isl.length = 12 → s.sup.readyPhase = .group k → s.wantIslands = true → Ran .islandGroupStart s fun t =>
    t.sup.readyPhase = (if k = 3 then .verify else .group (k + 1)) ∧
    (∀ n : IslIx, n.val / 3 = k.val → (t.island n).supplyOn = true ∧ ((s.island n).supplyOn = false →
      (t.island n).powered = true ∧ (t.island n).preload = .freewheel ∧ (t.island n).verified = false ∧
      (t.island n).vposSet = s.get O.VPOS_SET n.val ∧ (t.island n).vnegSet = s.get O.VNEG_SET n.val)) ∧
    (∀ n : IslIx, n.val / 3 ≠ k.val → t.island n = s.island n) ∧ t = { s with isl := t.isl, sup := t.sup }) ∧
  (∀ (s : State) (k : Fin 4), s.sup.readyPhase = .group k → s.sys.dev = .standby → s.ctrlBit 0 = false → Ran .islandGroupStart s fun t =>
    (∀ n : IslIx, (t.island n).supplyOn = false) ∧ t.sup.readyPhase = .idle ∧ t.sys.dev = .standby) ∧
  (∀ (s : State) (n : IslIx), (s.island n).live = true → (s.sup.readyPhase ≠ .idle → s.wantIslands = true) → Ran (.rillysLinkTrained n) s fun t =>
    (t.island n).trained = true ∧ (t.island n).linkOk = true ∧ (t.island n).down = State.resetDir ∧ (t.island n).up = State.resetDir ∧
    (t.island n).downQ = [] ∧ (t.island n).upQ = [] ∧ islFrame n s t) ∧
  (∀ (s : State) (n : IslIx) (m : VerifyMeas), (s.island n).step ∈ [1, 3, 4, 5, 6, 9] → (s.island n).trained = true → s.sup.readyPhase = .verify →
    s.wantIslands = true → (s.island n).verified = false → m.ok = true → Ran (.islandVerifyStepDone n m) s fun t =>
      (t.island n).step = (s.island n).step + 1 ∧ islFrame n s t) ∧
  (∀ (s : State) (n : IslIx) (m : VerifyMeas), 1 ≤ (s.island n).step → (s.island n).step ≤ 10 → (s.island n).trained = true → s.sup.readyPhase = .verify →
    s.sys.dev = .standby → s.ctrlBit 0 = true → emptyColl s → m.ok = false → Ran (.islandVerifyStepDone n m) s fun t =>
      t.coll.active = some ⟨.islVerifyFail, 4, n.val + 0x100 * (s.island n).step⟩ ∧ t.sys.dev = .standby ∧ (∀ k : IslIx, (t.island k).supplyOn = false) ∧ faultFrame s t) ∧
  (∀ (s : State) (t0 : Nat), s.sup.releaseFrom = some t0 → s.sup.keepSupplies = true → s.sys.dev = .standby → t0 + 1000000 ≤ s.now →
    Ran .islandSupplyReleaseTimer s fun t => (∀ n : IslIx, (t.island n).supplyOn = false) ∧ t.sup.keepSupplies = false ∧ t.sys.dev = .standby ∧ t.vals = s.vals ∧ t.nv = s.nv) ∧
  (∀ (s : State) (t0 : Nat), s.sup.releaseFrom = some t0 → s.now < t0 + 1000000 → Ran .islandSupplyReleaseTimer s fun t => t = s)

/-- The end of SLEEP entry removes every island supply and saves the operating time; a wake that came meanwhile acts at once. WAKE for at least 50 us leaves SLEEP with WAKE added to RESET_CAUSE, and OFF with only WAKE set; a shorter one does nothing. The wake timer leaves SLEEP only. A thermal shutdown resets the control die, counts itself and holds the die in reset with the islands supplied; after its dwell an attempt begins, except in the latch behaviour. (03_supply_clocks_start.md Low-power states, 03_supply_clocks_start.md Table 3.6, 03_supply_clocks_start.md Temperature) -/
def Obligations.SleepWakeAndThermalShutdown : Prop :=
  (∀ (s : State) (d : Nat), s.sup.entering = some d → s.dict.persist = [] → s.spent (O.OP_TIME.key 0) = false → Ran (.sleepEntryDone false false) s fun t =>
    t.sys.dev = .sleep ∧ t.sup.asleep = d + 1 ∧ t.isl = s.isl.map Island.unpower ∧ t.dict = State.resetDict ∧ t.net = State.resetNet ∧ t.nv.opTime = s.opTime ∧
    t.nv.sec.otp = s.nv.sec.otp) ∧
  (∀ (s : State) (d : Nat) (timer : Bool), s.sup.entering = some d → s.sup.hold.none = true → Ran (.sleepEntryDone true timer) s fun t =>
    t.sys.dev = .boot ∧ t.sup.asleep = 0 ∧ t.sup.attempting = true ∧ t.get O.WAKE_CAUSE = 1 ∧ t.isl = s.isl.map Island.unpower) ∧
  (∀ (s : State) (us : Nat) (straps : BitVec 2), us < 50 → Ran (.wakeRise us straps) s fun t => t = s) ∧
  (∀ (s : State) (us : Nat) (straps : BitVec 2), 50 ≤ us → s.sup.asleep = 0 → Ran (.wakeRise us straps) s fun t =>
    t = { s with pins := { s.pins with wakeUntil := s.now + us } }) ∧
  (∀ (s : State) (us : Nat) (straps : BitVec 2), 50 ≤ us → s.sup.asleep = 1 → s.sup.hold.none = true → Ran (.wakeRise us straps) s fun t =>
    t.sys.dev = .boot ∧ t.sup.asleep = 0 ∧ t.sup.attempting = true ∧ t.get O.WAKE_CAUSE = 1 ∧ t.get O.RESET_CAUSE = setBit (s.get O.RESET_CAUSE) 7 true ∧ t.nv = s.nv ∧ t.isl = s.isl) ∧
  (∀ (s : State) (us : Nat) (straps : BitVec 2), 50 ≤ us → s.sup.asleep = 2 → s.sup.hold.none = true → Ran (.wakeRise us straps) s fun t =>
    t.sys.dev = .boot ∧ t.sup.asleep = 0 ∧ t.get O.WAKE_CAUSE = 1 ∧ t.get O.RESET_CAUSE = 0x80 ∧ t.get O.THERM_SHUTDOWN_COUNT = 0 ∧ t.nv = s.nv) ∧
  (∀ (s : State) (straps : BitVec 2), s.sup.asleep = 1 → s.sup.hold.none = true → Ran (.wakeTimerExpiry straps) s fun t =>
    t.sys.dev = .boot ∧ t.sup.asleep = 0 ∧ t.get O.WAKE_CAUSE = 2 ∧ t.get O.RESET_CAUSE = setBit (s.get O.RESET_CAUSE) 7 true ∧ t.nv = s.nv) ∧
  (∀ (s : State) (straps : BitVec 2), s.sup.asleep ≠ 1 → Ran (.wakeTimerExpiry straps) s fun t => t = s) ∧
  (∀ (s : State) (k : Fin 20), s.sup.thermal = false → s.sup.vinUp = true → s.sup.asleep = 0 → Ran (.thermalShutdownTrip k) s fun t =>
    DieReset s t 3 ∧ t.sup.thermal = true ∧ t.sup.hold.thermal = true ∧ t.sup.attempting = false ∧ t.sup.thermLatch = (s.get O.THERM_MODE_ACTIVE == 1) ∧
    (0 ≤ s.get O.THERM_SHUTDOWN_COUNT → s.get O.THERM_SHUTDOWN_COUNT < 65535 → t.get O.THERM_SHUTDOWN_COUNT = s.get O.THERM_SHUTDOWN_COUNT + 1)) ∧
  (∀ s : State, s.sup.thermal = true → s.sup.thermLatch = false → s.sup.hold = ⟨false, false, true, false⟩ → Ran .thermalDwellEnd s fun t =>
    t.sup.thermal = false ∧ t.sup.hold.none = true ∧ t.sup.attempting = true ∧ t.isl = s.isl ∧ t.nv = s.nv) ∧
  (∀ s : State, s.sup.thermLatch = true → Ran .thermalDwellEnd s fun t => t = s)

/-- With the edge channel deciding (row 6 of Table 1.6) OFF leaves no output on and OFF_SOFT leaves none on and every output that was on in a soft-off; ON with an idle claim asserts the CLAIM and leaves every output as it was. KEEP_OFF and KEEP_ON that agree with the level held only mark the channel alive, and correct it otherwise with a count. PROBE starts the probe that is due and only that, and a reserved symbol only counts. No other island changes. (04_gate_drive_islands.md Table 4.4, 01_module_architecture.md Table 1.6, 04_gate_drive_islands.md Interlock, CLAIM and dead time) -/
def Obligations.EdgeChannelSymbols : Prop :=
  (∀ (s : State) (n : IslIx), (s.island n).live = true → (s.island n).cmd = false → Ran (.keepOff n) s fun t => t = s.updIsl n Island.symbol) ∧
  (∀ (s : State) (n : IslIx), (s.island n).live = true → (s.island n).cmd = true → s.cfg ≠ 0 → (∀ o ∈ (s.island n).outs, o.failed = false) → Ran (.keepOff n) s fun t =>
    (t.island n).cmd = false ∧ t.get O.EDGE_CORRECTIONS = countNext (8 * O.EDGE_CORRECTIONS.ty.bytes) (s.getN O.EDGE_CORRECTIONS) ∧
    t = { s with isl := t.isl, vals := t.vals } ∧ (∀ m : IslIx, m ≠ n → t.island m = s.island m) ∧ onlyVals [O.EDGE_CORRECTIONS.key 0] s t) ∧
  (∀ (s : State) (n : IslIx), (s.island n).live = true → (s.island n).cmd = true → Ran (.keepOn n) s fun t => t = s.updIsl n Island.symbol) ∧
  (∀ (s : State) (n : IslIx), (s.island n).live = true → (s.island n).cmd = false → s.cfg ≠ 0 → Ran (.keepOn n) s fun t =>
    (t.island n).cmd = true ∧ t.get O.EDGE_CORRECTIONS = countNext (8 * O.EDGE_CORRECTIONS.ty.bytes) (s.getN O.EDGE_CORRECTIONS) ∧
    (∀ m : IslIx, m ≠ n → t.island m = s.island m) ∧ onlyVals [O.EDGE_CORRECTIONS.key 0] s t) ∧
  (∀ (s : State) (n : IslIx) (g : List Int), (s.island n).live = true → (s.island n).verified = true → (s.island n).row = 6 →
    (∀ o ∈ (s.island n).outs, o.failed = false) → Ran (.off n g) s fun t =>
      (t.island n).cmd = false ∧ (t.island n).barred = false ∧ (∀ o ∈ (t.island n).outs, o.phase.isOn = false) ∧ (t.island n).claim = .idle ∧ islFrame n s t) ∧
  (∀ (s : State) (n : IslIx) (g : List Int), (s.island n).live = true → (s.island n).verified = true → (s.island n).row = 6 → (s.island n).claim = .idle →
    (s.island n).barred = false → (s.island n).seesClaim = false → Ran (.on n g) s fun t =>
      (t.island n).cmd = true ∧ (t.island n).claim = .window ∧ (t.island n).outs = ((s.island n).gates g).cutProbes.outs ∧ islFrame n s t) ∧
  (∀ (s : State) (n : IslIx), (s.island n).live = true → (s.island n).verified = true → (s.island n).row = 6 → (s.island n).desatSent = true → Ran (.offSoft n) s fun t =>
      (t.island n).cmd = false ∧ (t.island n).desatLatched = true ∧ (∀ k < 4, ((s.island n).outs.getD k State.resetOut).phase.isOn = true →
        ((t.island n).outs.getD k State.resetOut).phase.isOn = false ∧ ((t.island n).outs.getD k State.resetOut).soft = true)) ∧
  (∀ (s : State) (n : IslIx), (s.island n).live = true → (∀ o ∈ (s.island n).outs, o.probeDue = false) → Ran (.probe n) s fun t => t = s.updIsl n Island.symbol) ∧
  (∀ (s : State) (n : IslIx) (o : Out) (rest : List Out), (s.island n).live = true → (s.island n).outs = o :: rest → o.probeDue = true → o.phase = .holdOff →
    o.isolated = false → Ran (.probe n) s fun t =>
      (t.island n).outs = { o with probing := true, probeDue := false, miller := false } :: rest ∧ islFrame n s t) ∧
  (∀ (s : State) (n : IslIx), (s.island n).live = true → Ran (.reservedSymbol n) s fun t => t = (s.updIsl n Island.symbol).bump O.EDGE_CORRECTIONS)

/-- On an island that row 6 keeps on or off as it stands, PRE-on by level leads to SLOPE-on at the level and SLOPE-on to HOLD-on at VPOS with its edge time; a SLOPE-off that ends engages the Miller clamp at VNEG; a soft-off leaves the run of timeouts as it is. A transition begun under an earlier profile set ends its PRE with that set. A SLOPE timeout adds one to the run of its direction and reports ISL_SLOPE_TMO. EDGE_LOST keeps the level commanded and sends its fast-fault code. OFF_CONF is exactly: every declared gate is below VG_OFF_TH. (04_gate_drive_islands.md Switching profiles, 04_gate_drive_islands.md Edge channel and per-output timing, 04_gate_drive_islands.md Interlock, CLAIM and dead time) -/
def Obligations.OutputPhasesAdvance : Prop :=
  (∀ (s : State) (n : IslIx) (k : OutIx) (o : Out), (s.island n).live = true → (s.island n).verified = true → (s.island n).row = 6 → (s.island n).cmd = true →
    (s.island n).claim = .window → (s.island n).outs[k.val]? = some o → o.phase = .preOn → s.get O.PRE_END_ON n.val ≠ 0 → o.gate < (s.levels n).preOn →
    (s.levels n).preOn ≤ (s.levels n).platOn → o.prof = none → Ran (.prePhaseEnd n k true) s fun t =>
      (t.island n).outs[k.val]? = some { o with phase := .slopeOn, gate := (s.levels n).preOn } ∧ islFrame n s t) ∧
  (∀ (s : State) (n : IslIx) (k : OutIx), (s.island n).live = true → ((s.island n).outs.getD k.val State.resetOut).phase = .preOn →
    s.get O.PRE_END_ON n.val = 0 → ((s.island n).outs.getD k.val State.resetOut).prof = none → Ran (.prePhaseEnd n k true) s fun t => t = s) ∧
  (∀ (s : State) (n : IslIx) (k : OutIx) (o : Out) (q : Prof), (s.island n).live = true → (s.island n).verified = true → (s.island n).row = 6 → (s.island n).cmd = true →
    (s.island n).claim = .window → (s.island n).outs[k.val]? = some o → o.phase = .preOn → o.prof = some q → q.endOn ≠ 0 → o.gate < q.preOn → q.preOn ≤ q.platOn →
    Ran (.prePhaseEnd n k true) s fun t =>
      (t.island n).outs[k.val]? = some { o with phase := .slopeOn, gate := q.preOn, prof := none } ∧ islFrame n s t) ∧
  (∀ (s : State) (n : IslIx) (k : OutIx) (o : Out) (e : Nat), (s.island n).live = true → (s.island n).verified = true → (s.island n).row = 6 → (s.island n).cmd = true →
    (s.island n).claim = .window → (s.island n).outs[k.val]? = some o → o.phase = .slopeOn → (∀ d, (FaultCode.islSlopeTmo, d) ∉ s.coll.conds) →
    Ran (.slopePhaseEnd n k e) s fun t =>
      (t.island n).outs[k.val]? = some { o with phase := .holdOn, gate := (s.levels n).vpos, edgeOn := some e, tmoOn := 0 } ∧ islFrame n s t) ∧
  (∀ (s : State) (n : IslIx) (k : OutIx) (o : Out) (e : Nat), (s.island n).live = true → (s.island n).verified = true → (s.island n).row = 6 → (s.island n).cmd = false →
    (s.island n).outs[k.val]? = some o → o.phase = .slopeOff → o.soft = false → (∀ d, (FaultCode.islSlopeTmo, d) ∉ s.coll.conds) →
    Ran (.slopePhaseEnd n k e) s fun t =>
      (t.island n).outs[k.val]? = some { o with phase := .holdOff, gate := (s.levels n).vneg, miller := true, soft := false, edgeOff := some e, tmoOff := 0 } ∧ islFrame n s t) ∧
  (∀ (s : State) (n : IslIx) (k : OutIx) (o : Out) (e : Nat), (s.island n).live = true → (s.island n).verified = true → (s.island n).row = 6 → (s.island n).cmd = false →
    (s.island n).outs[k.val]? = some o → o.phase = .slopeOff → o.soft = true → Ran (.slopePhaseEnd n k e) s fun t =>
      (t.island n).outs[k.val]? = some { o with phase := .holdOff, gate := (s.levels n).vneg, miller := true, soft := false, edgeOff := some e } ∧ islFrame n s t) ∧
  (∀ (s : State) (n : IslIx) (k : OutIx) (o : Out), (s.island n).live = true → (s.island n).verified = true → (s.island n).row = 6 → (s.island n).cmd = true →
    (s.island n).claim = .window → (s.island n).outs[k.val]? = some o → o.phase = .slopeOn → o.tmoOn < 3 → (FaultCode.islSlopeTmo, outDetail n k.val) ∉ s.coll.conds →
    Ran (.slopeTimeout n k) s fun t =>
      (t.island n).outs[k.val]? = some { o with phase := .holdOn, gate := (s.levels n).vpos, tmoOn := o.tmoOn + 1 } ∧
      Reported s t .islSlopeTmo (outDetail n k.val) ∧ 0xA#4 ∈ (t.island n).upQ ∧ ∀ m : IslIx, m ≠ n → t.island m = s.island m) ∧
  (∀ (s : State) (n : IslIx), (s.island n).live = true → Ran (.edgeLost n) s fun t =>
    (t.island n).edgeOk = false ∧ (t.island n).cmd = (s.island n).cmd ∧ (t.island n).outs = (s.island n).outs ∧ 0x9#4 ∈ (t.island n).ffPend ∧
    t.out = [.fastFault n 0x9#4] ∧ t = { s with isl := t.isl, out := t.out } ∧ ∀ m : IslIx, m ≠ n → t.island m = s.island m) ∧
  (∀ (s : State) (n : IslIx) (g : List Int), (s.island n).live = true → Ran (.offConfChange n g) s fun t =>
    (t.island n).offConf = (List.range 4).all (fun k => !s.declared n k || decide ((((s.island n).gates g).outs.getD k State.resetOut).gate < s.get O.VG_OFF_TH)) ∧
    (t.island n).outs = ((s.island n).gates g).outs ∧ islFrame n s t)

/-- CLAIM_WINDOW_CLOSE with every partner showing OFF_CONF grants the claim, and without one of them leaves it waiting with no output started. A partner CLAIM seen in the window denies the claim and sends SHOOT_CONFLICT; a partner OFF_CONF is taken in. A wait that exceeds its limit sends ILK_TMO, a partner refresh that is lost is marked and after 1 us sends ILK_LOST, and a gate that stays high withholds OFF_CONF and sends GATE_STUCK. No other island changes. (04_gate_drive_islands.md Interlock, CLAIM and dead time, 04_gate_drive_islands.md Table 4.7) -/
def Obligations.InterlockClaims : Prop :=
  (∀ (s : State) (n : IslIx), (s.island n).live = true → (s.island n).verified = true → (s.island n).row = 6 → (s.island n).cmd = true → (s.island n).claim = .window →
    (s.island n).partnersOff (s.cfg == 0) = true → (∀ d, (FaultCode.islIlkTmo, d) ∉ s.coll.conds) → Ran (.claimWindowClose n) s fun t =>
      (t.island n).claim = .granted ∧ islFrame n s t ∧
      ∀ k < 4, s.declared n k = true → ∀ o, (s.island n).outs[k]? = some o → o.isolated = false → o.phase = .holdOff → (t.island n).outs[k]? = some (o.turnOn (s.levels n)) ∧ (o.turnOn (s.levels n)).phase.isOn = true) ∧
  (∀ (s : State) (n : IslIx), (s.island n).live = true → (s.island n).verified = true → (s.island n).row = 6 → (s.island n).cmd = true → (s.island n).claim = .window →
    (s.island n).partnersOff (s.cfg == 0) = false → Ran (.claimWindowClose n) s fun t =>
      (t.island n).claim = .waiting ∧ (t.island n).outs = (s.island n).outs ∧ islFrame n s t) ∧
  (∀ (s : State) (n p : IslIx), (s.island n).live = true → (s.island n).verified = true → (s.island n).row = 6 → (s.island n).cmd = true → (s.island n).claim = .window →
    (∃ q ∈ (s.island n).partners, q.isl = p) → Ran (.partnerClaim n p true) s fun t =>
      (t.island n).claim = .denied ∧ (t.island n).barred = true ∧ (t.island n).outs = (s.island n).outs ∧ 0x4#4 ∈ (t.island n).ffPend ∧ t.out = [.fastFault n 0x4#4] ∧
      ∀ m : IslIx, m ≠ n → t.island m = s.island m) ∧
  (∀ (s : State) (n p : IslIx) (v : Bool), (s.island n).live = true → (s.island n).claim ≠ .waiting → (s.island n).claim ≠ .late → Ran (.partnerOffConf n p v) s fun t =>
    (t.island n).partners = (s.island n).partners.map (fun q => if q.isl = p then { q with offConf := v, fresh := true } else q) ∧ islFrame n s t) ∧
  (∀ (s : State) (n : IslIx), (s.island n).live = true → (s.island n).claim = .waiting → Ran (.ilkTmo n) s fun t =>
    (t.island n).claim = .late ∧ 0x7#4 ∈ (t.island n).ffPend ∧ (t.island n).outs = (s.island n).outs ∧ t.out = [.fastFault n 0x7#4] ∧ t = { s with isl := t.isl, out := t.out }) ∧
  (∀ (s : State) (n p : IslIx), (s.island n).live = true → Ran (.interlockRefreshLoss n p) s fun t =>
    (t.island n).partners = (s.island n).partners.map (fun q => if q.isl = p then { q with fresh := false, claim := false } else q) ∧ (t.island n).outs = (s.island n).outs ∧ islFrame n s t) ∧
  (∀ (s : State) (n : IslIx), (s.island n).live = true → (∃ q ∈ (s.island n).partners, q.fresh = false) → Ran (.ilkLost n) s fun t =>
    0x8#4 ∈ (t.island n).ffPend ∧ t.out = [.fastFault n 0x8#4] ∧ (t.island n).outs = (s.island n).outs ∧ t = { s with isl := t.isl, out := t.out }) ∧
  (∀ (s : State) (n : IslIx) (k : OutIx), (s.island n).live = true → s.declared n k.val = true → ((s.island n).outs.getD k.val State.resetOut).phase = .holdOff →
    Ran (.gateStuck n k) s fun t =>
      (t.island n).offConf = false ∧ 0x2#4 ∈ (t.island n).ffPend ∧ t.out = [.fastFault n 0x2#4] ∧ t = { s with isl := t.isl, out := t.out } ∧
      ∀ m : IslIx, m ≠ n → t.island m = s.island m)

/-- A UVLO fall leaves no output of a verified island on and sends UVLO; its release lets row 6 decide again. A rail that deviates is measured and reported. A VDDI failure resets the island logic with every output off and the supply, epoch and rejected-preload count kept. An even island with BST declared whose isolated supply fails changes over to its bootstrap supply as a degraded mode and returns from it; BST_LOW is reported while it lasts. (04_gate_drive_islands.md Gate rails and undervoltage, 04_gate_drive_islands.md Bootstrap supply) -/
def Obligations.GateRailsAndBootstrap : Prop :=
  (∀ (s : State) (n : IslIx), (s.island n).live = true → (s.island n).verified = true → Ran (.islUvloFall n) s fun t =>
    (t.island n).uvlo = true ∧ (∀ o ∈ (t.island n).outs, o.phase.isOn = false) ∧ 0x3#4 ∈ (t.island n).ffPend ∧ t.out = [.fastFault n 0x3#4] ∧
    t = { s with isl := t.isl, out := t.out } ∧ ∀ m : IslIx, m ≠ n → t.island m = s.island m) ∧
  (∀ (s : State) (n : IslIx), (s.island n).live = true → Ran (.islUvloRelease n) s fun t => (t.island n).uvlo = false ∧ islFrame n s t) ∧
  (∀ (s : State) (n : IslIx) (vp vn : Int), (s.island n).live = true → (FaultCode.islRailDev, n.val) ∉ s.coll.conds →
    railDevNow s n vp vn = true → Ran (.islRailDev n vp vn) s fun t =>
      t.get O.VPOS_MEAS n.val = vp ∧ t.get O.VNEG_MEAS n.val = vn ∧ Reported s t .islRailDev n.val ∧ reportFrame s t) ∧
  (∀ (s : State) (n : IslIx), (s.island n).live = true → Ran (.vddiFailure n) s fun t =>
    (t.island n).linkOk = false ∧ (t.island n).trained = false ∧ (t.island n).verified = false ∧ (t.island n).permit = false ∧ (t.island n).token = false ∧
    (t.island n).supplyOn = (s.island n).supplyOn ∧ (t.island n).epoch = (s.island n).epoch ∧ (t.island n).preRejected = (s.island n).preRejected ∧
    (∀ o ∈ (t.island n).outs, o.phase.isOn = false) ∧ islFrame n s t) ∧
  (∀ (s : State) (n : IslIx), n.low = false → s.funcDecl n 3 = true → (s.island n).supplyOn = true → (s.island n).powered = true → (s.island n).bootstrap = false →
    s.sys.dev.runs = true → (FaultCode.islOnBootstrap, n.val) ∉ s.coll.conds → Ran (.bootstrapChangeover n) s fun t =>
      (t.island n).bootstrap = true ∧ (t.island n).powered = false ∧ (FaultCode.islOnBootstrap, n.val) ∈ t.coll.conds ∧ bit (t.get O.DEG_MODES) 6 = true ∧ t.sys = s.sys) ∧
  (∀ (s : State) (n : IslIx), (s.island n).bootstrap = true → s.sys.dev.runs = true → soleCond s .islOnBootstrap n.val → Ran (.bootstrapReturn n) s fun t =>
    (t.island n).bootstrap = false ∧ (t.island n).powered = true ∧ (t.island n).bstLow = false ∧ (FaultCode.islOnBootstrap, n.val) ∉ t.coll.conds ∧
    bit (t.get O.DEG_MODES) 6 = false ∧ t.sys = s.sys) ∧
  (∀ (s : State) (n : IslIx), (s.island n).bootstrap = true → s.sys.dev.runs = true → (FaultCode.islBstLow, n.val) ∉ s.coll.conds → Ran (.bstLow n true) s fun t =>
    (t.island n).bstLow = true ∧ Reported s t .islBstLow n.val ∧ ∀ m : IslIx, m ≠ n → t.island m = s.island m) ∧
  (∀ (s : State) (n : IslIx), (s.island n).bootstrap = true → s.sys.dev.runs = true → soleCond s .islBstLow n.val → Ran (.bstLow n false) s fun t =>
    (t.island n).bstLow = false ∧ Left t .islBstLow n.val ∧ t.vals = s.vals)

/-- A DESAT confirmed on an island that declares it sends code 1 and leaves the outputs. A KTI window stores the integral less the gate-current drop and collects it when the transition qualifies. BALANCER_UPDATE does nothing unless BAL_ENABLE is 1; with eight turn-offs of every die it uses up the collected values and keeps every applied delay within 40 ns. PROBE_INTERVAL makes a probe due; PROBE_DONE stores RG_INT of an undisturbed probe, with TJ_EST unavailable while RG_ALPHA is 0. CAL_CMD 1 keeps the reference values, durable; CAL_CMD 2 is refused below 30 K of difference and otherwise keeps RG_ALPHA. (04_gate_drive_islands.md DESAT and the fast-fault path, 04_gate_drive_islands.md Current sharing and junction temperature, 04_gate_drive_islands.md Die isolation) -/
def Obligations.DesatSharingAndProbes : Prop :=
  (∀ (s : State) (n : IslIx), (s.island n).live = true → s.funcDecl n 4 = true → (∃ o ∈ (s.island n).outs, o.phase.isOn = true) → Ran (.desatConfirm n) s fun t =>
    (t.island n).desatSent = true ∧ 0x1#4 ∈ (t.island n).ffPend ∧ (t.island n).outs = (s.island n).outs ∧ t.out = [.fastFault n 0x1#4] ∧
    t = { s with isl := t.isl, out := t.out } ∧ ∀ m : IslIx, m ≠ n → t.island m = s.island m) ∧
  (∀ (s : State) (n : IslIx) (k : OutIx) (on : Bool) (raw drop : Int), (s.island n).live = true → s.qualifies n = false →
    Ran (.ktiWindowEnd n k on raw drop) s fun t =>
      t.get (if on then O.KTI_ON else O.KTI_OFF) (4 * n.val + k.val) = Ty.fit .i16 (raw - drop) ∧
      onlyObjects [(if on then O.KTI_ON else O.KTI_OFF).key (4 * n.val + k.val)] s t) ∧
  (∀ (s : State) (n : IslIx) (k : OutIx) (on : Bool) (raw drop : Int) (o : Out), (s.island n).live = true → s.qualifies n = true →
    s.balRuns = true → (on = true ∨ (s.balDies n).length < 2) → (s.island n).outs[k.val]? = some o → Ran (.ktiWindowEnd n k on raw drop) s fun t =>
      t.get (if on then O.KTI_ON else O.KTI_OFF) (4 * n.val + k.val) = Ty.fit .i16 (raw - drop) ∧
      (t.island n).outs[k.val]? = some (if on then { o with ktiOn := o.ktiOn ++ [(s.islPeriod n, Ty.fit .i16 (raw - drop))] } else { o with ktiOff := o.ktiOff ++ [(s.islPeriod n, Ty.fit .i16 (raw - drop))] }) ∧
      t = { s with isl := t.isl, vals := t.vals } ∧ onlyVals [(if on then O.KTI_ON else O.KTI_OFF).key (4 * n.val + k.val)] s t ∧
      ∀ m : IslIx, m ≠ n → t.island m = s.island m) ∧
  (∀ (s : State) (p : Fin 12), s.get O.BAL_ENABLE ≠ 1 → Ran (.balancerUpdate p) s fun t => t = s) ∧
  (∀ (s : State) (p : Fin 12), s.get O.BAL_ENABLE = 1 → bit (s.get O.DEG_MODES) 0 = false → s.sys.m0.inReset = false → s.sys.m1.inReset = false →
    s.getB O.ISOLATE_ENABLE = true → 2 ≤ (s.balDies p).length → s.isl.length = 12 →
    (∀ d ∈ s.balDies p, ∃ o, (s.island d.n).outs[d.k]? = some o ∧ 8 ≤ o.ktiOff.length) → Ran (.balancerUpdate p) s fun t =>
      (∀ d ∈ s.balDies p, ∃ o, (t.island d.n).outs[d.k]? = some o ∧ o.ktiOn = [] ∧ o.ktiOff = []) ∧
      (∀ d ∈ s.balDies p, ∃ o, (t.island d.n).outs[d.k]? = some o ∧ -400 ≤ t.get O.TD_ON (4 * d.n.val + d.k) + o.tdBal ∧ t.get O.TD_ON (4 * d.n.val + d.k) + o.tdBal ≤ 400) ∧
      t.sys = s.sys ∧ t.hlm = s.hlm ∧ t.pins = s.pins ∧ t.mem = s.mem ∧ t.nv = s.nv ∧ t.out = s.out) ∧
  (∀ (s : State) (n : IslIx) (k : OutIx), s.getB O.PROBE_ENABLE = false → Ran (.probeInterval n k) s fun t => t = s) ∧
  (∀ (s : State) (n : IslIx) (k : OutIx) (o : Out), s.getB O.PROBE_ENABLE = true → s.declared n k.val = true → (s.island n).verified = true →
    (s.island n).outs[k.val]? = some o → o.isolated = false → Ran (.probeInterval n k) s fun t =>
      (t.island n).outs[k.val]? = some { o with probeDue := true } ∧ 0x1#4 ∈ (t.island n).downQ ∧ islFrame n s t) ∧
  (∀ (s : State) (n : IslIx) (k : OutIx) (a b c : Int) (o : Out), (s.island n).outs[k.val]? = some o → n.val < s.isl.length → o.probing = true →
    s.get O.RG_ALPHA (4 * n.val + k.val) = 0 → 200 ≤ rgInt a b c (s.get O.R_GATE_EXT n.val) (s.get O.R_RETURN n.val) →
    rgInt a b c (s.get O.R_GATE_EXT n.val) (s.get O.R_RETURN n.val) ≤ 50000 → Ran (.probeDone n k a b c) s fun t =>
      (t.island n).outs[k.val]? = some { o with probing := false, miller := true, probeBad := 0,
                                                probes := (rgInt a b c (s.get O.R_GATE_EXT n.val) (s.get O.R_RETURN n.val) :: o.probes).take 8 } ∧
      t.get O.RG_INT (4 * n.val + k.val) = rgInt a b c (s.get O.R_GATE_EXT n.val) (s.get O.R_RETURN n.val) ∧ t.get O.TJ_EST (4 * n.val + k.val) = -32768 ∧
      t = { s with isl := t.isl, vals := t.vals } ∧ onlyVals [O.RG_INT.key (4 * n.val + k.val), O.TJ_EST.key (4 * n.val + k.val)] s t) ∧
  (∀ (s : State) (r : Req) (n : IslIx) (rg : List Nat) (ntc : Int), writeRuns s r O.CAL_CMD n.val 1 → (s.island n).verified = true →
    Ran (.calCmdFirst r n rg ntc) s fun t =>
      t.getStaged O.T_REF n.val = ntc ∧ (∀ k < 4, s.declared n k = true → t.getStaged O.RG_REF (4 * n.val + k) = (rg.getD k 0 : Nat)) ∧
      (s.spent (O.T_REF.key n.val) = false → t.durable O.T_REF n.val = ntc) ∧ Answered t (reqId s r 0x02 (O.CAL_CMD.key n.val)) (.ok []) ∧
      t.isl = s.isl ∧ t.sys = s.sys ∧ t.mem = s.mem) ∧
  (∀ (s : State) (r : Req) (n : IslIx) (rg : List Nat) (ntc : Int), writeRuns s r O.CAL_CMD n.val 2 → (s.island n).verified = true →
    absI (ntc - s.getStaged O.T_REF n.val) < 300 → Ran (.calCmdSecond r n rg ntc) s fun t =>
      Answered t (reqId s r 0x02 (O.CAL_CMD.key n.val)) (.abort abortValue) ∧ requestFrame s t ∧ onlyVals [O.REQ_ACCEPTED.key 0, O.REQ_ABORTED.key 0] s t) ∧
  (∀ (s : State) (r : Req) (n : IslIx) (rg : List Nat) (ntc : Int), writeRuns s r O.CAL_CMD n.val 2 → (s.island n).verified = true →
    300 ≤ absI (ntc - s.getStaged O.T_REF n.val) → Ran (.calCmdSecond r n rg ntc) s fun t =>
      (∀ k < 4, s.declared n k = true → t.getStaged O.RG_ALPHA (4 * n.val + k) =
        Ty.fit .i16 (quantQ ((((rg.getD k 0 : Nat) : Rat) - s.getStaged O.RG_REF (4 * n.val + k)) * 10000 / (ntc - s.getStaged O.T_REF n.val : Int)))) ∧
      Answered t (reqId s r 0x02 (O.CAL_CMD.key n.val)) (.ok []) ∧ t.isl = s.isl ∧ t.sys = s.sys ∧ t.mem = s.mem)

/-- An accepted CMD gives the island its sampling offsets, the apply-at-MARK order, the latch of ISL_GATE_STUCK and a due probe; CFG brings the staged set and makes CFG_ACK due; an IDLE with a new epoch and the token makes the token of a permitted, verified island current. Every accepted frame sets the last SEQ. A frame with a bad CRC is discarded and counted, and one whose epoch R28 does not allow is discarded and counted as such, with the outputs as before. A slot sends the pending frame of highest priority with the next SEQ; a frame not acknowledged is sent once more, then abandoned with SKIP raised. (04_gate_drive_islands.md The Rillys link, 04_gate_drive_islands.md Table 4.14, 01_module_architecture.md Who may switch the power stage) -/
def Obligations.RillysFramesAtTheIsland : Prop :=
  (∀ (s : State) (n : IslIx) (h : RillysHdr) (p : CmdPayload), downOk s n h → Ran (.cmdFrame n h p) s fun t =>
    (t.island n).down.rxSeq = h.seq ∧ (t.island n).linkOk = true ∧ (t.island n).offsets = p.offsets ∧
    (t.island n).applyNext = ((s.island n).applyNext || p.applyAtMark) ∧ (t.island n).stuckLatched = ((s.island n).stuckLatched || p.latchStuck) ∧
    (∀ k, p.probe = some k → k.val < (s.island n).outs.length → ((t.island n).outs.getD k.val State.resetOut).probeDue = true) ∧
    t.vals = s.vals ∧ t.coll = s.coll ∧ t.hlm = s.hlm ∧ t.out = s.out ∧ t.dict = s.dict ∧ (s.cfg ≠ 0 → islFrame n s t)) ∧
  (∀ (s : State) (n : IslIx) (h : RillysHdr), downOk s n h → Ran (.cfgFrame n h) s fun t =>
    (t.island n).down.rxSeq = h.seq ∧ (t.island n).linkOk = true ∧ (t.island n).staged = s.cfgFor n ∧ 0xB#4 ∈ (t.island n).upQ ∧
    t.vals = s.vals ∧ t.coll = s.coll ∧ t.hlm = s.hlm ∧ t.out = s.out ∧ t.dict = s.dict ∧ (s.cfg ≠ 0 → islFrame n s t)) ∧
  (∀ (s : State) (n : IslIx) (h : RillysHdr), downOk s n h → Ran (.idleFrame n h true) s fun t =>
    (t.island n).down.rxSeq = h.seq ∧ (t.island n).linkOk = true ∧
    (h.epoch ≠ (s.island n).epoch → (t.island n).epoch = h.epoch ∧ (t.island n).tokenAt = s.now) ∧
    (h.epoch ≠ (s.island n).epoch → h.token = true → (s.island n).permit = true → (s.island n).verified = true → (s.island n).uvlo = false →
      (s.island n).latched = false → (t.island n).token = true) ∧
    t.vals = s.vals ∧ t.coll = s.coll ∧ t.hlm = s.hlm ∧ t.out = s.out ∧ t.dict = s.dict ∧ (s.cfg ≠ 0 → islFrame n s t)) ∧
  (∀ (s : State) (n : IslIx) (h : RillysHdr) (p : CmdPayload), (s.island n).live = true → (s.island n).trained = true → h.crcOk = false →
    Ran (.cmdFrame n h p) s fun t =>
      t.island n = { s.island n with discards := (s.island n).discards + 1 } ∧
      t.get O.LINK_CRC_ERR = countNext (8 * O.LINK_CRC_ERR.ty.bytes) (s.getN O.LINK_CRC_ERR) ∧ t = { s with isl := t.isl, vals := t.vals } ∧
      (∀ m : IslIx, m ≠ n → t.island m = s.island m) ∧ onlyVals [O.LINK_CRC_ERR.key 0] s t) ∧
  (∀ (s : State) (n : IslIx) (h : RillysHdr), (s.island n).live = true → (s.island n).trained = true → hdrRepeat n (s.island n).down h = false →
    hdrOk n (s.island n).down h = true → (s.island n).epochOk h = false → Ran (.idleFrame n h true) s fun t =>
      t.island n = { s.island n with discards := (s.island n).discards + 1 } ∧
      t.get O.LINK_EPOCH_DISCARD = countNext (8 * O.LINK_EPOCH_DISCARD.ty.bytes) (s.getN O.LINK_EPOCH_DISCARD) ∧ t = { s with isl := t.isl, vals := t.vals } ∧
      (∀ m : IslIx, m ≠ n → t.island m = s.island m) ∧ onlyVals [O.LINK_EPOCH_DISCARD.key 0] s t) ∧
  (∀ (s : State) (n : IslIx), (s.island n).live = true → (s.island n).trained = true → s.sys.dev.runs = true → Ran (.rillysSlot n false) s fun t =>
    t.out = [.rillys n ((s.island n).downQ.headD 0#4) ((s.island n).down.txSeq + 1) s.sys.epoch s.sys.tokenOn false] ∧
    (t.island n).downQ = (s.island n).downQ.drop 1 ∧ (t.island n).down.txSeq = (s.island n).down.txSeq + 1 ∧ t = { s with isl := t.isl, out := t.out } ∧
    ∀ m : IslIx, m ≠ n → t.island m = s.island m) ∧
  (∀ (s : State) (n : IslIx), (s.island n).live = true → (s.island n).trained = true → Ran (.rillysSlot n true) s fun t =>
    t.out = [.rillys n ((s.island n).upQ.headD 0#4) ((s.island n).up.txSeq + 1) (s.island n).epoch false false] ∧
    (t.island n).upQ = (s.island n).upQ.drop 1 ∧ (t.island n).up.txSeq = (s.island n).up.txSeq + 1 ∧ (t.island n).outs = (s.island n).outs ∧
    t = { s with isl := t.isl, out := t.out } ∧ ∀ m : IslIx, m ≠ n → t.island m = s.island m) ∧
  (∀ (s : State) (n : IslIx) (q : Half × BitVec 4), (s.island n).down.unacked = some q → (s.island n).down.retried = false →
    Ran (.retransmitTimeout n false) s fun t =>
      t.out = [.rillys n q.2 q.1 s.sys.epoch s.sys.tokenOn true] ∧ (t.island n).down.retried = true ∧ (t.island n).down.unacked = some q ∧
      t.get O.LINK_RETRIES = countNext (8 * O.LINK_RETRIES.ty.bytes) (s.getN O.LINK_RETRIES) ∧ t = { s with isl := t.isl, vals := t.vals, out := t.out } ∧
      onlyVals [O.LINK_RETRIES.key 0] s t) ∧
  (∀ (s : State) (n : IslIx) (q : Half × BitVec 4), (s.island n).down.unacked = some q → (s.island n).down.retried = true →
    Ran (.retransmitTimeout n false) s fun t =>
      (t.island n).down.unacked = none ∧ (t.island n).down.skip = (s.island n).down.skip + 1 ∧
      t.get O.LINK_ABANDONED = countNext (8 * O.LINK_ABANDONED.ty.bytes) (s.getN O.LINK_ABANDONED) ∧ t = { s with isl := t.isl, vals := t.vals } ∧
      onlyVals [O.LINK_ABANDONED.key 0] s t)

/-- A CFG_ACK with the right CRC confirms the island, and the last confirmation orders the application; a wrong one sends the set again, and a second wrong one refuses the COMMIT and holds ISL_CFG_MISMATCH. An EVENT that records DESAT holds ISL_DESAT. TELEM and RESULT write their measurements. Each accepted frame sets the last SEQ of the direction. RILLYS_LINK_LOST ends the link with its token and a first one leads to SAFE_HOLD. More than 16 discarded frames in 1 ms report ISL_LINK_ERR_RATE; a window with fewer lets it leave. (04_gate_drive_islands.md The Rillys link, 04_gate_drive_islands.md Table 4.14, 04_gate_drive_islands.md Table 4.18, 05_sensing.md Table 5.7) -/
def Obligations.RillysFramesAtTheDie : Prop :=
  (∀ (s : State) (n : IslIx) (h : RillysHdr) (crc : Word) (c : PendCommit), upOk s n h → s.isl.length = 12 → s.dict.commits = [c] → c.wait = [n] →
    crc = crc32 (Config.cfgImage c.vals) → (FaultCode.islCfgMismatch, n.val) ∉ s.coll.conds → Ran (.cfgAckFrame n h crc) s fun t =>
      t.dict.commits = [{ c with wait := [] }] ∧ (∀ m ∈ c.isls, 0x1#4 ∈ (t.island m).downQ) ∧ (t.island n).up.rxSeq = h.seq ∧
      t = { s with isl := t.isl, dict := t.dict }) ∧
  (∀ (s : State) (n : IslIx) (h : RillysHdr) (crc : Word) (c : PendCommit), upOk s n h → s.dict.commits = [c] → c.wait = [n] → c.retried = [] →
    crc ≠ crc32 (Config.cfgImage c.vals) → Ran (.cfgAckFrame n h crc) s fun t =>
      t.dict.commits = [{ c with retried := [n] }] ∧ 0x2#4 ∈ (t.island n).downQ ∧ (t.island n).up.rxSeq = h.seq ∧ t = { s with isl := t.isl, dict := t.dict }) ∧
  (∀ (s : State) (n : IslIx) (h : RillysHdr) (crc : Word) (c : PendCommit), upOk s n h → s.dict.commits = [c] → c.wait = [n] → c.retried = [n] →
    crc ≠ crc32 (Config.cfgImage c.vals) → firstFault s .islCfgMismatch → Ran (.cfgAckFrame n h crc) s fun t =>
      t.dict.commits = [] ∧ Answered t c.req (.abort abortHardware) ∧ FailedSafe t .islCfgMismatch 3 n.val .safeHold) ∧
  (∀ (s : State) (n : IslIx) (h : RillysHdr) (l : List Byte), upOk s n h → firstFault s .islDesat → Ran (.eventFrame n h 0x1#4 l) s fun t => HeldC4 s t .islDesat n.val) ∧
  (∀ (s : State) (n : IslIx) (h : RillysHdr) (code : BitVec 4) (l : List Byte), upOk s n h → code ≠ 0x1#4 → Ran (.eventFrame n h code l) s fun t =>
    0x1#4 ∈ (t.island n).downQ ∧ (t.island n).up.rxSeq = h.seq ∧ (t.island n).outs = (s.island n).outs ∧ islFrame n s t) ∧
  (∀ (s : State) (n : IslIx) (h : RillysHdr) (a b : Nat), upOk s n h → Ran (.telemFrame n h a b []) s fun t =>
    t.get O.EDGE_ON_MEAS n.val = a ∧ t.get O.EDGE_OFF_MEAS n.val = b ∧ (t.island n).telemMissed = 0 ∧ (t.island n).up.rxSeq = h.seq ∧
    t = { s with isl := t.isl, vals := t.vals } ∧ onlyVals [O.EDGE_ON_MEAS.key n.val, O.EDGE_OFF_MEAS.key n.val] s t ∧ ∀ m : IslIx, m ≠ n → t.island m = s.island m) ∧
  (∀ (s : State) (n : IslIx) (h : RillysHdr) (a b : Nat) (v0 v1 v2 v3 : Int), upOk s n h → s.getB O.ISOLATE_ENABLE = true →
    Ran (.telemFrame n h a b [v0, v1, v2, v3]) s fun t =>
      t.get O.EDGE_ON_MEAS n.val = a ∧ t.get O.EDGE_OFF_MEAS n.val = b ∧ t.get O.VG_ON_MEAS (4 * n.val) = v0 ∧ t.get O.VG_ON_MEAS (4 * n.val + 1) = v1 ∧
      t.get O.VG_ON_MEAS (4 * n.val + 2) = v2 ∧ t.get O.VG_ON_MEAS (4 * n.val + 3) = v3 ∧ t = { s with isl := t.isl, vals := t.vals }) ∧
  (∀ (s : State) (n : IslIx) (h : RillysHdr) (w : DWord), upOk s n h → (w.extractLsb' 26 2).toNat = 0 → (w.extractLsb' 28 8).toNat = s.periodTag →
    w.getLsbD 22 = false → w.getLsbD 23 = false → w.getLsbD 24 = false → w.getLsbD 25 = false → n.val / 2 < s.sense.smp.length →
    (∀ d, (FaultCode.snsOvr, d) ∉ s.coll.conds) → Ran (.resultFrame n h w) s fun t =>
      (t.island n).up.rxSeq = h.seq ∧ (t.sense.smp.getD (n.val / 2) []).length = (s.sense.smp.getD (n.val / 2) []).length + 1 ∧
      onlyVals [O.SHUNT_MEAS.key (n.val / 2), O.VDC_MEAS.key (n.val / 2)] s t ∧ t = { s with isl := t.isl, vals := t.vals, sense := { s.sense with smp := t.sense.smp } }) ∧
  (∀ (s : State) (n : IslIx), (s.island n).trained = true → s.sys.dev.runs = false → Ran (.rillysLinkLost n) s fun t =>
    (t.island n).linkOk = false ∧ (t.island n).trained = false ∧ (t.island n).token = false ∧ t.vals = s.vals ∧ t.coll = s.coll ∧ t.out = s.out ∧ (s.cfg ≠ 0 → islFrame n s t)) ∧
  (∀ (s : State) (n : IslIx), (s.island n).trained = true → firstFault s .islLinkLost → s.mem.test = none → Ran (.rillysLinkLost n) s fun t =>
    (t.island n).linkOk = false ∧ (t.island n).trained = false ∧ (t.island n).token = false ∧ HeldC3 s t .islLinkLost n.val) ∧
  (∀ (s : State) (n : IslIx), n.val < s.isl.length → s.sys.dev.runs = true → 16 < (s.island n).discards → (FaultCode.islLinkErrRate, n.val) ∉ s.coll.conds →
    Ran (.linkErrorRateWindow n) s fun t => (t.island n).discards = 0 ∧ Reported s t .islLinkErrRate n.val ∧ (∀ m : IslIx, m ≠ n → t.island m = s.island m) ∧ t.sys = s.sys) ∧
  (∀ (s : State) (n : IslIx), n.val < s.isl.length → s.sys.dev.runs = true → (s.island n).discards ≤ 16 → soleCond s .islLinkErrRate n.val →
    Ran (.linkErrorRateWindow n) s fun t => (t.island n).discards = 0 ∧ Left t .islLinkErrRate n.val ∧ t.sys = s.sys ∧ t.vals = s.vals)

/-- A lost heartbeat and a DRV_EN low of 200 ns or more make the permit and the token of the island or of every island invalid; a low below 50 ns does nothing. A preload word with its complement is accepted, another is rejected and counted; a preload not refreshed is kept and reported. HELMET_PRELOAD_EVAL writes one choice into every live island and lets it see a running heartbeat again: BLOCK in CHARGER, and ASC where a machine has no usable speed. DRV_EN high after 10 us or more clears the DESAT latch of every live island whose outputs are off, and counts; after a shorter low it clears none. (01_module_architecture.md The Gauntlet, 04_gate_drive_islands.md Gauntlet channel and DRV_EN, 04_gate_drive_islands.md Table 4.15, 03_supply_clocks_start.md Table 3.2) -/
def Obligations.PreloadsAndPermit : Prop :=
  (∀ (s : State) (n : IslIx), (s.island n).live = true → Ran (.heartbeatLost n) s fun t =>
    (t.island n).heartbeat = false ∧ (t.island n).permit = false ∧ (t.island n).token = false ∧ t.vals = s.vals ∧ t.coll = s.coll ∧ t.hlm = s.hlm ∧ t.out = s.out ∧
    (s.cfg ≠ 0 → islFrame n s t)) ∧
  (∀ (s : State) (n : IslIx) (w : Byte), (s.island n).live = true → w.toNat / 64 + w.toNat / 16 % 4 = 3 → (FaultCode.islPreloadStale, n.val) ∉ s.coll.conds →
    Ran (.preloadWord n w) s fun t =>
      (t.island n).preload = SafeCode.ofNum (w.toNat / 64) ∧ (t.island n).preCount = BitVec.ofNat 4 w.toNat ∧ (t.island n).preStale = false ∧ islFrame n s t) ∧
  (∀ (s : State) (n : IslIx) (w : Byte), (s.island n).live = true → w.toNat / 64 + w.toNat / 16 % 4 ≠ 3 → Ran (.preloadWord n w) s fun t =>
      t.island n = { s.island n with preRejected := countNext 32 (s.island n).preRejected } ∧ islFrame n s t) ∧
  (∀ (s : State) (n : IslIx), (s.island n).live = true → s.sys.dev.runs = true → (FaultCode.islPreloadStale, n.val) ∉ s.coll.conds → Ran (.preloadStale n) s fun t =>
      t.island n = { s.island n with preStale := true } ∧ Reported s t .islPreloadStale n.val ∧ (∀ m : IslIx, m ≠ n → t.island m = s.island m) ∧ t.sys = s.sys) ∧
  (∀ s : State, s.alive = true → s.hlm.stopped = false → Ran .helmetPreloadEval s fun t =>
    t.hlm.stepCount = s.hlm.stepCount + 1 ∧ t.hlm.preCount = s.hlm.preCount + 1 ∧
    (∀ n : IslIx, (s.island n).live = true → (t.island n).preload = t.hlm.choice ∧ (t.island n).preCount = t.hlm.preCount ∧ (t.island n).preStale = false ∧
      (s.hlm.heartbeat = true → (t.island n).heartbeat = true)) ∧
    (s.charger = true → t.hlm.choice = .block) ∧
    ((∃ m ∈ s.machines, s.hlmSpeed m = none ∧ s.isSynRel m = false) → s.hlm.ascGivenUp = false → t.hlm.choice = s.ascCode) ∧
    t.pins = s.pins ∧ t.mem = s.mem ∧ t.nv = s.nv ∧ t.out = s.out ∧ t.sys.dev = s.sys.dev ∧ t.clamps = s.clamps) ∧
  (∀ (s : State) (ns : Nat), ns < 50 → Ran (.drvEnFall ns) s fun t => t = s) ∧
  (∀ (s : State) (ns : Nat), 200 ≤ ns → s.pins.drvEn = true → (s.charger = false ∨ s.sys.dev ≠ .run) → Ran (.drvEnFall ns) s fun t =>
    t.pins = { s.pins with drvEn := false } ∧ (∀ n : IslIx, (t.island n).permit = false ∧ (t.island n).token = false) ∧ t.sys.dev = s.sys.dev ∧
    t.hlm.ascCheck = (s.hlm.ascCheck || (s.hlm.permit && (s.hlm.choice == .ascLow || s.hlm.choice == .ascHigh))) ∧
    t = { s with pins := t.pins, isl := t.isl, sys := t.sys, hlm := { s.hlm with ascCheck := t.hlm.ascCheck } }) ∧
  (∀ (s : State) (ns : Nat), 200 ≤ ns → s.pins.drvEn = true → s.charger = true → s.sys.dev = .run → Ran (.drvEnFall ns) s fun t =>
    t.pins.drvEn = false ∧ (∀ n : IslIx, (t.island n).permit = false) ∧ t.sys.dev = .ready ∧ t.get O.CHG_PHASE = 0) ∧
  (∀ (s : State) (ns : Nat), 50 ≤ ns → ns < 200 → s.pins.drvEn = true → (s.charger = false ∨ s.sys.dev ≠ .run) → Ran (.drvEnFall ns) s fun t =>
    t = s.draw ∨ (t.pins.drvEn = false ∧ ∀ n : IslIx, (t.island n).permit = false)) ∧
  (∀ (s : State) (ns : Nat), s.pins.drvEn = false → 10000 ≤ ns → Ran (.drvEnRise ns) s fun t =>
    t.pins = { s.pins with drvEn := true } ∧ t.get O.DRV_EN_CLEARS = countNext (8 * O.DRV_EN_CLEARS.ty.bytes) (s.getN O.DRV_EN_CLEARS) ∧
    (∀ n : IslIx, (s.island n).live = true → (t.island n).desatLatched = ((s.island n).desatLatched && (s.island n).outs.any fun o => o.phase.isOn)) ∧
    t = { s with pins := t.pins, isl := t.isl, sys := t.sys, vals := t.vals } ∧ onlyVals [O.DRV_EN_CLEARS.key 0] s t ∧ t.sys.dev = s.sys.dev) ∧
  (∀ (s : State) (ns : Nat), s.pins.drvEn = false → ns < 10000 → Ran (.drvEnRise ns) s fun t =>
    t.pins = { s.pins with drvEn := true } ∧ (∀ n : IslIx, (t.island n).desatLatched = (s.island n).desatLatched ∧ (t.island n).stuckLatched = (s.island n).stuckLatched) ∧
    t = { s with pins := t.pins, isl := t.isl, sys := t.sys } ∧ t.sys.dev = s.sys.dev)

/-- HELMET_LOCKSTEP_ERROR stops the Helmet with its fault held in FAULT_LATCHED. HELMET_COUNT_CHECK takes in a count that has moved, and posts HLM_FAULT for one that has not. A first lockstep error of a Main pair holds the pair in reset, hands the supervisor role over, withdraws the permit and sets its RESET_CAUSE bit; a second one loses the pair and enters Main pair takeover. HOT_RESTART_DONE with a pass frees the fault and returns the pair to service; a failed check loses it. (01_module_architecture.md Main, 01_module_architecture.md Table 1.7, 09_protection.md Helmet monitoring, 09_protection.md Table 9.3) -/
def Obligations.HelmetStopsAndMainPairs : Prop :=
  (∀ s : State, s.alive = true → s.hlm.stopped = false → firstFault s .hlmLockstep → Ran .helmetLockstepError s fun t =>
    FailedSafe t .hlmLockstep 5 0 .faultLatched ∧ t.hlm.stopped = true ∧ t.hlm.heartbeat = false ∧ (∀ n : IslIx, (t.island n).permit = false) ∧ faultFrame s t) ∧
  (∀ s : State, (s.alive = false ∨ s.hlm.stopped = true) → Ran .helmetLockstepError s fun t => t = s) ∧
  (∀ s : State, s.sys.dev.runs = true → s.hlm.stepCount ≠ s.hlm.mainSaw → Ran .helmetCountCheck s fun t =>
    t = { s with hlm := { s.hlm with mainSaw := s.hlm.stepCount } }) ∧
  (∀ s : State, s.hlm.stepCount = s.hlm.mainSaw → firstFault s .hlmFault → Ran .helmetCountCheck s fun t =>
    FailedSafe t .hlmFault 5 0 .faultLatched ∧ faultFrame s t) ∧
  (∀ (s : State) (p : MainPair), s.alive = true → s.sys.lastPairLost = false → s.pair p = ⟨false, false, 0, false, none⟩ → (s.pair (otherPair p)).lost = false →
    (s.pair (otherPair p)).inReset = false → emptyColl s → (s.sys.dev = .run ∨ s.sys.dev = .ready ∨ s.sys.dev = .standby) → s.charger = false →
    Ran (.mainLockstepError p) s fun t =>
      t.pair p = ⟨true, true, 1, false, some .mainLockstep⟩ ∧ t.sys.supervisor = (match p with | .m0 => .m1 | .m1 => .m0) ∧
      t.coll.active = some ⟨.mainLockstep, 5, pairNum p⟩ ∧ t.hlm.permit = false ∧ t.sys.tokenOn = false ∧ t.sys.dev = s.sys.dev ∧
      bit (t.get O.RESET_CAUSE) (8 + pairNum p) = true ∧ t.pins = s.pins ∧ t.clamps = s.clamps ∧ t.si = s.si ∧ t.out = s.out ∧ t.nv = s.nv) ∧
  (∀ (s : State) (p : MainPair), s.alive = true → s.sys.lastPairLost = false → s.pair p = ⟨false, false, 1, false, none⟩ → s.pair (otherPair p) = ⟨false, false, 0, false, none⟩ →
    emptyColl s → (s.sys.dev = .ready ∨ s.sys.dev = .standby) → (∀ d, (FaultCode.mainLockstep, d) ∉ s.coll.conds) →
    Ran (.mainLockstepError p) s fun t =>
      (t.pair p).lost = true ∧ (t.pair p).inReset = false ∧ t.sys.supervisor = (match p with | .m0 => .m1 | .m1 => .m0) ∧ emptyColl t ∧
      (FaultCode.mainTakeover, pairNum p) ∈ t.coll.conds ∧ bit (t.get O.DEG_MODES) 0 = true ∧ t.sys.dev = s.sys.dev ∧ t.pins = s.pins ∧ t.si = s.si) ∧
  (∀ (s : State) (p : MainPair), (s.pair p).restarting = true → (s.pair p).cause = some .mainLockstep → s.pair (otherPair p) = ⟨false, false, 0, false, none⟩ →
    s.coll.active = some ⟨.mainLockstep, 5, pairNum p⟩ → s.coll.pend = none → s.coll.overflow = false → (s.sys.dev = .ready ∨ s.sys.dev = .standby) →
    Ran (.hotRestartDone p true) s fun t =>
      emptyColl t ∧ t.pair p = { s.pair p with inReset := false, restarting := false, cause := none } ∧ (∀ d, (FaultCode.mainLockstep, d) ∉ t.coll.conds) ∧
      t.sys.dev = s.sys.dev ∧ t.vals = s.vals ∧ t.pins = s.pins ∧ t.mem = s.mem ∧ t.si = s.si ∧ t.out = s.out) ∧
  (∀ (s : State) (p : MainPair), (s.pair p).restarting = true → (s.pair p).cause = some .mainLockstep → s.pair (otherPair p) = ⟨false, false, 0, false, none⟩ →
    s.coll.active = some ⟨.mainLockstep, 5, pairNum p⟩ → s.coll.pend = none → s.coll.overflow = false → (s.sys.dev = .ready ∨ s.sys.dev = .standby) →
    Ran (.hotRestartDone p false) s fun t =>
      emptyColl t ∧ (t.pair p).lost = true ∧ (FaultCode.mainTakeover, pairNum p) ∈ t.coll.conds ∧ bit (t.get O.DEG_MODES) 0 = true ∧ t.sys.dev = s.sys.dev ∧ t.pins = s.pins) ∧
  (∀ (s : State) (p : MainPair) (ok : Bool), (s.pair p).restarting = false → Ran (.hotRestartDone p ok) s fun t => t = s)

/-- ASC_ESTABLISH_TIMEOUT with no island confirmed on gives FREEWHEEL to every live island of a traction module and holds ASC_FAIL; with ASC established on every bridge it closes the check. SAFETY_MAP_RELOAD with a wrong CRC holds HLM_MAP_FAIL. HELMET_STEP counts, does no more for a machine not in use, and holds HLM_OVERSPEED once the filtered speed has been above the limit for the filter time. A fast-fault code is acknowledged in a CMD frame: DESAT sends OFF_SOFT to the position, GATE_STUCK latches, codes 3, 4, 7, 8, 9 and, in DRIVE, DC_UV lead to SAFE_HOLD, DC_OV1 switches the clamp on, over-temperature is a thermal shutdown, the test code is noted. (09_protection.md Helmet monitoring, 09_protection.md Safe-state selection, 04_gate_drive_islands.md Table 4.7, 09_protection.md DC-link overvoltage and the clamp) -/
def Obligations.HelmetMonitorsAndFastFaults : Prop :=
  (∀ s : State, s.hlm.ascCheck = true → s.hlm.stopped = false → s.permitGone = true → (s.hlm.choice = .ascLow ∨ s.hlm.choice = .ascHigh) → s.charger = false →
    firstFault s .ascFail → Ran (.ascEstablishTimeout 0#12) s fun t =>
      FailedSafe t .ascFail 4 0 .faultLatched ∧ t.hlm.choice = .freewheel ∧ t.hlm.ascCheck = false ∧ (∀ n : IslIx, (s.island n).live = true → (t.island n).preload = .freewheel) ∧
      faultFrame s t) ∧
  (∀ (s : State) (c : BitVec 12), s.hlm.ascCheck = true → s.hlm.stopped = false → (∀ b < s.bridges, s.ascOn c b = true) → Ran (.ascEstablishTimeout c) s fun t =>
    t = { s with hlm := { s.hlm with ascCheck := false } }) ∧
  (∀ s : State, s.alive = true → s.hlm.stopped = false → s.coll.cond .hlmMapFail = false → firstFault s .hlmMapFail → Ran (.safetyMapReload false) s fun t =>
    t.hlm.mapsOk = false ∧ HeldC4 s t .hlmMapFail 0) ∧
  (∀ s : State, s.alive = true → s.hlm.stopped = false → s.coll.cond .hlmMapFail = false → Ran (.safetyMapReload true) s fun t =>
    t.hlm.mapsOk = s.mapSet.isSome ∧ t = { s with hlm := { s.hlm with mapsOk := t.hlm.mapsOk, psiPM := t.hlm.psiPM } }) ∧
  (∀ (s : State) (m : Fin 2) (ok : Bool), s.sys.dev.runs = true → s.hlm.stopped = false → m.val ∉ s.machines → s.forcedNow = false → Ran (.helmetStep m ok) s fun t =>
    t = { s with hlm := { s.hlm with stepCount := s.hlm.stepCount + 1 } }) ∧
  (∀ (s : State) (m : Fin 2) (since : Nat), s.hlm.stopped = false → m.val ∈ s.machines → s.forcedNow = false → s.sys.tokenOn = false → m.val < s.hlm.machines.length →
    (∀ l < s.links, s.vdcReads l = []) → bit (s.get O.POS_STATUS m.val) 9 = true → (∀ d, (FaultCode.hlmDiverseNone, d) ∉ s.coll.conds) →
    (FaultCode.hlmOverspeed, m.val) ∉ s.coll.conds → firstFault s .hlmOverspeed → (s.hlmMach m.val).overFrom = some since → since + 1000 * s.getN O.N_FILT_H ≤ s.now →
    (s.hlmMach m.val).nH = mkRat (s.get O.SPEED_DIVERSE m.val) 10 →
    minQ (s.getQ O.N_MAX_SAFE) (divQ 180000 (s.get O.POLE_PAIRS m.val)) < absQ (s.hlmMach m.val).nH → Ran (.helmetStep m true) s fun t =>
      FailedSafe t .hlmOverspeed 4 m.val .faultLatched ∧ t.hlm.stepCount = s.hlm.stepCount + 1 ∧ (t.hlmMach m.val).errAcc = 0 ∧
      t.pins = s.pins ∧ t.clamps = s.clamps ∧ t.mem = s.mem ∧ t.net = s.net ∧ t.out = s.out) ∧
  (∀ (s : State) (n : IslIx), s.alive = true → (s.island n).live = true → s.isl.length = 12 → Ran (.fastFaultCode n 0x1#4) s fun t =>
    t.out = (siblingsOf s.cfg n).map (fun p => Sent.symbol p 0b100#3) ∧ 0x1#4 ∈ (t.island n).downQ ∧ t = { s with isl := t.isl, out := t.out }) ∧
  (∀ (s : State) (n : IslIx), s.alive = true → (s.island n).live = true → firstFault s .islGateStuck → Ran (.fastFaultCode n 0x2#4) s fun t =>
    HeldC4 s t .islGateStuck n.val ∧ 0x1#4 ∈ (t.island n).downQ) ∧
  (∀ (s : State) (n : IslIx) (c : BitVec 4) (f : FaultCode), s.alive = true → (s.island n).live = true → firstFault s f →
    (c, f) ∈ [(0x3#4, FaultCode.islUvlo), (0x4#4, .shootConflict), (0x7#4, .islIlkTmo), (0x8#4, .islIlkLost), (0x9#4, .islEdgeLost)] →
    Ran (.fastFaultCode n c) s fun t => HeldC3 s t f n.val ∧ 0x1#4 ∈ (t.island n).downQ) ∧
  (∀ (s : State) (n : IslIx), s.alive = true → n.low = true → s.islandsReady = true → n.val < s.isl.length →
    s.clamps[bridgeOf s.cfg n]? = some ⟨false, false, false, []⟩ → (FaultCode.dcOv1, bridgeOf s.cfg n) ∉ s.coll.conds → Ran (.fastFaultCode n 0x5#4) s fun t =>
      t.clamps[bridgeOf s.cfg n]? = some ⟨true, false, false, []⟩ ∧ Reported s t .dcOv1 (bridgeOf s.cfg n) ∧
      t.get O.CLAMP_ON_COUNT = countNext (8 * O.CLAMP_ON_COUNT.ty.bytes) (s.getN O.CLAMP_ON_COUNT) ∧ t.sys = s.sys ∧ t.hlm = s.hlm ∧ t.pins = s.pins) ∧
  (∀ (s : State) (n : IslIx), s.alive = true → (s.island n).live = true → Ran (.fastFaultCode n 0xF#4) s fun t =>
    (t.island n).testSeen = true ∧ 0x1#4 ∈ (t.island n).downQ ∧ (t.island n).outs = (s.island n).outs ∧ islFrame n s t) ∧
  (∀ (s : State) (n : IslIx) (c : BitVec 4), s.alive = true → (s.island n).live = true → c ∈ [0x0#4, 0xB#4, 0xC#4, 0xD#4, 0xE#4] → Ran (.fastFaultCode n c) s fun t =>
    0x1#4 ∈ (t.island n).downQ ∧ (t.island n).outs = (s.island n).outs ∧ islFrame n s t) ∧
  (∀ (s : State) (n : IslIx), s.alive = true → (s.island n).live = true → n.low = true → s.sys.dev = .run → s.traction = true → firstFault s .dcUv →
    Ran (.fastFaultCode n 0x6#4) s fun t => HeldC3 s t .dcUv (bridgeOf s.cfg n) ∧ 0x1#4 ∈ (t.island n).downQ) ∧
  (∀ (s : State) (n : IslIx), s.alive = true → (s.island n).live = true → s.sup.thermal = false → s.sup.vinUp = true →
    Ran (.fastFaultCode n 0xA#4) s fun t => DieReset s t 3 ∧ t.sup.thermal = true)

/-- A trigger line queues the conversion of its group on the unit placed for it, or drops a group whose conversions are pending, which is counted and reported. A finished injected conversion writes one word with its code, unit and period to the result of the input and of the entry; over range it is counted and reported, and the next two conversions are suspect. Timed mode starts the regular sequence. A low-side island sends a RESULT at MARK and at the instants ordered, and at no other; MARK puts a confirmed parameter set in force. An undeclared thermistor reads unavailable, and so does an implausible one. A DC-link level that trips sends its code, except during its band initialisation. (05_sensing.md SARU inputs and sequences, 05_sensing.md Island converters, 05_sensing.md Table 5.3, 05_sensing.md Table 5.7) -/
def Obligations.ConvertersSample : Prop :=
  (∀ (s : State) (pt : Fin 16) (g ain u : Nat), s.sys.dev.runs = true → 2 ≤ pt.val → s.lineInstant pt.val ≠ none → u < s.sense.saru.length →
    ((List.range 8).filter fun h => groupLine s.cfg s.inForce h == some pt.val) = [g] →
    ((List.range 4).filter fun v => s.get O.REG_MODE v == 2 && s.get O.REG_TRIGGER v == pt.val) = [] → s.placed s.inForce g = some [(ain, u)] →
    (∀ x ∈ s.sense.saru, x.jobs = []) → (s.saru u).moved = false → (s.saru u).calRun = false → s.get O.SARU_STATE u < 2 → Ran (.triggerFire pt) s fun t =>
      (t.saru u).jobs = [⟨some (g, 0), ain, s.periodTag, false⟩] ∧ (∀ v, v ≠ u → t.saru v = s.saru v) ∧ t = { s with sense := { s.sense with saru := t.sense.saru } }) ∧
  (∀ (s : State) (pt : Fin 16) (g : Nat), s.sys.dev.runs = true → 2 ≤ pt.val → s.lineInstant pt.val ≠ none →
    ((List.range 8).filter fun h => groupLine s.cfg s.inForce h == some pt.val) = [g] →
    ((List.range 4).filter fun v => s.get O.REG_MODE v == 2 && s.get O.REG_TRIGGER v == pt.val) = [] →
    (∃ x ∈ s.sense.saru, ∃ j ∈ x.jobs, j.grp = some (g, 0)) → (FaultCode.snsTrigOverrun, g) ∉ s.coll.conds → Ran (.triggerFire pt) s fun t =>
      t.get O.TRIG_OVERRUN = countNext (8 * O.TRIG_OVERRUN.ty.bytes) (s.getN O.TRIG_OVERRUN) ∧ Reported s t .snsTrigOverrun g ∧ t.sense = s.sense ∧ reportFrame s t) ∧
  (∀ (s : State) (u : Fin 4) (uv : Int) (g e ain tag : Nat) (tw : Bool) (rest : List Job), s.sys.dev.runs = true → (s.saru u.val).calRun = false →
    (s.saru u.val).jobs = ⟨some (g, e), ain, tag, tw⟩ :: rest → 2 ≤ g → s.refOk (s.get O.REF_SEL_SARU) = true → (s.saru u.val).suspect = 0 → (s.saru u.val).calDue = false →
    (codeOf 16384 (mkRat uv 1000000) (refVolts (s.get O.REF_SEL_SARU))).2 = false → (FaultCode.snsOvr, ain) ∉ s.coll.conds →
    Ran (.saruConversionDone u uv) s fun t =>
      t.get O.INJ_RESULT (4 * g + e) = ((codeOf 16384 (mkRat uv 1000000) (refVolts (s.get O.REF_SEL_SARU))).1 + (if tw then 2 ^ 21 else 0) + u.val * 2 ^ 22 + tag * 2 ^ 24 : Nat) ∧
      t.get O.AIN_RESULT ain = ((codeOf 16384 (mkRat uv 1000000) (refVolts (s.get O.REF_SEL_SARU))).1 + (if tw then 2 ^ 21 else 0) + u.val * 2 ^ 22 + tag * 2 ^ 24 : Nat) ∧
      (t.saru u.val).jobs = rest ∧ t = { s with vals := t.vals, sense := { s.sense with saru := t.sense.saru } } ∧ onlyVals [O.AIN_RESULT.key ain, O.INJ_RESULT.key (4 * g + e)] s t) ∧
  (∀ (s : State) (u : Fin 4) (uv : Int) (g e ain tag : Nat) (tw : Bool) (rest : List Job), s.sys.dev.runs = true → (s.saru u.val).calRun = false →
    (s.saru u.val).jobs = ⟨some (g, e), ain, tag, tw⟩ :: rest → 2 ≤ g → s.refOk (s.get O.REF_SEL_SARU) = true → (s.saru u.val).suspect = 0 → (s.saru u.val).calDue = false →
    (codeOf 16384 (mkRat uv 1000000) (refVolts (s.get O.REF_SEL_SARU))).2 = true → (FaultCode.snsOvr, ain) ∉ s.coll.conds →
    Ran (.saruConversionDone u uv) s fun t =>
      (t.saru u.val).suspect = 2 ∧ (t.saru u.val).jobs = rest ∧ t.get O.OVR_COUNT = countNext (8 * O.OVR_COUNT.ty.bytes) (s.getN O.OVR_COUNT) ∧ Reported s t .snsOvr ain ∧ t.sys = s.sys) ∧
  (∀ (s : State) (u : Fin 4), s.sense.saru.length = 4 → s.sys.dev.runs = true → s.get O.REG_MODE u.val = 1 → (s.saru u.val).calDue = false → s.get O.SARU_STATE u.val = 0 →
    Ran (.regularSequenceStart u) s fun t =>
      t.saru u.val = { s.saru u.val with reg := some 0 } ∧ t = { s with sense := { s.sense with saru := t.sense.saru } } ∧ ∀ v, v ≠ u.val → t.saru v = s.saru v) ∧
  (∀ (s : State) (u : Fin 4), s.get O.REG_MODE u.val ≠ 1 → Ran (.regularSequenceStart u) s fun t => t = s) ∧
  (∀ (s : State) (n : IslIx) (k : Nat) (a b : Int), (s.island n).live = true → n.low = true → 1 ≤ k → k ≤ (s.island n).offsets.length → (s.conv n).calRun = false →
    Ran (.islandSampleInstant n k a b) s fun t =>
      (t.island n).results.length = (s.island n).results.length + 1 ∧ 0x8#4 ∈ (t.island n).upQ ∧ (t.island n).outs = (s.island n).outs ∧
      (∀ m : IslIx, m ≠ n → t.island m = s.island m) ∧ t = { s with isl := t.isl, sense := { s.sense with conv := t.sense.conv } }) ∧
  (∀ (s : State) (n : IslIx) (k : Nat) (a b : Int), (k = 0 ∨ (s.island n).offsets.length < k) → Ran (.islandSampleInstant n k a b) s fun t => t = s) ∧
  (∀ (s : State) (n : IslIx) (a b : Int), (s.island n).live = true → (s.island n).verified = true → n.low = true → (s.conv n).calRun = false → Ran (.mark n a b) s fun t =>
      (t.island n).results.length = (s.island n).results.length + 1 ∧ 0x8#4 ∈ (t.island n).upQ ∧ (t.island n).edgeOk = true ∧ (t.island n).applyNext = false ∧
      (t.island n).applied = (if (s.island n).applyNext then (s.island n).staged else (s.island n).applied) ∧ t.vals = s.vals ∧ t.coll = s.coll ∧ t.hlm = s.hlm ∧ t.out = s.out) ∧
  (∀ (s : State) (n : IslIx) (a b : Int), (s.island n).live = true → n.low = false → Ran (.mark n a b) s fun t =>
      (t.island n).results = (s.island n).results ∧ (t.island n).edgeOk = true ∧ (t.island n).applyNext = false ∧
      (t.island n).applied = (if (s.island n).applyNext then (s.island n).staged else (s.island n).applied) ∧ t.vals = s.vals ∧ t.coll = s.coll ∧ t.hlm = s.hlm ∧ t.out = s.out) ∧
  (∀ (s : State) (n : IslIx) (r1 r2 : Nat), (s.island n).live = true → s.funcDecl n 5 = false → s.funcDecl n 6 = false → Ran (.ntcConversion n r1 r2) s fun t =>
      t.get O.NTC1_TEMP n.val = -32768 ∧ t.get O.NTC2_TEMP n.val = -32768 ∧ onlyObjects [O.NTC1_TEMP.key n.val, O.NTC2_TEMP.key n.val] s t) ∧
  (∀ (s : State) (n : IslIx) (r1 r2 : Nat), (s.island n).live = true → s.funcDecl n 5 = true → s.funcDecl n 6 = false → Ran (.ntcConversion n r1 r2) s fun t =>
      t.get O.NTC1_TEMP n.val = (if s.ntcTemp r1 < -550 ∨ 2000 < s.ntcTemp r1 then -32768 else Ty.fit .i16 (quantQ (s.ntcTemp r1))) ∧
      ((s.ntcTemp r1 < -550 ∨ 2000 < s.ntcTemp r1) → (FaultCode.islNtcFail, outDetail n 0) ∈ t.coll.conds) ∧ t.get O.NTC2_TEMP n.val = -32768 ∧ reportFrame s t) ∧
  (∀ (s : State) (n : IslIx), (s.island n).live = true → n.low = true → (s.conv n).hiInit = false → Ran (.dcLinkWindowCross n true true) s fun t =>
      0x5#4 ∈ (t.island n).ffPend ∧ t.out = [.fastFault n 0x5#4] ∧ (t.island n).outs = (s.island n).outs ∧ t = { s with isl := t.isl, out := t.out }) ∧
  (∀ (s : State) (n : IslIx), (s.island n).live = true → n.low = true → (s.conv n).loInit = false → s.get O.DCW_LOW (n.val / 2) ≠ 0 → Ran (.dcLinkWindowCross n false true) s fun t =>
      0x6#4 ∈ (t.island n).ffPend ∧ t.out = [.fastFault n 0x6#4] ∧ (t.island n).outs = (s.island n).outs ∧ t = { s with isl := t.isl, out := t.out }) ∧
  (∀ (s : State) (n : IslIx), (s.island n).live = true → n.low = true → (s.conv n).hiInit = true → Ran (.dcLinkWindowCross n true true) s fun t => t = s) ∧
  (∀ (s : State) (n : IslIx) (up : Bool), (s.island n).live = true → n.low = true → s.sense.conv.length = 6 → Ran (.dcLinkWindowCross n up false) s fun t =>
      t.conv n = (if up then { s.conv n with hiInit := false } else { s.conv n with loInit := false }) ∧ t = { s with sense := { s.sense with conv := t.sense.conv } })

/-- An ICU window writes its mean word with the new window count and its length, counts itself and passes to its next entry; a grid-tracked window that times out is reported untracked. A settled reference sets its bit; a lost one clears it and, selected by a converter, is reported. A due calibration runs on a SARU with no conversion pending or on a low-side island; a result within its limits returns the unit to service, one outside takes it out of use with SNS_CAL_FAIL. A comparator trip does what its ACTION says: nothing, a note, or OFF_SOFT to every island with SAFE_HOLD or FAULT_LATCHED; its release lets a note leave. (05_sensing.md Integrating converters, 05_sensing.md References, 05_sensing.md Calibration, 05_sensing.md Comparators and windows, 05_sensing.md Table 5.19) -/
def Obligations.SensingMonitors : Prop :=
  (∀ (s : State) (u : Fin 8) (x : IcuSample), s.charger = false → x.ovr = false → (s.sense.icu.getD u.val State.resetIcu).suspect = false → s.refOk (s.get O.REF_SEL_ICU) = true →
    s.get O.WINDOW u.val ≠ 2 → (FaultCode.snsOvr, 0x300 + 4 * u.val + s.getN O.SEQ_CH (4 * u.val + (s.sense.icu.getD u.val State.resetIcu).entry)) ∉ s.coll.conds →
    u.val < s.sense.icu.length → Ran (.icuWindowEnd u x) s fun t =>
      t.get O.WIN_COUNT u.val = countNext (8 * O.WIN_COUNT.ty.bytes) (s.getN O.WIN_COUNT u.val) ∧ t.get O.WIN_LEN u.val = x.len ∧
      (s.getN O.SEQ_CH (4 * u.val + (s.sense.icu.getD u.val State.resetIcu).entry) < 4 →
        t.get O.ICU_MEAN (4 * u.val + s.getN O.SEQ_CH (4 * u.val + (s.sense.icu.getD u.val State.resetIcu).entry)) =
        ((codeOf 1048576 (mkRat x.meanUv 1000000) (refVolts (s.get O.REF_SEL_ICU))).1 + (t.getN O.WIN_COUNT u.val % 256) * 2 ^ 24 : Nat)) ∧
      (t.sense.icu.getD u.val State.resetIcu).entry =
        (if (s.sense.icu.getD u.val State.resetIcu).entry + 1 < s.getN O.SEQ_LEN u.val then (s.sense.icu.getD u.val State.resetIcu).entry + 1 else 0) ∧
      t = { s with vals := t.vals, sense := { s.sense with icu := t.sense.icu } }) ∧
  (∀ (s : State) (u : Fin 8) (x : IcuSample), s.charger = false → x.ovr = false → s.get O.WINDOW u.val = 2 → (FaultCode.icuUntracked, u.val) ∉ s.coll.conds →
    (∀ d, (FaultCode.snsOvr, d) ∉ s.coll.conds) → Ran (.icuWindowTimeout u x) s fun t =>
      t.get O.WIN_COUNT u.val = countNext (8 * O.WIN_COUNT.ty.bytes) (s.getN O.WIN_COUNT u.val) ∧ Reported s t .icuUntracked u.val ∧ t.sys = s.sys ∧ t.isl = s.isl) ∧
  (∀ (s : State) (r : RefSel), s.sys.dev.runs = true → s.get O.REF_SEL_CMP ≠ (refNum r : Nat) → Ran (.refSettled r) s fun t =>
      t.refOk (refNum r : Nat) = true ∧ (∀ q, q ≠ r → t.refOk (refNum q : Nat) = s.refOk (refNum q : Nat)) ∧
      t = { s with vals := t.vals, sense := { s.sense with hadRef := t.sense.hadRef } } ∧ onlyVals [O.REF_STATUS.key 0] s t) ∧
  (∀ (s : State) (r : RefSel) (inRange : Bool), s.sys.dev.runs = true → s.get O.REF_SEL_CMP ≠ (refNum r : Nat) → s.get O.REF_SEL_SARU = (refNum r : Nat) →
    s.sense.hadRef.getD (refNum r) false = true → (FaultCode.snsRefFail, refNum r) ∉ s.coll.conds → Ran (.refLost r inRange) s fun t =>
      t.refOk (refNum r : Nat) = false ∧ Reported s t .snsRefFail (refNum r) ∧ reportFrame s t ∧ onlyVals [O.REF_STATUS.key 0, O.LOG_SUPPRESSED.key 0] s t) ∧
  (∀ (s : State) (u : Fin 4), s.sys.dev.runs = true → s.get O.SARU_STATE u.val = 0 → s.fieldEntries u.val = [] → (s.saru u.val).jobs = [] → (s.saru u.val).calRun = false →
    u.val < s.sense.saru.length → Ran (.calDue (.saru u)) s fun t =>
      (t.saru u.val).calRun = true ∧ (t.saru u.val).calDue = true ∧ t.get O.SARU_STATE u.val = 1 ∧ t = { s with vals := t.vals, sense := { s.sense with saru := t.sense.saru } } ∧
      onlyVals [O.SARU_STATE.key u.val] s t) ∧
  (∀ (s : State) (u : Fin 4), s.get O.SARU_STATE u.val = 3 → Ran (.calDue (.saru u)) s fun t => t = s) ∧
  (∀ (s : State) (n : IslIx), s.sys.dev.runs = true → n.low = true → (s.island n).live = true → (s.conv n).bad = false → s.sense.conv.length = 6 →
    Ran (.calDue (.island n)) s fun t => t.conv n = { s.conv n with calDue := true, calRun := true } ∧ t = { s with sense := { s.sense with conv := t.sense.conv } }) ∧
  (∀ (s : State) (u : Fin 4) (a b : Int), (s.saru u.val).calRun = true → calBad a b = false → (FaultCode.calStarved, u.val) ∉ s.coll.conds → Ran (.calDone (.saru u) a b) s fun t =>
      t.get O.SARU_STATE u.val = 0 ∧ t.get O.CAL_ABORTS u.val = 0 ∧ t.saru u.val = { s.saru u.val with calRun := false, calDue := false } ∧
      t = { s with vals := t.vals, sense := { s.sense with saru := t.sense.saru } } ∧ onlyVals [O.SARU_STATE.key u.val, O.CAL_ABORTS.key u.val] s t) ∧
  (∀ (s : State) (u : Fin 4) (a b : Int), (s.saru u.val).calRun = true → calBad a b = true → s.mem.test = none → (FaultCode.calStarved, u.val) ∉ s.coll.conds →
    (FaultCode.snsCalFail, u.val) ∉ s.coll.conds → Ran (.calDone (.saru u) a b) s fun t =>
      t.get O.SARU_STATE u.val = 3 ∧ (t.saru u.val).calRun = false ∧ Reported s t .snsCalFail u.val ∧ t.sys = s.sys ∧ t.isl = s.isl) ∧
  (∀ (s : State) (n : IslIx) (a b : Int), (s.conv n).calRun = true → (FaultCode.calStarved, 0x100 + n.val) ∉ s.coll.conds → (FaultCode.snsCalFail, 0x100 + n.val) ∉ s.coll.conds →
    Ran (.calDone (.island n) a b) s fun t =>
      t.conv n = { s.conv n with calRun := false, calDue := false, aborts := 0, bad := (s.conv n).bad || calBad a b } ∧
      (calBad a b = true → Reported s t .snsCalFail (0x100 + n.val)) ∧ (calBad a b = false → t = { s with sense := { s.sense with conv := t.sense.conv } })) ∧
  (∀ (s : State) (r : Req) (u : Fin 4), writeRuns s r O.CAL_REQUEST 0 (2 ^ u.val : Nat) → s.get O.SARU_STATE u.val = 0 → s.fieldEntries u.val = [] → (s.saru u.val).jobs = [] →
    (s.saru u.val).calRun = false → u.val < s.sense.saru.length → Ran (.calRequest r (BitVec.ofNat 8 (2 ^ u.val))) s fun t =>
      (t.saru u.val).calRun = true ∧ t.get O.SARU_STATE u.val = 1 ∧ Answered t (reqId s r 0x02 (O.CAL_REQUEST.key 0)) (.ok []) ∧ t.sys = s.sys ∧ t.isl = s.isl) ∧
  (∀ (s : State) (c : Fin 16), s.sys.dev.runs = true → bit (s.get O.CMP_LEVEL) c.val = false → s.winOn (c.val / 2) = false → s.get O.ACTION c.val = 0 → Ran (.cmpTrip c) s fun t =>
      t.get O.CMP_LEVEL = setBit (s.get O.CMP_LEVEL) c.val true ∧ valsFrame s t ∧
      onlyVals [O.CMP_LEVEL.key 0, O.CMP_BAND_INIT.key 0, O.WIN_STATE.key 0, O.WIN_BAND_INIT.key 0] s t) ∧
  (∀ (s : State) (c : Fin 16), s.sys.dev.runs = true → bit (s.get O.CMP_LEVEL) c.val = false → bit (s.get O.CMP_BAND_INIT) c.val = false → s.winOn (c.val / 2) = false →
    s.get O.ACTION c.val = 1 → (FaultCode.cmpNote, c.val) ∉ s.coll.conds → Ran (.cmpTrip c) s fun t =>
      t.get O.CMP_LEVEL = setBit (s.get O.CMP_LEVEL) c.val true ∧ Reported s t .cmpNote c.val ∧ reportFrame s t) ∧
  (∀ (s : State) (c : Fin 16), firstFault s .cmpSafe → bit (s.get O.CMP_LEVEL) c.val = false → bit (s.get O.CMP_BAND_INIT) c.val = false → s.winOn (c.val / 2) = false →
    s.get O.ACTION c.val = 2 → Ran (.cmpTrip c) s fun t =>
      FailedSafe t .cmpSafe 3 c.val .safeHold ∧ t.out = allIslands.map fun n => Sent.symbol n 0x4#3) ∧
  (∀ (s : State) (c : Fin 16), firstFault s .cmpLatch → bit (s.get O.CMP_LEVEL) c.val = false → bit (s.get O.CMP_BAND_INIT) c.val = false → s.winOn (c.val / 2) = false →
    s.get O.ACTION c.val = 3 → Ran (.cmpTrip c) s fun t =>
      FailedSafe t .cmpLatch 4 c.val .faultLatched ∧ t.out = allIslands.map fun n => Sent.symbol n 0x4#3) ∧
  (∀ (s : State) (c : Fin 16), s.sys.dev.runs = true → s.refOk (s.get O.REF_SEL_CMP) = true → bit (s.get O.CMP_LEVEL) c.val = true → s.winOn (c.val / 2) = false →
    soleCond s .cmpNote c.val → (FaultCode.cmpLatch, c.val) ∉ s.coll.conds → Ran (.cmpRelease c) s fun t =>
      t.get O.CMP_LEVEL = setBit (s.get O.CMP_LEVEL) c.val false ∧ Left t .cmpNote c.val ∧ reportFrame s t) ∧
  (∀ (s : State) (c : Fin 16), s.refOk (s.get O.REF_SEL_CMP) = false → Ran (.cmpRelease c) s fun t => t = s)

/-- A legal encoder transition counts up or down; r follows c at once in the direction of motion and one count late on reversal; an illegal one makes the position UNCERTAIN, is counted and reported, and the third within one revolution is ENC_FAIL. In INDEX_MODE 1 the first index references the count, a later one corrects it and is reported when it deviates by more than one count; in other modes the index does nothing. A wire fault is ENC_FAIL at once. A Hall change to the neighbouring sector sets the angle of the boundary crossed and the direction; noise is counted; an illegal state counts, and one of 1 ms is HALL_FAIL. (06_rotor_position.md ABZ encoder, 06_rotor_position.md Hall switches, 06_rotor_position.md Table 6.3) -/
def Obligations.EncoderAndHallCount : Prop :=
  (∀ (s : State) (a b : Bool), s.sys.dev.runs = true → s.getB O.ENC_SWAP = false → s.get O.INDEX_MODE ≠ 1 → s.encMain 0 = false → s.encMain 1 = false →
    (quad a b + 4 - quad s.pos.enc.a s.pos.enc.b) % 4 = 1 → s.pos.enc.r = s.pos.enc.c → Ran (.encoderEdge a b) s fun t =>
      t.pos.enc = { s.pos.enc with a := a, b := b, c := s.pos.enc.c + 1, r := s.pos.enc.c + 1, neg := false } ∧
      t.get O.ENC_RAW = (s.pos.enc.c + 1) % s.cpr ∧ t.get O.ENC_COUNT = (s.pos.enc.c + 1) % s.cpr ∧ t.get O.ENC_MULTI = wrap32 (s.pos.enc.c + 1) ∧
      t = { s with vals := t.vals, pos := { s.pos with enc := t.pos.enc } } ∧ onlyVals [O.ENC_RAW.key 0, O.ENC_COUNT.key 0, O.ENC_MULTI.key 0] s t) ∧
  (∀ (s : State) (a b : Bool), s.sys.dev.runs = true → s.getB O.ENC_SWAP = false → (quad a b + 4 - quad s.pos.enc.a s.pos.enc.b) % 4 = 3 → s.pos.enc.r = s.pos.enc.c →
    Ran (.encoderEdge a b) s fun t =>
      t.pos.enc = { s.pos.enc with a := a, b := b, c := s.pos.enc.c - 1 } ∧ t.get O.ENC_RAW = (s.pos.enc.c - 1) % s.cpr ∧ t.get O.ENC_COUNT = s.pos.enc.r % s.cpr ∧
      t = { s with vals := t.vals, pos := { s.pos with enc := t.pos.enc } } ∧ onlyVals [O.ENC_RAW.key 0, O.ENC_COUNT.key 0, O.ENC_MULTI.key 0] s t) ∧
  (∀ (s : State) (a b : Bool), s.sys.dev.runs = true → s.getB O.ENC_SWAP = true → quad b a = quad s.pos.enc.a s.pos.enc.b → Ran (.encoderEdge a b) s fun t =>
      t.pos.enc = { s.pos.enc with a := b, b := a } ∧ t = { s with pos := { s.pos with enc := t.pos.enc } }) ∧
  (∀ (s : State) (a b : Bool), s.sys.dev.runs = true → s.getB O.ENC_SWAP = false → (quad a b + 4 - quad s.pos.enc.a s.pos.enc.b) % 4 = 2 →
    (s.pos.enc.bad = [] ∨ s.pos.enc.failed = true) → (FaultCode.encIllegal, s.sensorDetail 1) ∉ s.coll.conds → Ran (.encoderEdge a b) s fun t =>
      t.pos.enc.uncertain = true ∧ t.pos.enc.agree = 0 ∧ t.pos.enc.c = s.pos.enc.c ∧ t.pos.enc.r = s.pos.enc.r ∧ t.pos.enc.failed = s.pos.enc.failed ∧
      t.get O.ENC_ILLEGAL_COUNT = countNext (8 * O.ENC_ILLEGAL_COUNT.ty.bytes) (s.getN O.ENC_ILLEGAL_COUNT) ∧ Reported s t .encIllegal (s.sensorDetail 1) ∧
      reportFrame { s with pos := { s.pos with enc := t.pos.enc } } t ∧ onlyVals [O.ENC_ILLEGAL_COUNT.key 0, O.LOG_SUPPRESSED.key 0] s t) ∧
  (∀ (s : State) (a b : Bool) (x y : Int), s.sys.dev.runs = true → s.getB O.ENC_SWAP = false → (quad a b + 4 - quad s.pos.enc.a s.pos.enc.b) % 4 = 2 →
    s.pos.enc.bad = [x, y] → absI (s.pos.enc.r - x) < s.cpr → absI (s.pos.enc.r - y) < s.cpr → s.pos.enc.failed = false → s.servedBy 1 = none →
    (FaultCode.encFail, s.sensorDetail 1) ∉ s.coll.conds → Ran (.encoderEdge a b) s fun t =>
      t.pos.enc.failed = true ∧ Reported s t .encFail (s.sensorDetail 1) ∧ reportFrame { s with pos := { s.pos with enc := t.pos.enc } } t) ∧
  (∀ (s : State), s.get O.INDEX_MODE ≠ 1 → Ran .indexEvent s fun t => t = s) ∧
  (∀ (s : State), s.sys.dev.runs = true → s.get O.INDEX_MODE = 1 → s.pos.enc.referenced = false → s.servedBy 1 = none → s.sensorAngle 0 = none →
    s.pos.enc.uncertain = false → (FaultCode.encIndexMissing, s.sensorDetail 1) ∉ s.coll.conds → s.src 0 ≠ 1 → Ran .indexEvent s fun t =>
      t.pos.enc.c = s.pos.enc.c - wrapN s.cpr (s.pos.enc.c - s.get O.INDEX_POS) ∧ t.pos.enc.r = t.pos.enc.c ∧ t.pos.enc.referenced = true ∧
      t.pos.enc.indexAt = some t.pos.enc.r ∧ t = { s with vals := t.vals, pos := { s.pos with enc := t.pos.enc } } ∧
      onlyVals [O.ENC_RAW.key 0, O.ENC_COUNT.key 0, O.ENC_MULTI.key 0, O.POS_STATUS.key 0] s t) ∧
  (∀ (s : State), s.sys.dev.runs = true → s.get O.INDEX_MODE = 1 → s.pos.enc.referenced = true → s.pos.enc.uncertain = false →
    absI (wrapN s.cpr (s.pos.enc.c - s.get O.INDEX_POS)) ≤ 1 → (FaultCode.encIndexMissing, s.sensorDetail 1) ∉ s.coll.conds →
    (FaultCode.encIndexDev, s.sensorDetail 1) ∉ s.coll.conds → Ran .indexEvent s fun t =>
      t.pos.enc.c = s.pos.enc.c - wrapN s.cpr (s.pos.enc.c - s.get O.INDEX_POS) ∧ t.get O.INDEX_CORR = wrapN s.cpr (s.pos.enc.c - s.get O.INDEX_POS) ∧
      t.coll = s.coll ∧ t = { s with vals := t.vals, pos := { s.pos with enc := t.pos.enc } }) ∧
  (∀ (s : State), s.sys.dev.runs = true → s.get O.INDEX_MODE = 1 → s.pos.enc.referenced = true → s.pos.enc.uncertain = false → s.pos.enc.bad = [] →
    1 < absI (wrapN s.cpr (s.pos.enc.c - s.get O.INDEX_POS)) → (FaultCode.encIndexMissing, s.sensorDetail 1) ∉ s.coll.conds →
    (FaultCode.encIndexDev, s.sensorDetail 1) ∉ s.coll.conds → Ran .indexEvent s fun t =>
      t.get O.INDEX_CORR = wrapN s.cpr (s.pos.enc.c - s.get O.INDEX_POS) ∧ Reported s t .encIndexDev (s.sensorDetail 1) ∧
      reportFrame { s with pos := { s.pos with enc := t.pos.enc } } t) ∧
  (∀ (s : State), s.sys.dev.runs = true → s.pos.enc.failed = false → s.servedBy 1 = none → (FaultCode.encFail, s.sensorDetail 1) ∉ s.coll.conds → Ran .encWireFault s fun t =>
      t.pos.enc = { s.pos.enc with failed := true } ∧ Reported s t .encFail (s.sensorDetail 1) ∧ reportFrame { s with pos := { s.pos with enc := t.pos.enc } } t) ∧
  (∀ (s : State), s.pos.enc.failed = true → Ran .encWireFault s fun t => t = s) ∧
  (∀ (s : State) (code : BitVec 3) (k : Nat), s.sys.dev.runs = true → hallSector code = some k → s.pos.hall.sector = some ((k + 5) % 6) → Ran (.hallChange code true) s fun t =>
      t.pos.hall = { s.pos.hall with sector := some k, angle := (s.hallEdge k).toNat, at' := s.now, neg := false, changes := s.pos.hall.changes + 1 } ∧
      t = { s with vals := t.vals, pos := { s.pos with hall := t.pos.hall } } ∧ onlyVals [O.HALL_STATE.key 0] s t) ∧
  (∀ (s : State) (code : BitVec 3) (k : Nat), s.sys.dev.runs = true → hallSector code = some k → s.pos.hall.sector = some ((k + 1) % 6) → Ran (.hallChange code true) s fun t =>
      t.pos.hall = { s.pos.hall with sector := some k, angle := (s.hallEdge ((k + 1) % 6)).toNat, at' := s.now, neg := true, changes := s.pos.hall.changes + 1 } ∧
      t = { s with vals := t.vals, pos := { s.pos with hall := t.pos.hall } } ∧ onlyVals [O.HALL_STATE.key 0] s t) ∧
  (∀ (s : State) (code : BitVec 3), s.sys.dev.runs = true → (FaultCode.hallNoise, s.sensorDetail 2) ∉ s.coll.conds → Ran (.hallChange code false) s fun t =>
      t.pos = s.pos ∧ t.get O.HALL_NOISE_COUNT = countNext (8 * O.HALL_NOISE_COUNT.ty.bytes) (s.getN O.HALL_NOISE_COUNT) ∧ Reported s t .hallNoise (s.sensorDetail 2) ∧ reportFrame s t) ∧
  (∀ (s : State) (code : BitVec 3), s.sys.dev.runs = true → hallSector code = none → s.pos.hall.bad = [] → (FaultCode.hallIllegal, s.sensorDetail 2) ∉ s.coll.conds →
    Ran (.hallChange code true) s fun t =>
      t.pos.hall.sector = s.pos.hall.sector ∧ t.pos.hall.angle = s.pos.hall.angle ∧ t.get O.HALL_ILLEGAL_COUNT = countNext (8 * O.HALL_ILLEGAL_COUNT.ty.bytes) (s.getN O.HALL_ILLEGAL_COUNT) ∧
      Reported s t .hallIllegal (s.sensorDetail 2) ∧ reportFrame { s with pos := { s.pos with hall := t.pos.hall } } t) ∧
  (∀ (s : State), s.sys.dev.runs = true → (s.get O.HALL_STATE = 0 ∨ s.get O.HALL_STATE = 7) → s.pos.hall.failed = false → s.servedBy 2 = none →
    (FaultCode.hallFail, s.sensorDetail 2) ∉ s.coll.conds → Ran .hallIllegalTimeout s fun t =>
      t.pos.hall = { s.pos.hall with failed := true } ∧ Reported s t .hallFail (s.sensorDetail 2) ∧ reportFrame { s with pos := { s.pos with hall := t.pos.hall } } t) ∧
  (∀ (s : State), s.get O.HALL_STATE ≠ 0 → s.get O.HALL_STATE ≠ 7 → Ran .hallIllegalTimeout s fun t => t = s)

/-- Each resolver check stores amplitude and tracking error; an amplitude out of its limits in two checks is RES_LOS and an excitation fault RES_EXC_FAIL, either of which fails the interface. A SENT frame that passes its checks gives data, status and angle; another is counted and reported, and the absence of frames is SENT_FAIL. An SSI frame gives word and angle; a bad one is counted and reported, and the third in succession is SSI_FAIL. (06_rotor_position.md Resolver, 06_rotor_position.md SENT, 06_rotor_position.md SSI, 06_rotor_position.md Position channels) -/
def Obligations.ResolverSentAndSsiInputs : Prop :=
  (∀ (s : State) (amp th : Nat) (te : Int), s.sys.dev.runs = true → s.getN O.RES_AMP_NOM ≤ 2 * amp → 2 * amp ≤ 3 * s.getN O.RES_AMP_NOM → Ran (.resolverCheck amp te false th) s fun t =>
      t.get O.RES_AMP_MEAS = Ty.fit .u16 amp ∧ t.pos.res = { s.pos.res with ampRun := 0, theta := th % 65536 } ∧
      t = { s with vals := t.vals, pos := { s.pos with res := t.pos.res } } ∧ onlyVals [O.RES_AMP_MEAS.key 0, O.RES_TRACK_ERR.key 0] s t) ∧
  (∀ (s : State) (amp th : Nat) (te : Int), s.sys.dev.runs = true → (2 * amp < s.getN O.RES_AMP_NOM ∨ 3 * s.getN O.RES_AMP_NOM < 2 * amp) → s.pos.res.ampRun = 0 →
    Ran (.resolverCheck amp te false th) s fun t =>
      t.pos.res = { s.pos.res with ampRun := 1, theta := th % 65536, valid := false } ∧ t.coll = s.coll ∧ t = { s with vals := t.vals, pos := { s.pos with res := t.pos.res } }) ∧
  (∀ (s : State) (amp th : Nat) (te : Int), s.sys.dev.runs = true → (2 * amp < s.getN O.RES_AMP_NOM ∨ 3 * s.getN O.RES_AMP_NOM < 2 * amp) → 1 ≤ s.pos.res.ampRun →
    s.pos.res.failed = false → s.servedBy 3 = none → (FaultCode.resLos, s.sensorDetail 3) ∉ s.coll.conds → Ran (.resolverCheck amp te false th) s fun t =>
      t.pos.res.failed = true ∧ t.pos.res.valid = false ∧ Reported s t .resLos (s.sensorDetail 3) ∧ reportFrame { s with pos := { s.pos with res := t.pos.res } } t) ∧
  (∀ (s : State) (amp th : Nat) (te : Int), s.sys.dev.runs = true → s.pos.res.failed = false → s.servedBy 3 = none → (FaultCode.resExcFail, s.sensorDetail 3) ∉ s.coll.conds →
    Ran (.resolverCheck amp te true th) s fun t =>
      t.pos.res.failed = true ∧ t.pos.res.valid = false ∧ Reported s t .resExcFail (s.sensorDetail 3) ∧ reportFrame { s with pos := { s.pos with res := t.pos.res } } t) ∧
  (∀ (s : State) (k : Fin 2) (f : SentFrame), s.sys.dev.runs = true → k.val < s.pos.sent.length → sentOk (s.getN O.SENT_TICK k.val) (s.pos.sent.getD k.val State.resetSerial).lastCal f = true →
    (s.pos.sent.getD k.val State.resetSerial).good < 99 → Ran (.sentFrame k f) s fun t =>
      t.get O.SENT_DATA k.val = (f.data.toNat % 2 ^ (4 * s.getN O.SENT_NIBBLES k.val) : Nat) ∧ t.get O.SENT_STATUS k.val = (f.status.toNat : Nat) ∧
      t.get O.SENT_SLOW k.val = (match f.slow with | some w => (w.toNat : Int) | none => s.get O.SENT_SLOW k.val) ∧ (t.pos.sent.getD k.val State.resetSerial).at' = s.now ∧
      (t.pos.sent.getD k.val State.resetSerial).theta =
        some (posField (f.data.toNat % 2 ^ (4 * s.getN O.SENT_NIBBLES k.val)) (4 * s.getN O.SENT_NIBBLES k.val) (s.getN O.SENT_POS_FIELD k.val) false) ∧
      t = { s with vals := t.vals, pos := { s.pos with sent := t.pos.sent } } ∧ onlyVals [O.SENT_DATA.key k.val, O.SENT_STATUS.key k.val, O.SENT_SLOW.key k.val] s t) ∧
  (∀ (s : State) (k : Fin 2) (f : SentFrame), s.sys.dev.runs = true → sentOk (s.getN O.SENT_TICK k.val) (s.pos.sent.getD k.val State.resetSerial).lastCal f = false →
    (FaultCode.sentErr, s.sensorDetail (4 + k.val)) ∉ s.coll.conds → Ran (.sentFrame k f) s fun t =>
      t.get O.SENT_ERR_COUNT k.val = countNext (8 * O.SENT_ERR_COUNT.ty.bytes) (s.getN O.SENT_ERR_COUNT k.val) ∧ Reported s t .sentErr (s.sensorDetail (4 + k.val)) ∧
      (t.pos.sent.getD k.val State.resetSerial).theta = (s.pos.sent.getD k.val State.resetSerial).theta ∧ reportFrame { s with pos := { s.pos with sent := t.pos.sent } } t) ∧
  (∀ (s : State) (k : Fin 2), s.sys.dev.runs = true → (s.pos.sent.getD k.val State.resetSerial).failed = false → s.servedBy (4 + k.val) = some 0 → s.chanOn 0 = false → k.val < s.pos.sent.length →
    (FaultCode.sentFail, s.sensorDetail (4 + k.val)) ∉ s.coll.conds → Ran (.sentTimeout k) s fun t =>
      (t.pos.sent.getD k.val State.resetSerial).failed = true ∧ bit (t.get O.POS_STATUS 0) 8 = true ∧ Reported s t .sentFail (s.sensorDetail (4 + k.val)) ∧
      reportFrame { s with pos := { s.pos with sent := t.pos.sent } } t) ∧
  (∀ (s : State) (k : Fin 2), s.servedBy (4 + k.val) = none → Ran (.sentTimeout k) s fun t => t = s) ∧
  (∀ (s : State) (f : SsiFrame), s.sys.dev.runs = true → f.idleHigh = true → s.get O.SSI_ERR_BIT = 255 → s.getB O.SSI_DOUBLE = false → s.pos.ssi.good < 99 → Ran (.ssiFrameDone f) s fun t =>
      t.get O.SSI_WORD = (f.word.toNat % 2 ^ s.getN O.SSI_BITS : Nat) ∧
      t.pos.ssi = { s.pos.ssi with theta := some (posField (f.word.toNat % 2 ^ s.getN O.SSI_BITS) (s.getN O.SSI_BITS) (s.getN O.SSI_POS_FIELD) (s.get O.SSI_CODE == 1)), at' := s.now, bad := 0, good := s.pos.ssi.good + 1 } ∧ t = { s with vals := t.vals, pos := { s.pos with ssi := t.pos.ssi } } ∧ onlyVals [O.SSI_WORD.key 0] s t) ∧
  (∀ (s : State) (f : SsiFrame), s.sys.dev.runs = true → f.idleHigh = false → s.pos.ssi.bad < 2 → (FaultCode.ssiErr, s.sensorDetail 6) ∉ s.coll.conds → Ran (.ssiFrameDone f) s fun t =>
      t.get O.SSI_ERR_COUNT = countNext (8 * O.SSI_ERR_COUNT.ty.bytes) (s.getN O.SSI_ERR_COUNT) ∧ t.pos.ssi = { s.pos.ssi with bad := s.pos.ssi.bad + 1, good := 0 } ∧
      Reported s t .ssiErr (s.sensorDetail 6) ∧ reportFrame { s with pos := { s.pos with ssi := t.pos.ssi } } t) ∧
  (∀ (s : State) (f : SsiFrame), s.sys.dev.runs = true → f.idleHigh = true → s.getB O.SSI_DOUBLE = true →
    f.word.toNat % 2 ^ s.getN O.SSI_BITS ≠ f.copy.toNat % 2 ^ s.getN O.SSI_BITS → 2 ≤ s.pos.ssi.bad → s.pos.ssi.failed = false → s.servedBy 6 = none →
    (FaultCode.ssiFail, s.sensorDetail 6) ∉ s.coll.conds → Ran (.ssiFrameDone f) s fun t =>
      t.pos.ssi.failed = true ∧ Reported s t .ssiFail (s.sensorDetail 6) ∧ reportFrame { s with pos := { s.pos with ssi := t.pos.ssi } } t)

/-- A standstill start below the saliency limit fails with SS_FAIL; one of a synchronous reluctance machine gives the angle found. The estimator recovers from OBS_LOST. A catch attempt takes a healthy sensor or an estimator within its limits; from FREEWHEEL it asserts the permit for its pulses, unless another fault than ROTOR_LOST is held; the fourth within 2 s is FLY_CATCH_FAIL. Three pulses give angle and speed, which the EMF check confirms; a catch ends with its result. ALIGN_CMD is refused where it may not run, and its average becomes ANGLE_OFFSET. A write of a compare value or mode evaluates it at once, and a wrapping value outside one turn is refused. (06_rotor_position.md Standstill start, 06_rotor_position.md Loss of the rotor and fallback, 06_rotor_position.md Catch of a turning machine, 06_rotor_position.md Position compare, 06_rotor_position.md Sensorless operation, 06_rotor_position.md Table 6.9) -/
def Obligations.StartsCatchesAndCompares : Prop :=
  (∀ (s : State) (ch : Fin 2) (m : SsMeas), (s.chan ch.val).start ≠ .standstill → Ran (.standstillStartDone ch m) s fun t => t = s) ∧
  (∀ (s : State) (ch : Fin 2) (m : SsMeas), (s.chan ch.val).start = .standstill → s.sys.dev = .ready → s.sys.flying = false → s.disch.windings = false → s.coll.cond .rotorLost = false →
    (FaultCode.ssFail, 256 * ch.val) ∉ s.coll.conds → (FaultCode.rotorLost, 256 * ch.val) ∉ s.coll.conds → s.src ch.val ≠ 1 → s.cfg ≠ 1 → s.isSynRel 0 = true → ch.val < s.pos.chans.length →
    Ran (.standstillStartDone ch m) s fun t =>
      t.sys = s.sys ∧ t.isl = s.isl ∧ t.hlm = s.hlm ∧
      (1000 * (axisFit m.ik).2 < s.get O.SS_MIN_SAL →
        t.chan ch.val = { s.chan ch.val with start := .none, est := false } ∧ Reported s t .ssFail (256 * ch.val) ∧
        reportFrame { s with pos := { s.pos with chans := t.pos.chans } } t ∧ t.get O.SS_ANGLE = s.get O.SS_ANGLE) ∧
      (s.get O.SS_MIN_SAL ≤ 1000 * (axisFit m.ik).2 →
        t.get O.SS_ANGLE = (radUnits ((axisFit m.ik).1 + Config.pi / 2) : Nat) ∧ t.get O.CATCH_RESULT = 2 ∧
        t.chan ch.val = { s.chan ch.val with start := .none, est := true, obsLost := false, lostRun := 0, goodTheta := radUnits ((axisFit m.ik).1 + Config.pi / 2), goodFrom := s.now } ∧
        bit (t.get O.POS_STATUS ch.val) 0 = true ∧ t = { s with vals := t.vals, pos := { s.pos with chans := t.pos.chans } })) ∧
  (∀ (s : State) (ch : Fin 2), (s.chan ch.val).obsLost = true → (s.chan ch.val).fallback = .none → soleCond s .obsLost (256 * ch.val) → ch.val < s.pos.chans.length →
    Ran (.obsRecovery ch) s fun t =>
      t.chan ch.val = { s.chan ch.val with obsLost := false, est := true, lostRun := 0 } ∧ Left t .obsLost (256 * ch.val) ∧ reportFrame { s with pos := { s.pos with chans := t.pos.chans } } t) ∧
  (∀ (s : State) (ch : Fin 2), (s.chan ch.val).obsLost = false → Ran (.obsRecovery ch) s fun t => t = s) ∧
  (∀ (s : State) (ch : Fin 2), ((s.chan ch.val).start ≠ .again ∨ s.chanOn ch.val = false) → Ran (.catchAttempt ch) s fun t => t = s) ∧
  (∀ (s : State) (ch : Fin 2), (s.chan ch.val).start = .again → s.chanOn ch.val = true → (s.chan ch.val).tries = [] → s.healthy ch.val = true → s.src ch.val ≠ 1 →
    ch.val < s.pos.chans.length → Ran (.catchAttempt ch) s fun t =>
      (t.chan ch.val).start = .follow s.now false ∧ (t.chan ch.val).est = true ∧ (t.chan ch.val).goodTheta = (s.sensorAngle ch.val).getD 0 ∧
      (t.chan ch.val).tries = [s.now] ∧ t.get O.CATCH_COUNT = 1 ∧ t = { s with vals := t.vals, pos := { s.pos with chans := t.pos.chans } } ∧ onlyVals [O.CATCH_COUNT.key 0] s t) ∧
  (∀ (s : State) (ch : Fin 2), (s.chan ch.val).start = .again → s.chanOn ch.val = true → (s.chan ch.val).tries = [] → s.healthy ch.val = false → (s.chan ch.val).est = false →
    s.hlm.choice = .freewheel → s.isSynRel (if s.cfg = 1 ∧ s.get O.ARRANGEMENT = 0 then ch.val else 0) = false → s.sys.dev = .safeHold → ch.val < s.pos.chans.length → Ran (.catchAttempt ch) s fun t =>
      (t.chan ch.val).tries = [s.now] ∧ t.sys.dev = .safeHold ∧ t.coll = s.coll ∧ t.get O.CATCH_COUNT = 1 ∧
      (s.coll.rotorOnly = true → (t.chan ch.val).start = .pulses [] ∧ t.hlm.catchPermit = true ∧
        (s.hlm.stopped = false → s.sup.thermal = false → s.siStartup = false → s.sys.m0.inReset = false → s.sys.m1.inReset = false → s.sys.lastPairLost = false → t.hlm.permit = true)) ∧
      (s.coll.rotorOnly = false → (t.chan ch.val).start = .again ∧ t.get O.CATCH_RESULT = 3 ∧ t.hlm.catchPermit = false ∧ (s.coll.any = true → t.hlm.permit = false ∧ t.sys.tokenOn = false))) ∧
  (∀ (s : State) (ch : Fin 2) (x y z : Nat), (s.chan ch.val).start = .again → s.chanOn ch.val = true → (s.chan ch.val).tries = [x, y, z] → s.now < x + 2000000 → s.now < y + 2000000 →
    s.now < z + 2000000 → firstFault s .flyCatchFail → Ran (.catchAttempt ch) s fun t => HeldC4 { s with pos := t.pos } t .flyCatchFail (256 * ch.val) ∧ (t.chan ch.val).start = .none) ∧
  (∀ (s : State) (ch : Fin 2) (l : List Nat) (a : Nat) (e : Int), (s.chan ch.val).start = .pulses l → l.length < 2 → ch.val < s.pos.chans.length → Ran (.catchPulseEnd ch a e) s fun t =>
      t.chan ch.val = { s.chan ch.val with start := .pulses (l ++ [a % 65536]) } ∧ t = { s with pos := { s.pos with chans := t.pos.chans } }) ∧
  (∀ (s : State) (ch : Fin 2) (x y a : Nat) (e : Int), (s.chan ch.val).start = .pulses [x, y] →
    mkRat (absI e) 5 < absQ (divQ (mkRat (wrapA ((a % 65536 : Nat) - (x : Int)) * 6000000) 65536) (s.get O.POLE_PAIRS ch.val) - e) → ch.val < s.pos.chans.length →
    Ran (.catchPulseEnd ch a e) s fun t =>
      (t.chan ch.val).start = .again ∧ (t.chan ch.val).est = false ∧ t.get O.CATCH_RESULT = 3 ∧ t.hlm.catchPermit = false ∧ t.sys.dev = s.sys.dev ∧ t.coll = s.coll) ∧
  (∀ (s : State) (ch : Fin 2) (a : Nat) (e : Int), (s.chan ch.val).start = .none → Ran (.catchPulseEnd ch a e) s fun t => t = s) ∧
  (∀ (s : State) (ch : Fin 2) (since : Nat) (st : Bool), (s.chan ch.val).start = .follow since st → (FaultCode.rotorLost, 256 * ch.val) ∉ s.coll.conds → ch.val < s.pos.chans.length →
    Ran (.catchDone ch true) s fun t =>
      (t.chan ch.val).start = .none ∧ (t.chan ch.val).est = true ∧ t.get O.CATCH_RESULT = (if st then 2 else 1) ∧ bit (t.get O.POS_STATUS ch.val) 0 = true ∧
      t.hlm.catchPermit = false ∧ t.sys.dev = s.sys.dev ∧ t.coll = s.coll) ∧
  (∀ (s : State) (ch : Fin 2) (since : Nat) (st : Bool), (s.chan ch.val).start = .follow since st → ch.val < s.pos.chans.length → Ran (.catchDone ch false) s fun t =>
      (t.chan ch.val).start = .again ∧ (t.chan ch.val).est = false ∧ t.get O.CATCH_RESULT = 3 ∧ t.hlm.catchPermit = false ∧ t.coll = s.coll) ∧
  (∀ (s : State) (r : Req) (ch : Fin 2), writeRuns s r O.ALIGN_CMD ch.val 1 → (atBody s r O.ALIGN_CMD ch.val).alignOk ch.val = false → Ran (.alignCmd r ch) s fun t =>
      Answered t (reqId s r 0x02 (O.ALIGN_CMD.key ch.val)) (.abort 0x16) ∧ requestFrame s t) ∧
  (∀ (s : State) (r : Req) (ch : Fin 2), writeRuns s r O.ALIGN_CMD ch.val 1 → (atBody s r O.ALIGN_CMD ch.val).alignOk ch.val = true → (s.chan ch.val).aligning = none →
    ch.val < s.pos.chans.length → Ran (.alignCmd r ch) s fun t =>
      (t.chan ch.val).aligning = some (reqId s r 0x02 (O.ALIGN_CMD.key ch.val)) ∧ requestFrame { s with pos := { s.pos with chans := t.pos.chans } } t ∧
      t.dict.poolUsed = s.dict.poolUsed + s.bufsFor r.size ∧ t.out = s.out) ∧
  (∀ (s : State) (ch : Fin 2) (avg : Nat), (s.chan ch.val).aligning = none → Ran (.alignDone ch avg) s fun t => t = s) ∧
  (∀ (s : State) (ch : Fin 2) (avg : Nat) (id : ReqId), (s.chan ch.val).aligning = some id → s.alignOk ch.val = true → (∀ c, id.port ≠ .can c) → (∀ n, id.port ≠ .span n) →
    Ran (.alignDone ch avg) s fun t =>
      (t.chan ch.val).aligning = none ∧ t.staged.find? (O.ANGLE_OFFSET.key ch.val) = some (avg % 65536 : Nat) ∧ Answered t id (.ok []) ∧ t.sys = s.sys ∧ t.isl = s.isl) ∧
  (∀ (s : State) (r : Req) (p : Fin 4) (v : Int), writeRuns s r O.PCMP_VALUE p.val v → (bit (s.get O.PCMP_MODE p.val) 3 = false) → p.val < s.pos.pcmp.length → s.pos.pcmp.length = 4 →
    Ran (.pcmpValueWrite r p v) s fun t =>
      t.get O.PCMP_VALUE p.val = v ∧ Answered t (reqId s r 0x02 (O.PCMP_VALUE.key p.val)) (.ok []) ∧
      (t.pos.pcmp.getD p.val State.resetPcmp).last = s.multi (pcmpCh (s.get O.PCMP_MODE p.val)) ∧
      (t.pos.pcmp.getD p.val State.resetPcmp).fired = (s.pos.pcmp.getD p.val State.resetPcmp).fired ∧ requestFrame { s with pos := { s.pos with pcmp := t.pos.pcmp } } t) ∧
  (∀ (s : State) (r : Req) (p : Fin 4) (v : Int), writeRuns s r O.PCMP_VALUE p.val v → bit (s.get O.PCMP_MODE p.val) 3 = true →
    (v < 0 ∨ (s.turn (pcmpCh (s.get O.PCMP_MODE p.val)) : Int) ≤ v) → Ran (.pcmpValueWrite r p v) s fun t =>
      t.get O.PCMP_VALUE p.val = s.get O.PCMP_VALUE p.val ∧ Answered t (reqId s r 0x02 (O.PCMP_VALUE.key p.val)) (.abort 0x15) ∧ requestFrame s t) ∧
  (∀ (s : State) (r : Req) (p : Fin 4) (m : Byte), writeRuns s r O.PCMP_MODE p.val m.toNat → p.val < s.pos.pcmp.length → Ran (.pcmpModeWrite r p m) s fun t =>
      t.get O.PCMP_MODE p.val = (m.toNat : Nat) ∧ Answered t (reqId s r 0x02 (O.PCMP_MODE.key p.val)) (.ok []) ∧
      (t.pos.pcmp.getD p.val State.resetPcmp).last = s.multi (pcmpCh m.toNat) ∧ requestFrame { s with pos := { s.pos with pcmp := t.pos.pcmp } } t)

/-- Without a carrier, or for a bridge not in use, a boundary and t_S do nothing. A boundary counts its period, loads the shadow duties or keeps those of the last period, and clears the shadow; that of B0 sends MARK to every island. At t_S a bridge that does not drive has zero integrators and MOD_STATE 5; one that drives is busy and shows the FLE instance. Equal results are loaded; one instance with an error leaves single-FLE running with FLE_SINGLE, both are FLE_MISMATCH as C4; a difference holds the last duties, and the second is FLE_MISMATCH. Duties not loaded at the deadline are an overrun; the second in succession is FLE_OVERRUN. (07_field_loop.md Carrier and control period, 01_module_architecture.md The Field Loop Engine pair, 07_field_loop.md One control period, 09_protection.md Table 9.3) -/
def Obligations.ControlPeriods : Prop :=
  (∀ (s : State) (b : Fin 2) (x : BoundarySample), (s.carrier = false ∨ s.bridges ≤ b.val) → Ran (.controlPeriodBoundary b x) s fun t => t = s) ∧
  (∀ (s : State) (g : GridSample), s.carrier = true → s.cfg = 1 → s.fl.br.length = 2 → Ran (.controlPeriodBoundary 1 ⟨[], g⟩) s fun t =>
      t.get O.PERIOD_COUNT 1 = countNext (8 * O.PERIOD_COUNT.ty.bytes) (s.getN O.PERIOD_COUNT 1) ∧ (t.bridge 1).shadow = none ∧
      (t.bridge 1).duties = (match (s.bridge 1).brake with | some true => [1, 1, 1] | some false => [0, 0, 0] | none => (s.bridge 1).shadow.getD (s.bridge 1).duties) ∧
      (t.bridge 1).last = (s.bridge 1).pulses ∧ t.bridge 0 = s.bridge 0 ∧ t.sys = s.sys ∧ t.isl = s.isl ∧ t.hlm = s.hlm ∧ t.pos = s.pos ∧ t.dict = s.dict) ∧
  (∀ (s : State) (g : GridSample), s.carrier = true → s.traction = true → s.dict.commits = [] → s.net.takeover = none → s.fl.br.length = 2 → s.tracing = false → s.disch.windings = false →
    Ran (.controlPeriodBoundary 0 ⟨[], g⟩) s fun t =>
      t.get O.PERIOD_COUNT 0 = countNext (8 * O.PERIOD_COUNT.ty.bytes) (s.getN O.PERIOD_COUNT 0) ∧ (∀ n : IslIx, Sent.symbol n 0b101#3 ∈ t.out) ∧
      (t.bridge 0).duties = (match (s.bridge 0).brake with | some true => [1, 1, 1] | some false => [0, 0, 0] | none => (s.bridge 0).shadow.getD (s.bridge 0).duties) ∧
      (t.bridge 0).shadow = none ∧ t.hlm.mailCount = s.hlm.mailCount + 1 ∧ t.hlm.mailTorque = s.getQ O.TORQUE_REF ∧ t.net.boundaries = s.net.boundaries + 1 ∧
      t.sys.dev = s.sys.dev ∧ t.isl = s.isl ∧ t.chg = s.chg) ∧
  (∀ (s : State) (b : Fin 2), (s.carrier = false ∨ s.bridges ≤ b.val) → Ran (.fleStart b) s fun t => t = s) ∧
  (∀ (s : State) (b : Fin 2), s.carrier = true → b.val < s.bridges → s.traction = true → s.sys.tokenOn = false → s.fl.br.length = 2 → Ran (.fleStart b) s fun t =>
      t.get O.MOD_STATE b.val = 5 ∧ t.get O.FLE_STATE b.val = 3 ∧ (t.bridge b.val).xd = 0 ∧ (t.bridge b.val).xq = 0 ∧ (t.bridge b.val).next = none ∧ (t.bridge b.val).busy = true ∧
      (t.bridge b.val).duties = (s.bridge b.val).duties ∧ (t.bridge b.val).shadow = (s.bridge b.val).shadow) ∧
  (∀ (s : State) (b : Fin 2), s.carrier = true → b.val < s.bridges → s.driving b.val = true → (s.bridge b.val).brake = none → (s.bridge b.val).vdcBad = 0 → (s.bridge b.val).vdcFrom = none →
    s.fl.br.length = 2 → Ran (.fleStart b) s fun t =>
      (t.bridge b.val).next.isSome = true ∧ (t.bridge b.val).busy = true ∧ t.get O.FLE_STATE b.val = (s.fl.fle : Nat) ∧ (t.bridge b.val).duties = (s.bridge b.val).duties) ∧
  (∀ (s : State) (b : Fin 2) (x y d : Bool), (s.bridge b.val).busy = false → Ran (.fleComputeDone b x y d) s fun t => t = s) ∧
  (∀ (s : State) (b : Fin 2), (s.bridge b.val).busy = true → s.fl.fle = 0 → s.safeAct = 0xFF → Ran (.fleComputeDone b false false false) s fun t =>
      t.bridge b.val = { s.bridge b.val with shadow := (s.bridge b.val).next, next := none, busy := false, equal := (s.bridge b.val).equal + 1, differ := 0 } ∧
      (∀ n ∈ lowIslands, (s.cfg ≠ 1 ∨ n.val / 6 = b.val) → n.val < s.isl.length → 0x1#4 ∈ (t.island n).downQ) ∧ t = { s with fl := { s.fl with br := t.fl.br }, isl := t.isl }) ∧
  (∀ (s : State) (b : Fin 2) (d : Bool), (s.bridge b.val).busy = true → s.fl.fle = 0 → firstFault s .fleMismatch → Ran (.fleComputeDone b true true d) s fun t =>
      FailedSafe t .fleMismatch 4 2 .faultLatched ∧ faultFrame s t ∧ (t.bridge b.val).next = none ∧ (t.bridge b.val).shadow = (s.bridge b.val).shadow) ∧
  (∀ (s : State) (b : Fin 2) (a d : Bool), (s.bridge b.val).busy = true → s.fl.fle = 0 → (FaultCode.fleSingle, (if a then 0 else 1)) ∉ s.coll.conds →
    Ran (.fleComputeDone b a (!a) d) s fun t =>
      t.fl.fle = (if a then 2 else 1) ∧ bit (t.get O.DEG_MODES) 1 = true ∧ (t.bridge b.val).shadow = (s.bridge b.val).next ∧ (t.bridge b.val).busy = false ∧
      Reported s t .fleSingle (if a then 0 else 1) ∧ t.sys = s.sys ∧ t.hlm = s.hlm) ∧
  (∀ (s : State) (b : Fin 2), (s.bridge b.val).busy = true → s.fl.fle = 0 → (s.bridge b.val).differ = 0 → Ran (.fleComputeDone b false false true) s fun t =>
      t.bridge b.val = { s.bridge b.val with shadow := some (s.bridge b.val).duties, next := none, busy := false, differ := 1, equal := 0 } ∧
      t = { s with fl := { s.fl with br := t.fl.br } }) ∧
  (∀ (s : State) (b : Fin 2), (s.bridge b.val).busy = true → s.fl.fle = 0 → 1 ≤ (s.bridge b.val).differ → s.coll.mismatchLeft = none → firstFault s .fleMismatch →
    Ran (.fleComputeDone b false false true) s fun t => HeldC3 s t .fleMismatch 0 ∧ (t.bridge b.val).shadow = some (s.bridge b.val).duties) ∧
  (∀ (s : State) (b : Fin 2) (x y d : Bool), (s.bridge b.val).busy = true → (s.fl.fle = 1 ∧ x = true ∨ s.fl.fle = 2 ∧ y = true) → s.mem.test = none → firstFault s .fleMismatch →
    Ran (.fleComputeDone b x y d) s fun t => HeldC4 s t .fleMismatch (s.fl.fle - 1) ∧ (t.bridge b.val).next = none) ∧
  (∀ (s : State) (b : Fin 2), (s.bridge b.val).busy = true → (s.bridge b.val).shadow = none → s.driving b.val = true → (s.bridge b.val).overrun = 0 → Ran (.dutyLoadDeadline b) s fun t =>
      t.get O.OVERRUN_COUNT b.val = countNext (8 * O.OVERRUN_COUNT.ty.bytes) (s.getN O.OVERRUN_COUNT b.val) ∧
      t.bridge b.val = { s.bridge b.val with overrun := 1, inTime := 0, busy := false, next := none, late := true } ∧
      t = { s with vals := t.vals, fl := { s.fl with br := t.fl.br } } ∧ onlyVals [O.OVERRUN_COUNT.key b.val] s t) ∧
  (∀ (s : State) (b : Fin 2), (s.bridge b.val).busy = true → (s.bridge b.val).shadow = none → s.driving b.val = true → 1 ≤ (s.bridge b.val).overrun → firstFault s .fleOverrun →
    Ran (.dutyLoadDeadline b) s fun t => HeldC3 s t .fleOverrun b.val ∧ (t.bridge b.val).duties = (s.bridge b.val).duties) ∧
  (∀ (s : State) (b : Fin 2), (s.bridge b.val).shadow ≠ none → (s.bridge b.val).inTime < 99 → b.val < s.fl.br.length → Ran (.dutyLoadDeadline b) s fun t =>
      t.bridge b.val = { s.bridge b.val with overrun := 0, inTime := (s.bridge b.val).inTime + 1 } ∧ t = { s with fl := { s.fl with br := t.fl.br } })

/-- A torque, speed or ASC braking command taken in stands in its object, is seen by the Helmet and, in DRIVE with RUN_REQ set, restarts the command timer and ends a ramp; with RUN_REQ clear the ramp of the stop goes on (log entry 89). A solver step publishes a complete set, taking received process values first; it does nothing without a carrier. A command timeout in DRIVE is reported, ends ASC braking and starts the ramp. Pattern 2 of ASC braking changes sides. TRACE_CMD 1 arms an empty ring in a mode other than 0, 2 triggers an armed trace, 3 stops it. (07_field_loop.md Profile generator, 07_field_loop.md Operating-point solver, 07_field_loop.md Host command timeout, 07_field_loop.md ASC braking, 07_field_loop.md Trace) -/
def Obligations.HostCommandsSolverAndTrace : Prop :=
  (∀ (s : State) (r : Req) (m : Fin 2) (v : Word), writeRuns s r O.TORQUE_CMD m.val v.toNat → s.sys.dev = .run → s.ctrlBit 1 = false → (∀ d, (FaultCode.cmdTimeout, d) ∉ s.coll.conds) →
    m.val < s.hlm.machines.length → Ran (.torqueCmd r m v) s fun t =>
      t.get O.TORQUE_CMD m.val = (v.toNat : Nat) ∧ t.cmdT = { s.cmdT with timedOut := false } ∧ t.fl = s.fl ∧
      Answered t (reqId s r 0x02 (O.TORQUE_CMD.key m.val)) (.ok []) ∧ t.sys = s.sys ∧ t.isl = s.isl ∧ t.coll = s.coll ∧ t.pos = s.pos) ∧
  (∀ (s : State) (r : Req) (m : Fin 2) (v : Word), writeRuns s r O.TORQUE_CMD m.val v.toNat → s.sys.dev = .run → s.ctrlBit 1 = true → m.val ∈ s.machines → (∀ d, (FaultCode.cmdTimeout, d) ∉ s.coll.conds) →
    m.val < s.hlm.machines.length → Ran (.torqueCmd r m v) s fun t =>
      t.get O.TORQUE_CMD m.val = (v.toNat : Nat) ∧ t.cmdT = s.timerRestart ∧ (t.hlm.machines.getD m.val State.resetHlmMachine).lastCmd = some s.now ∧
      (∀ q ∈ t.fl.mach, q.ramp = none) ∧ Answered t (reqId s r 0x02 (O.TORQUE_CMD.key m.val)) (.ok []) ∧ t.sys = s.sys ∧ t.isl = s.isl ∧ t.coll = s.coll ∧ t.pos = s.pos) ∧
  (∀ (s : State) (r : Req) (m : Fin 2) (v : Word), writeRuns s r O.SPEED_CMD m.val v.toNat → s.sys.dev ≠ .run → (∀ d, (FaultCode.cmdTimeout, d) ∉ s.coll.conds) →
    m.val < s.hlm.machines.length → Ran (.speedCmd r m v) s fun t =>
      t.get O.SPEED_CMD m.val = (v.toNat : Nat) ∧ t.cmdT = { s.cmdT with timedOut := false } ∧ (t.hlm.machines.getD m.val State.resetHlmMachine).lastCmd = some s.now ∧ t.fl = s.fl ∧
      Answered t (reqId s r 0x02 (O.SPEED_CMD.key m.val)) (.ok []) ∧ t.sys = s.sys ∧ t.isl = s.isl ∧ t.coll = s.coll ∧ t.pos = s.pos) ∧
  (∀ (s : State) (r : Req) (m : Fin 2), writeRuns s r O.ASC_BRAKE_CMD m.val 1 → s.sys.dev = .run → s.ctrlBit 1 = true → m.val ∈ s.machines → s.mapSet = none → (∀ d, (FaultCode.cmdTimeout, d) ∉ s.coll.conds) →
    m.val < s.hlm.machines.length → Ran (.ascBrakeCmd r m 1) s fun t =>
      t.get O.ASC_BRAKE_CMD m.val = 1 ∧ t.cmdT = s.timerRestart ∧ (t.hlm.machines.getD m.val State.resetHlmMachine).brakeSeen = true ∧
      Answered t (reqId s r 0x02 (O.ASC_BRAKE_CMD.key m.val)) (.ok []) ∧ t.sys = s.sys ∧ t.isl = s.isl ∧ t.coll = s.coll) ∧
  (∀ (s : State) (r : Req) (m : Fin 2), writeRuns s r O.ASC_BRAKE_CMD m.val 1 → m.val ∈ s.machines → s.mapSet ≠ none → s.iShort m.val = none → Ran (.ascBrakeCmd r m 1) s fun t =>
      t.get O.ASC_BRAKE_CMD m.val = s.get O.ASC_BRAKE_CMD m.val ∧ Answered t (reqId s r 0x02 (O.ASC_BRAKE_CMD.key m.val)) (.abort 0x15) ∧ requestFrame s t) ∧
  (∀ (s : State) (m : Fin 2), (s.carrier = false ∨ m.val ∉ s.machines) → Ran (.solverStep m) s fun t => t = s) ∧
  (∀ (s : State) (m : Fin 2), s.carrier = true → m.val ∈ s.machines → s.sys.m1.inReset = true → s.sys.m1.lost = false → Ran (.solverStep m) s fun t => t = s) ∧
  (∀ (s : State) (m : Fin 2), s.carrier = true → m.val ∈ s.machines → s.sys.m1.inReset = false → (∀ q ∈ s.fl.mach, q.ramp = none) → m.val < s.fl.mach.length → Ran (.solverStep m) s fun t =>
      (t.mach m.val).pub.isSome = true ∧ (t.mach m.val).age = 0 ∧ (t.mach m.val).skipped = 0 ∧ t.dict.procVals = [] ∧ t.sys = s.sys ∧ t.isl = s.isl ∧ t.hlm = s.hlm ∧
      t.cmdT = s.cmdT ∧ t.pos = s.pos ∧ t.chg = s.chg ∧ t.out = s.out) ∧
  (∀ (s : State), (s.cmdT.running = false ∨ s.sys.dev ≠ .run) → Ran .cmdTimeout s fun t => t = s) ∧
  (∀ (s : State), s.cmdT.running = true → s.sys.dev = .run → s.charger = false → (FaultCode.cmdTimeout, 0) ∉ s.coll.conds → Ran .cmdTimeout s fun t =>
      t.cmdT = ⟨false, s.cmdT.since, true, false⟩ ∧ Reported s t .cmdTimeout 0 ∧ (∀ q ∈ t.fl.mach, q.ramp = some (q.x, s.now) ∧ (q.brake = .off ∨ q.brake = .spent)) ∧
      t.sys = s.sys ∧ t.isl = s.isl ∧ t.hlm = s.hlm) ∧
  (∀ (s : State), s.cmdT.running = true → s.sys.dev = .run → s.charger = true → s.get O.CHG_PHASE = 7 → (FaultCode.cmdTimeout, 0) ∉ s.coll.conds → Ran .cmdTimeout s fun t =>
      t.cmdT = ⟨false, s.cmdT.since, true, false⟩ ∧ Reported s t .cmdTimeout 0 ∧ t.chg = { s.chg with tmo := some (s.chg.iOutRef, s.now) } ∧ t.sys = s.sys ∧ t.isl = s.isl) ∧
  (∀ (s : State) (m : Fin 2) (h : Bool), (s.mach m.val).brake = .on h → s.get O.ASC_PATTERN = 2 → s.brakeBst m.val = false → m.val < s.fl.mach.length → Ran (.ascAlternate m) s fun t =>
      t.mach m.val = { s.mach m.val with brake := .on (!h) } ∧ t = { s with fl := { s.fl with mach := t.fl.mach } }) ∧
  (∀ (s : State) (m : Fin 2), s.get O.ASC_PATTERN ≠ 2 → Ran (.ascAlternate m) s fun t => t = s) ∧
  (∀ (s : State) (r : Req), writeRuns s r O.TRACE_CMD 0 1 → s.get O.TRACE_MODE ≠ 0 → Ran (.traceArm r) s fun t =>
      t.get O.TRACE_STATE = 1 ∧ t.fl.trace = State.resetTrace ∧ Answered t (reqId s r 0x02 (O.TRACE_CMD.key 0)) (.ok []) ∧
      requestFrame { s with fl := { s.fl with trace := t.fl.trace } } t) ∧
  (∀ (s : State) (r : Req), writeRuns s r O.TRACE_CMD 0 1 → s.get O.TRACE_MODE = 0 → Ran (.traceArm r) s fun t =>
      t.get O.TRACE_STATE = s.get O.TRACE_STATE ∧ Answered t (reqId s r 0x02 (O.TRACE_CMD.key 0)) (.ok []) ∧ requestFrame s t) ∧
  (∀ (s : State) (r : Req), writeRuns s r O.TRACE_CMD 0 2 → Ran (.traceForceTrigger r) s fun t =>
      t.fl.trace = { s.fl.trace with trig := s.fl.trace.trig || s.get O.TRACE_STATE == 1 } ∧ Answered t (reqId s r 0x02 (O.TRACE_CMD.key 0)) (.ok []) ∧
      requestFrame { s with fl := { s.fl with trace := t.fl.trace } } t) ∧
  (∀ (s : State) (r : Req), writeRuns s r O.TRACE_CMD 0 3 → Ran (.traceStop r) s fun t =>
      t.get O.TRACE_STATE = (if s.get O.TRACE_STATE = 3 then 3 else 0) ∧ t.fl.trace.ring = s.fl.trace.ring ∧ Answered t (reqId s r 0x02 (O.TRACE_CMD.key 0)) (.ok []) ∧
      requestFrame { s with fl := { s.fl with trace := t.fl.trace } } t)

/-- A verification of the staging bank makes it VALID with its set, or INVALID with its result and MAP_VERIFY_FAIL. ACTIVATE is refused outside STANDBY and READY, without a VALID bank, or with a set that does not fit; else ACTIVE_BANK is queued for its durable write. The check at start-up sets MAP_STATUS or reports MAP_ACTIVE_INVALID. The layer learns only where it may; a reset empties it, a save takes a snapshot that its completion stores, a delete removes the saved record. (07_field_loop.md Map store, 07_field_loop.md Correction layer, 07_field_loop.md Table 7.15) -/
def Obligations.MapBanksAndCorrections : Prop :=
  (∀ (s : State) (b : Fin 2) (ms : MapSet) (c : MapChecks), (s.staging ≠ b.val ∨ (s.bank b.val).state ≠ 2) → Ran (.mapVerifyDone b ms c) s fun t => t = s) ∧
  (∀ (s : State) (b : Fin 2) (ms : MapSet) (c : MapChecks), s.staging = b.val → (s.bank b.val).state = 2 → s.mapResult ms c = 0 → b.val < s.nv.banks.length →
    (∀ d, (FaultCode.mapVerifyFail, d) ∉ s.coll.conds) → Ran (.mapVerifyDone b ms c) s fun t =>
      t.bank b.val = ⟨3, some ms, 0, (s.bank b.val).image⟩ ∧ t.get O.BANK_STATE b.val = 3 ∧ t.get O.VERIFY_RESULT b.val = 0 ∧ t.get O.SET_VERSION b.val = (ms.setVersion : Nat) ∧
      t.nv.activeBank = s.nv.activeBank ∧ t.coll = s.coll ∧ t.sys = s.sys ∧ t.isl = s.isl ∧ t.hlm = s.hlm) ∧
  (∀ (s : State) (b : Fin 2) (ms : MapSet) (c : MapChecks), s.staging = b.val → (s.bank b.val).state = 2 → s.mapResult ms c ≠ 0 → b.val < s.nv.banks.length →
    (FaultCode.mapVerifyFail, b.val) ∉ s.coll.conds → Ran (.mapVerifyDone b ms c) s fun t =>
      t.bank b.val = ⟨4, none, s.mapResult ms c, (s.bank b.val).image⟩ ∧ t.get O.BANK_STATE b.val = 4 ∧ t.get O.VERIFY_RESULT b.val = (s.mapResult ms c : Nat) ∧
      Reported s t .mapVerifyFail b.val ∧ t.sys = s.sys ∧ t.isl = s.isl ∧ t.hlm = s.hlm) ∧
  (∀ (s : State) (r : Req), writeRuns s r O.ACTIVATE 0 1 → (s.charger = true ∨ s.sys.dev ≠ .standby ∧ s.sys.dev ≠ .ready ∨ (s.bank s.staging).state ≠ 3) → Ran (.activate r) s fun t =>
      Answered t (reqId s r 0x02 (O.ACTIVATE.key 0)) (.abort 0x16) ∧ requestFrame s t ∧ t.dict.persist = s.dict.persist) ∧
  (∀ (s : State) (r : Req) (ms : MapSet), writeRuns s r O.ACTIVATE 0 1 → s.charger = false → (s.sys.dev = .standby ∨ s.sys.dev = .ready) → (s.bank s.staging).state = 3 → s.fl.saving = none →
    (s.bank s.staging).set = some ms → s.setFits ms = false → Ran (.activate r) s fun t =>
      Answered t (reqId s r 0x02 (O.ACTIVATE.key 0)) (.abort 0x15) ∧ requestFrame s t ∧ t.nv = s.nv) ∧
  (∀ (s : State) (r : Req) (ms : MapSet), writeRuns s r O.ACTIVATE 0 1 → s.charger = false → (s.sys.dev = .standby ∨ s.sys.dev = .ready) → (s.bank s.staging).state = 3 → s.fl.saving = none →
    (s.bank s.staging).set = some ms → s.setFits ms = true → s.spent (O.ACTIVE_BANK.key 0) = false → s.dict.persist.length < 2 → Ran (.activate r) s fun t =>
      t.dict.persist = s.dict.persist ++ [⟨O.ACTIVE_BANK.key 0, s.staging, some (reqId s r 0x02 (O.ACTIVATE.key 0)), false, s.now⟩] ∧ t.nv = s.nv ∧ t.fl = s.fl ∧ t.out = s.out) ∧
  (∀ (s : State) (ok : Bool), s.fl.verifying = false → Ran (.activeBankVerifyDone ok) s fun t => t = s) ∧
  (∀ (s : State), s.fl.verifying = true → s.sys.runPending = false → Ran (.activeBankVerifyDone true) s fun t =>
      t.get O.MAP_STATUS = setBit (s.get O.MAP_STATUS) 1 true ∧ t = { s with vals := t.vals, fl := { s.fl with verifying := false } } ∧ onlyVals [O.MAP_STATUS.key 0] s t) ∧
  (∀ (s : State), s.fl.verifying = true → s.sys.runPending = false → (FaultCode.mapActiveInvalid, 0) ∉ s.coll.conds → Ran (.activeBankVerifyDone false) s fun t =>
      t.get O.MAP_STATUS = s.get O.MAP_STATUS ∧ Reported s t .mapActiveInvalid 0 ∧ reportFrame { s with fl := { s.fl with verifying := false } } t) ∧
  (∀ (s : State) (m : Fin 2) (x y : Rat), (s.getB O.CORR_ENABLE = false ∨ s.corrMay m.val = false) → s.fl.saving = none → Ran (.corrLearn m x y) s fun t =>
      t.get O.CORR_STATE = (if s.getB O.CORR_ENABLE then 2 else 0) ∧ onlyObjects [O.CORR_STATE.key 0] s t) ∧
  (∀ (s : State) (m : Fin 2) (x y : Rat), s.getB O.CORR_ENABLE = true → s.corrMay m.val = true → s.fl.saving = none → Ran (.corrLearn m x y) s fun t =>
      t.get O.CORR_STATE = 1 ∧ reportFrame { s with fl := { s.fl with corr := t.fl.corr } } t) ∧
  (∀ (s : State) (r : Req), writeRuns s r O.CORR_CMD 0 1 → (∀ d, (FaultCode.mapCorrLimit, d) ∉ s.coll.conds) → Ran (.corrReset r) s fun t =>
      t.fl.corr = [] ∧ t.mem.frozen = [] ∧ t.get O.CORR_LIMITED = 0 ∧ Answered t (reqId s r 0x02 (O.CORR_CMD.key 0)) (.ok []) ∧
      requestFrame { s with fl := { s.fl with corr := [] }, mem := { s.mem with frozen := [] } } t) ∧
  (∀ (s : State) (r : Req), writeRuns s r O.CORR_CMD 0 2 → s.sup.entering ≠ none → Ran (.corrSave r) s fun t =>
      Answered t (reqId s r 0x02 (O.CORR_CMD.key 0)) (.abort 0x16) ∧ requestFrame s t) ∧
  (∀ (s : State) (r : Req), writeRuns s r O.CORR_CMD 0 2 → s.sup.entering = none → Ran (.corrSave r) s fun t =>
      t.fl.saving = some ⟨(match s.mapSet with | some ms => ms.setId.toNat | none => 0), s.fl.corr⟩ ∧ t.get O.CORR_STATE = 3 ∧ t.nv = s.nv ∧
      Answered t (reqId s r 0x02 (O.CORR_CMD.key 0)) (.ok []) ∧ requestFrame { s with fl := { s.fl with saving := t.fl.saving } } t) ∧
  (∀ (s : State) (r : Req), writeRuns s r O.CORR_CMD 0 3 → Ran (.corrDelete r) s fun t =>
      t.nv = { s.nv with corr := none } ∧ t.get O.CORR_SAVED_ID = 0 ∧ t.fl.corr = s.fl.corr ∧ Answered t (reqId s r 0x02 (O.CORR_CMD.key 0)) (.ok [])) ∧
  (∀ (s : State), s.fl.saving = none → Ran .corrSaveDone s fun t => t = s) ∧
  (∀ (s : State) (c : CorrRec), s.fl.saving = some c → s.spent (O.CORR_DATA.key 0) = false → Ran .corrSaveDone s fun t =>
      t.nv.corr = some c ∧ t.fl.saving = none ∧ t.fl.corr = s.fl.corr ∧ t.get O.CORR_SAVED_ID = (c.setId : Nat) ∧ t.nv.banks = s.nv.banks ∧ t.sys = s.sys ∧ t.isl = s.isl)

/-- In traction RLY_CMD moves the fitted relays at once; in CHARGER it is only stored, and the outer loop moves the host relay. A feedback change without effect on the contact does nothing; one that a check waits for ends the check; one against the command is RLY_FB_UNEXP. A check that times out is RLY_CLOSE_FAIL or RLY_WELD, a driver short RLY_DRV_FAULT with the driver off. 5 ms after BLOCK every module relay is off. In phase 3 GRID_PRE opens after the overlap. (08_charger_mode.md Relay drivers, 08_charger_mode.md Table 8.5, 08_charger_mode.md Connecting and disconnecting, 08_charger_mode.md Table 8.10) -/
def Obligations.RelaysFollowTheirCommands : Prop :=
  (∀ (s : State) (r : Req) (v : Byte), writeRuns s r O.RLY_CMD 0 v.toNat → s.charger = false → Ran (.rlyCmd r v) s fun t =>
      t.get O.RLY_CMD = (v.toNat : Nat) ∧ (∀ k : Fin 8, bit (t.get O.RLY_OUT) k.val = (if s.fitted k.val then bit v.toNat k.val else bit (s.get O.RLY_OUT) k.val)) ∧
      Answered t (reqId s r 0x02 (O.RLY_CMD.key 0)) (.ok []) ∧ requestFrame { s with chg := { s.chg with checks := t.chg.checks } } t) ∧
  (∀ (s : State) (r : Req) (v : Byte), writeRuns s r O.RLY_CMD 0 v.toNat → s.charger = true → Ran (.rlyCmd r v) s fun t =>
      t.get O.RLY_CMD = (v.toNat : Nat) ∧ t.get O.RLY_OUT = s.get O.RLY_OUT ∧ Answered t (reqId s r 0x02 (O.RLY_CMD.key 0)) (.ok []) ∧ requestFrame s t) ∧
  (∀ (s : State) (k : Fin 8) (c : Bool), bit (s.get O.RLY_FB) k.val = (c != bit (s.get O.FB_SENSE) k.val) → Ran (.relayFeedbackChange k c) s fun t => t = s) ∧
  (∀ (s : State) (k : Fin 8) (c : Bool), bit (s.get O.RLY_FB) k.val ≠ (c != bit (s.get O.FB_SENSE) k.val) →
    (s.fitted k.val = false ∨ s.chg.checks.getD k.val none = none ∧ bit (s.get O.RLY_OUT) k.val = (c != bit (s.get O.FB_SENSE) k.val)) → Ran (.relayFeedbackChange k c) s fun t =>
      bit (t.get O.RLY_FB) k.val = (c != bit (s.get O.FB_SENSE) k.val) ∧ (∀ j : Fin 8, j ≠ k → bit (t.get O.RLY_FB) j.val = bit (s.get O.RLY_FB) j.val) ∧ onlyObjects [O.RLY_FB.key 0] s t) ∧
  (∀ (s : State) (k : Fin 8) (c : Bool), bit (s.get O.RLY_FB) k.val ≠ (c != bit (s.get O.FB_SENSE) k.val) → s.fitted k.val = true → s.get O.CHG_PHASE = 0 → s.chg.stop = .none →
    s.chg.checks.getD k.val none = some (c != bit (s.get O.FB_SENSE) k.val) → Ran (.relayFeedbackChange k c) s fun t =>
      t.chg = { s.chg with checks := s.chg.checks.set k.val none } ∧ bit (t.get O.RLY_FB) k.val = (c != bit (s.get O.FB_SENSE) k.val) ∧
      t = { s with vals := t.vals, chg := t.chg } ∧ onlyVals [O.RLY_FB.key 0] s t) ∧
  (∀ (s : State) (k : Fin 8) (c : Bool), bit (s.get O.RLY_FB) k.val ≠ (c != bit (s.get O.FB_SENSE) k.val) → s.fitted k.val = true → s.chg.checks.getD k.val none = none →
    bit (s.get O.RLY_OUT) k.val ≠ (c != bit (s.get O.FB_SENSE) k.val) → firstFault s .rlyFbUnexp → Ran (.relayFeedbackChange k c) s fun t =>
      HeldC3 s t .rlyFbUnexp k.val ∧ bit (t.get O.RLY_FB) k.val = (c != bit (s.get O.FB_SENSE) k.val)) ∧
  (∀ (s : State), s.get O.CHG_PHASE = 3 → bit (s.get O.RLY_FB) 0 = true → s.fitted 0 = true → s.get O.FB_SENSE = 0 → s.chg.checks.getD 0 none = some false →
    Ran (.relayFeedbackChange 0 false) s fun t =>
      t.get O.CHG_PHASE = 4 ∧ t.chg = { s.chg with checks := s.chg.checks.set 0 none, rampRef := s.fl.vdc.getD 0 0, rampFrom := s.now, x := 0 } ∧
      t = { s with vals := t.vals, chg := t.chg } ∧ onlyVals [O.RLY_FB.key 0, O.CHG_PHASE.key 0] s t) ∧
  (∀ (s : State) (k : Fin 8), s.chg.checks.getD k.val none = none → Ran (.relayCheckTimeout k) s fun t => t = s) ∧
  (∀ (s : State) (k : Fin 8), s.chg.checks.getD k.val none = some true → firstFault s .rlyCloseFail → Ran (.relayCheckTimeout k) s fun t =>
      HeldC4 s t .rlyCloseFail k.val ∧ t.chg.checks = s.chg.checks.set k.val none) ∧
  (∀ (s : State) (k : Fin 8), s.chg.checks.getD k.val none = some false → firstFault s .rlyWeld → Ran (.relayCheckTimeout k) s fun t =>
      HeldC4 s t .rlyWeld k.val ∧ t.chg.checks = s.chg.checks.set k.val none) ∧
  (∀ (s : State) (k : Fin 8), bit (s.get O.RLY_OUT) k.val = false → Ran (.relayDriverShort k) s fun t => t = s) ∧
  (∀ (s : State) (k : Fin 8), bit (s.get O.RLY_OUT) k.val = true → firstFault s .rlyDrvFault → Ran (.relayDriverShort k) s fun t =>
      HeldC4 s t .rlyDrvFault k.val ∧ bit (t.get O.RLY_OUT) k.val = false ∧ t.chg.checks = s.chg.checks.set k.val none) ∧
  (∀ (s : State), s.chg.blockRelays = true → Ran .blockRelayOff s fun t =>
      (∀ k : Fin 7, s.fitted k.val = true → bit (t.get O.RLY_OUT) k.val = false) ∧ bit (t.get O.RLY_OUT) 7 = bit (s.get O.RLY_OUT) 7 ∧ t.chg.blockRelays = false ∧
      t = { s with vals := t.vals, chg := { s.chg with checks := t.chg.checks, blockRelays := false } } ∧ onlyVals [O.RLY_OUT.key 0] s t) ∧
  (∀ (s : State), s.chg.blockRelays = false → Ran .blockRelayOff s fun t => t = s) ∧
  (∀ (s : State), s.get O.CHG_PHASE = 3 → bit (s.get O.RLY_FB) 1 = true → s.fitted 0 = true → Ran .rlyOverlapExpiry s fun t =>
      bit (t.get O.RLY_OUT) 0 = false ∧ (∀ k : Fin 8, k ≠ 0 → bit (t.get O.RLY_OUT) k.val = bit (s.get O.RLY_OUT) k.val) ∧
      t = { s with vals := t.vals, chg := { s.chg with checks := t.chg.checks } } ∧ onlyVals [O.RLY_OUT.key 0] s t) ∧
  (∀ (s : State), (s.get O.CHG_PHASE ≠ 3 ∨ bit (s.get O.RLY_FB) 1 = false) → Ran .rlyOverlapExpiry s fun t => t = s)

/-- A boundary latches the grid angle and frequency and sends MARK. The PLL reads locked after its time. A grid without a condition for GRID_OK_TIME is good, and phase 1 passes to precharge; the grid fault present after 10 s of phase 1 is raised. Precharge and output match that time out are faults with BLOCK. The DC ramp passes to output match or to conversion, a matched output to its contactors. A stop opens every relay and ends in READY. The outer loop takes received commands first and, switching, publishes a set. I_OUT_CMD restarts the timer; ENERGY_CLEAR zeroes the counters. (08_charger_mode.md Grid angle, 08_charger_mode.md Grid supervision, 08_charger_mode.md Table 8.7, 08_charger_mode.md Output control and limits, 08_charger_mode.md Connecting and disconnecting, 08_charger_mode.md Grid meter) -/
def Obligations.ChargerPhasesAndGrid : Prop :=
  (∀ (s : State) (g : GridSample), s.carrier = true → s.charger = true → s.sys.dev ≠ .run → s.dict.commits = [] → s.net.takeover = none → s.tracing = false →
    Ran (.controlPeriodBoundary 0 ⟨[], g⟩) s fun t =>
      t.chg.theta = g.theta % 65536 ∧ t.chg.vd = g.vd ∧ t.chg.vq = g.vq ∧ t.get O.GRID_FREQ = Ty.fit .u32 g.freq ∧ t.get O.NEG_SEQ = Ty.fit .u16 g.negSeq ∧
      t.get O.PERIOD_COUNT 0 = countNext (8 * O.PERIOD_COUNT.ty.bytes) (s.getN O.PERIOD_COUNT 0) ∧ (∀ n : IslIx, Sent.symbol n 0b101#3 ∈ t.out) ∧
      ((g.freq < 10 * s.get O.F_MIN ∨ 10 * s.get O.F_MAX < g.freq) → t.get O.PLL_STATE = 0) ∧ t.get O.CHG_PHASE = s.get O.CHG_PHASE ∧ t.sys.dev = s.sys.dev ∧ t.pos = s.pos) ∧
  (∀ (s : State), (s.charger = false ∨ s.chg.errRun ≠ 0 ∨ s.chg.freqFrom ≠ none) → Ran .gridPllLock s fun t => t = s) ∧
  (∀ (s : State), s.charger = true → s.chg.errRun = 0 → s.chg.freqFrom = none → s.sys.dev ≠ .run → Ran .gridPllLock s fun t =>
      t.get O.PLL_STATE = 1 ∧ bit (t.get O.GRID_STATUS) 4 = false ∧ (t.get O.GRID_STATUS ≠ 0 → t.chg.gridGood = false) ∧
      t = { s with vals := t.vals, chg := { s.chg with gridGood := t.chg.gridGood } } ∧ onlyVals [O.PLL_STATE.key 0, O.GRID_STATUS.key 0] s t) ∧
  (∀ (s : State), (s.charger = false ∨ s.gridConds.any id = true) → Ran .gridOkTimer s fun t => t = s) ∧
  (∀ (s : State), s.charger = true → s.gridConds.any id = false → s.get O.CHG_PHASE ≠ 1 → (∀ f ∈ gridCodes, s.coll.cond f = false) → Ran .gridOkTimer s fun t =>
      t = { s with chg := { s.chg with gridGood := true } }) ∧
  (∀ (s : State), s.charger = true → s.gridConds.any id = false → s.get O.CHG_PHASE = 1 → (∀ f ∈ gridCodes, s.coll.cond f = false) → s.get O.RLY_FB = 0 → s.fitted 0 = true →
    s.coll.cond .rlyWeld = false → Ran .gridOkTimer s fun t =>
      t.chg.gridGood = true ∧ t.get O.CHG_PHASE = 2 ∧ bit (t.get O.RLY_OUT) 0 = true ∧ (∀ k ∈ s.lineRelays, s.fitted k = true → bit (t.get O.RLY_OUT) k = true) ∧
      t.sys = s.sys ∧ t.isl = s.isl ∧ t.coll = s.coll) ∧
  (∀ (s : State), s.get O.CHG_PHASE ≠ 1 → Ran .gridCheckTimeout s fun t => t = s) ∧
  (∀ (s : State), s.charger = true → s.get O.CHG_PHASE = 1 → 2 ≤ s.chg.lossRun → firstFault s .gridLoss → Ran .gridCheckTimeout s fun t =>
      HeldC3 s t .gridLoss 0 ∧ t.get O.CHG_PHASE = 0 ∧ t.chg.blockRelays = true) ∧
  (∀ (s : State), s.get O.CHG_PHASE ≠ 2 → Ran .prechargeTimeout s fun t => t = s) ∧
  (∀ (s : State), s.charger = true → s.get O.CHG_PHASE = 2 → firstFault s .prechargeFail → Ran .prechargeTimeout s fun t =>
      HeldC4 s t .prechargeFail 0 ∧ t.get O.CHG_PHASE = 0 ∧ t.chg.blockRelays = true) ∧
  (∀ (s : State), s.get O.CHG_PHASE ≠ 4 → Ran .dcRampDone s fun t => t = s) ∧
  (∀ (s : State), s.get O.CHG_PHASE = 4 → Ran .dcRampDone s fun t =>
      t.get O.CHG_PHASE = (if s.contactors then 5 else 7) ∧ t.sys = s.sys ∧ t.isl = s.isl ∧ t.coll = s.coll ∧
      t.chg = (if s.contactors then { s.chg with matchI := 0, phi := 0, phiAct := 0 } else { s.chg with iOutRef := 0, xi := 0, cv := 0 })) ∧
  (∀ (s : State), (s.get O.CHG_PHASE ≠ 5 ∨ s.matched = false) → Ran .outMatchDone s fun t => t = s) ∧
  (∀ (s : State), s.get O.CHG_PHASE = 5 → s.matched = true → s.fitted 6 = true → s.coll.cond .rlyWeld = false → Ran .outMatchDone s fun t =>
      t.get O.CHG_PHASE = 6 ∧ bit (t.get O.RLY_OUT) 6 = true ∧ t = { s with vals := t.vals, chg := { s.chg with checks := t.chg.checks } }) ∧
  (∀ (s : State), s.get O.CHG_PHASE ≠ 5 → Ran .outMatchTimeout s fun t => t = s) ∧
  (∀ (s : State), s.charger = true → s.get O.CHG_PHASE = 5 → firstFault s .outMatchFail → Ran .outMatchTimeout s fun t =>
      HeldC3 s t .outMatchFail 0 ∧ t.get O.CHG_PHASE = 0 ∧ t.chg.blockRelays = true) ∧
  (∀ (s : State), s.chg.stop ≠ .waitCurrent → Ran .stopCurrentWait s fun t => t = s) ∧
  (∀ (s : State) (k : Nat), s.chg.stop = .waitCurrent → k < 7 → s.fitted k = true → bit (s.get O.RLY_FB) k = true → Ran .stopCurrentWait s fun t =>
      t.chg.stop = .opening ∧ t.chg.phi = 0 ∧ t.chg.phiAct = 0 ∧ t.chg.iOutRef = 0 ∧ (∀ j : Fin 7, s.fitted j.val = true → bit (t.get O.RLY_OUT) j.val = false) ∧
      t = { s with vals := t.vals, chg := t.chg } ∧ onlyVals [O.RLY_OUT.key 0, O.I_OUT_REF.key 0] s t) ∧
  (∀ (s : State), s.chg.stop = .waitCurrent → s.get O.RLY_FB = 0 → s.sys.dev = .run → s.ctrlBit 0 = true → Ran .stopCurrentWait s fun t =>
      t.chg.stop = .none ∧ t.get O.CHG_PHASE = 0 ∧ t.sys.dev = .ready ∧ t.cmdT.running = false ∧ t.sys.tokenOn = false ∧ t.coll.active = s.coll.active ∧ t.coll.pend = s.coll.pend) ∧
  (∀ (s : State), s.charger = false → Ran .outerLoopStep s fun t => t = s) ∧
  (∀ (s : State), s.charger = true → s.sys.dev ≠ .run → s.get O.CHG_PHASE = 0 → s.chg.stop ≠ .ramp → s.dict.procVals = [] → s.fitted 7 = true → Ran .outerLoopStep s fun t =>
      bit (t.get O.RLY_OUT) 7 = bit (s.get O.RLY_CMD) 7 ∧ (∀ k : Fin 7, bit (t.get O.RLY_OUT) k.val = bit (s.get O.RLY_OUT) k.val) ∧
      t = { s with vals := t.vals, chg := { s.chg with checks := t.chg.checks } }) ∧
  (∀ (s : State), s.chgSwitch = true → s.chg.stop = .none → s.get O.CHG_PHASE = 5 → s.dict.procVals = [] → s.fl.mach.length = 2 → Ran .outerLoopStep s fun t =>
      (t.mach 0).pub.isSome = true ∧ t.mach 1 = s.mach 1 ∧ t.sys = s.sys ∧ t.isl = s.isl ∧ t.get O.CHG_PHASE = 5 ∧ t.chg.stop = .none ∧ t.chg.iOutRef = s.chg.iOutRef) ∧
  (∀ (s : State) (r : Req) (v : Word), writeRuns s r O.I_OUT_CMD 0 v.toNat → s.charger = true → s.sys.dev = .run → s.get O.CHG_PHASE ≠ 8 → (FaultCode.cmdTimeout, 0) ∉ s.coll.conds →
    Ran (.iOutCmd r v) s fun t =>
      t.get O.I_OUT_CMD = (v.toNat : Nat) ∧ t.cmdT = s.timerRestart ∧ t.chg = { s.chg with tmo := none } ∧ Answered t (reqId s r 0x02 (O.I_OUT_CMD.key 0)) (.ok []) ∧
      requestFrame { s with cmdT := t.cmdT, chg := t.chg } t) ∧
  (∀ (s : State) (r : Req) (v : Word), writeRuns s r O.I_OUT_CMD 0 v.toNat → (s.charger = false ∨ s.sys.dev ≠ .run ∨ s.get O.CHG_PHASE = 8) → (FaultCode.cmdTimeout, 0) ∉ s.coll.conds → Ran (.iOutCmd r v) s fun t =>
      t.get O.I_OUT_CMD = (v.toNat : Nat) ∧ Answered t (reqId s r 0x02 (O.I_OUT_CMD.key 0)) (.ok []) ∧ requestFrame { s with cmdT := { s.cmdT with timedOut := false } } t) ∧
  (∀ (s : State) (r : Req), writeRuns s r O.ENERGY_CLEAR 0 1 → Ran (.energyClear r) s fun t =>
      t.get O.ENERGY_IMPORT = 0 ∧ t.get O.ENERGY_EXPORT = 0 ∧ t.chg = { s.chg with energyIn := 0, energyOut := 0 } ∧
      Answered t (reqId s r 0x02 (O.ENERGY_CLEAR.key 0)) (.ok []) ∧ requestFrame { s with chg := t.chg } t)

/-- A posted C1 or C2 code is reported and logged, five of them with their degraded mode; a C3 code holds the module in SAFE_HOLD, a C4 code in FAULT_LATCHED, ISL_VERIFY_FAIL keeping STANDBY; an overflow latches; a demand is C3 or C4 by RESTART; a rail failure resets the die. A code left by its condition leaves its list or, C3, its slot, ending SAFE_HOLD; C4 keeps its slot; codes that leave otherwise stay. A reset edge of the control word frees C4 slots whose condition has left, counts and shows its result. A held reset is reported. A record waiting is written or lost with LOG_WRITE_FAIL; a clear empties the region. (09_protection.md Classes and reactions, 09_protection.md The fault collector, 09_protection.md Table 9.3, 09_protection.md Fault and event log, 12_object_dictionary.md Table 12.9) -/
def Obligations.FaultsPostedLeftAndReset : Prop :=
  (∀ (s : State) (f : FaultCode) (d : Nat), s.alive = false → Ran (.faultPost f d) s fun t => t = s) ∧
  (∀ (s : State) (f : FaultCode) (d : Nat), s.alive = true → s.sys.dev.runs = true → f.cls ≤ 2 →
    f ∉ [FaultCode.fleSingle, .mainTakeover, .islOnBootstrap, .islDieIsolated, .canTakeover, .obsLost, .snsIlineLost, .encFail, .hallFail] → (f, d) ∉ s.coll.conds →
    Ran (.faultPost f d) s fun t => Reported s t f d ∧ reportFrame s t ∧ onlyVals [O.LOG_SUPPRESSED.key 0] s t) ∧
  (∀ (s : State) (f : FaultCode) (d b : Nat), s.alive = true → s.sys.dev.runs = true →
    (f, b) ∈ [(FaultCode.fleSingle, 1), (.mainTakeover, 0), (.islOnBootstrap, 6), (.islDieIsolated, 7), (.canTakeover, 8), (.obsLost, 3)] → (f, d) ∉ s.coll.conds →
    Ran (.faultPost f d) s fun t => Reported s t f d ∧ bit (t.get O.DEG_MODES) b = true ∧ reportFrame s t ∧ onlyVals [O.DEG_MODES.key 0, O.LOG_SUPPRESSED.key 0] s t) ∧
  (∀ (s : State) (f : FaultCode) (d : Nat), s.alive = true → firstFault s f → f.cls = 3 →
    f ∉ [FaultCode.fleMismatch, .rotorLost, .vinUv, .vddioFail, .siEoffDemand, .siHvilDemand, .siCoverDemand, .siAuxDemand] → Ran (.faultPost f d) s fun t => HeldC3 s t f d) ∧
  (∀ (s : State) (f : FaultCode) (d : Nat), s.alive = true → firstFault s f → f.cls = 4 → f ∉ [FaultCode.collectorOverflow, .islVerifyFail, .sramFail, .stFailHold] →
    Ran (.faultPost f d) s fun t => HeldC4 s t f d) ∧
  (∀ (s : State) (d : Nat), s.alive = true → firstFault s .islVerifyFail → s.sys.dev = .standby → Ran (.faultPost .islVerifyFail d) s fun t =>
      t.coll.active = some ⟨.islVerifyFail, 4, d⟩ ∧ t.sys.dev = .standby ∧ t.hlm.permit = false ∧ t.sys.tokenOn = false) ∧
  (∀ (s : State) (d : Nat), s.alive = true → s.sys.dev.running = true → Ran (.faultPost .collectorOverflow d) s fun t =>
      t.coll.overflow = true ∧ t.coll.active = s.coll.active ∧ t.coll.pend = s.coll.pend ∧ t.sys.dev = .faultLatched ∧ t.hlm.permit = false ∧ t.sys.tokenOn = false) ∧
  (∀ (s : State) (d : Nat), s.alive = true → firstFault s .siCoverDemand → Ran (.faultPost .siCoverDemand d) s fun t =>
      (if s.getB O.RESTART 2 then FailedSafe t .siCoverDemand 4 2 .faultLatched else FailedSafe t .siCoverDemand 3 2 .safeHold) ∧ faultFrame s t ∧
      t.get O.DEMAND_COUNT 2 = countNext (8 * O.DEMAND_COUNT.ty.bytes) (s.getN O.DEMAND_COUNT 2)) ∧
  (∀ (s : State) (d : Nat), s.alive = true → s.sys.dev.runs = true → calm s → Ran (.faultPost .railFail d) s fun t => DieReset s t 5) ∧
  (∀ (s : State) (f : FaultCode) (d : Nat), f.leave ∈ [LeaveKind.nextStart, .restart, .pair, .external] → Ran (.faultLeave f d) s fun t => t = s) ∧
  (∀ (s : State) (f : FaultCode) (d : Nat), s.sys.dev.runs = true → f.cls ≤ 2 → f.leave = .cond →
    f ∉ [FaultCode.spanRingOpen, .sramCe, .sramUe, .nvCe, .nvUe, .trngFail, .obsLost, .islOnBootstrap, .islDieIsolated] → soleCond s f d →
    Ran (.faultLeave f d) s fun t => Left t f d ∧ reportFrame s t ∧ t.vals = s.vals) ∧
  (∀ (s : State) (f : FaultCode) (d : Nat), s.sys.dev.runs = true → f.cls = 3 → f ∉ [FaultCode.vinUv, .vddioFail] → soleC3 s f d → Ran (.faultLeave f d) s fun t =>
      FaultOver t f d ∧ t.mem = s.mem ∧ t.clamps = s.clamps ∧ t.si = s.si ∧ t.out = s.out) ∧
  (∀ (s : State) (f : FaultCode) (d : Nat), s.sys.dev.runs = true → f.cls = 4 → f.leave = .cond → s.coll.active = some ⟨f, 4, d⟩ → s.coll.pend = none → s.coll.conds = [(f, d)] →
    Ran (.faultLeave f d) s fun t => t.coll = { s.coll with conds := [] } ∧ t = { s with coll := t.coll }) ∧
  (∀ (s : State) (r : Req) (w : Half) (f : FaultCode) (d : Nat), writeRuns s r O.CONTROL_WORD 0 w.toNat → (w.toNat : Int) = s.get O.CONTROL_WORD + 4 → w.getLsbD 2 = true → w.getLsbD 6 = false →
    ctlInconsistent w = false → s.sys.dev = .faultLatched → s.disch.held = false → s.coll.active = some ⟨f, 4, d⟩ → s.coll.pend = none → s.coll.overflow = false → onlySafeRst f = false → f ≠ .clampFail → f ≠ .dcOv2 →
    (f.leave = .edge ∨ s.coll.cond f = false) → Ran (.faultReset r w) s fun t =>
      emptyColl t ∧ t.sys.dev ≠ .faultLatched ∧ t.get O.RESET_RESULT = 0 ∧ t.get O.RESET_EDGES = countNext (8 * O.RESET_EDGES.ty.bytes) (s.getN O.RESET_EDGES) ∧
      t.get O.CONTROL_WORD = (w.toNat : Nat) ∧ Answered t (reqId s r 0x02 (O.CONTROL_WORD.key 0)) (.ok [])) ∧
  (∀ (s : State) (r : Req) (w : Half) (f : FaultCode) (d : Nat), writeRuns s r O.CONTROL_WORD 0 w.toNat → (w.toNat : Int) = s.get O.CONTROL_WORD + 4 → w.getLsbD 2 = true → w.getLsbD 6 = false →
    ctlInconsistent w = false → s.sys.dev = .faultLatched → s.coll.active = some ⟨f, 4, d⟩ → s.coll.pend = none → s.coll.overflow = false → f ≠ .clampFail → f ≠ .dcOv2 →
    (onlySafeRst f = true ∨ f.leave ≠ .edge ∧ s.coll.cond f = true) → s.quietLatch ⟨f, 4, d⟩ = false → Ran (.faultReset r w) s fun t =>
      t.coll.active = s.coll.active ∧ t.sys.dev = .faultLatched ∧ t.get O.RESET_RESULT = 1 ∧ t.get O.CONTROL_WORD = (w.toNat : Nat) ∧
      Answered t (reqId s r 0x02 (O.CONTROL_WORD.key 0)) (.ok [])) ∧
  (∀ (s : State), s.sys.dev.runs = true → (FaultCode.resetHeld, 0) ∉ s.coll.conds → Ran (.resetHeldTimeout .safeRst) s fun t => Reported s t .resetHeld 0 ∧ reportFrame s t) ∧
  (∀ (s : State), s.sys.dev.runs = true → (FaultCode.resetHeld, 1) ∉ s.coll.conds → Ran (.resetHeldTimeout .controlWord) s fun t => Reported s t .resetHeld 1 ∧ reportFrame s t) ∧
  (∀ (s : State) (ok : Bool), s.log.waiting = [] → Ran (.logWrite ok) s fun t => t = s) ∧
  (∀ (s : State) (x : LogRec) (l : List LogRec), s.log.waiting = x :: l → s.log.records.length < 262144 → (FaultCode.logWriteFail, 0) ∉ s.coll.conds → Ran (.logWrite true) s fun t =>
      t = { s with log := { s.log with waiting := l, records := s.log.records ++ [x] } }) ∧
  (∀ (s : State) (x : LogRec) (l : List LogRec), s.log.waiting = x :: l → (FaultCode.logWriteFail, 0) ∉ s.coll.conds → Ran (.logWrite false) s fun t =>
      t.log.records = s.log.records ∧ Reported s t .logWriteFail 0 ∧ reportFrame s t) ∧
  (∀ (s : State) (r : Req), writeRuns s r O.LOG_CLEAR 0 1 → Ran (.logClear r) s fun t =>
      t.log = { s.log with records := [] } ∧ Answered t (reqId s r 0x02 (O.LOG_CLEAR.key 0)) (.ok []) ∧ requestFrame { s with log := t.log } t)

/-- DISCH_CMD 1 from READY enters DISCHARGE with the paths selected, from STANDBY it first starts the islands, in a safe state it uses the clamps only; elsewhere, or while one runs, it is refused. DISCH_REQ in the control word does the same. DISCH_CMD 2 ends it as stopped. The path check leaves a discharge alone whose islands still start, keeps a path that falls enough and ends the discharge as failed when none is left. The time limit ends it as failed with DISCH_FAIL. (09_protection.md Active discharge, 12_object_dictionary.md Table 12.9) -/
def Obligations.ActiveDischarge : Prop :=
  (∀ (s : State) (r : Req), writeRuns s r O.DISCH_CMD 0 1 → (s.disch.running = true ∨ s.sys.dev = .run ∨ s.sys.dev = .service ∨ s.sys.dev = .discharge) → Ran (.dischStart r) s fun t =>
      Answered t (reqId s r 0x02 (O.DISCH_CMD.key 0)) (.abort 0x16) ∧ requestFrame s t) ∧
  (∀ (s : State) (r : Req), writeRuns s r O.DISCH_CMD 0 1 → s.disch.running = false → s.disch.inSafe = false → s.sys.dev = .ready → Ran (.dischStart r) s fun t =>
      t.sys.dev = .discharge ∧ t.disch.running = true ∧ t.disch.startAt = s.now ∧ (t.disch.clampOn = true ∨ t.disch.windings = true) ∧ (s.get O.DISCH_PATH = 1 → s.windingsOk = true → t.disch.clampOn = false ∧ t.get O.DISCH_STATE = 3) ∧
      (s.windingsOk = false → t.disch.clampOn = true ∧ t.disch.windings = false ∧ t.get O.DISCH_STATE = 2) ∧ Answered t (reqId s r 0x02 (O.DISCH_CMD.key 0)) (.ok []) ∧ t.coll.active = s.coll.active) ∧
  (∀ (s : State) (r : Req), writeRuns s r O.DISCH_CMD 0 1 → s.disch.running = false → (s.sys.dev = .safeHold ∨ s.sys.dev = .faultLatched) → Ran (.dischStart r) s fun t =>
      t.sys = s.sys ∧ t.disch.running = true ∧ t.disch.inSafe = true ∧ t.disch.clampOn = true ∧ t.disch.windings = false ∧ t.get O.DISCH_STATE = 2 ∧
      Answered t (reqId s r 0x02 (O.DISCH_CMD.key 0)) (.ok []) ∧ requestFrame { s with disch := t.disch } t) ∧
  (∀ (s : State) (r : Req), writeRuns s r O.DISCH_CMD 0 1 → s.disch.running = false → s.sys.dev = .standby → s.readyAllowed = true → s.mem.test = none → Ran (.dischStart r) s fun t =>
      t.sys.dev = .discharge ∧ t.sys.back = .standby ∧ t.disch.running = true ∧ t.disch.clampOn = false ∧ t.get O.DISCH_STATE = 1 ∧ t.get O.CONFIG_ACTIVE = s.get O.CONFIG ∧
      t.sup.readyPhase ≠ .idle ∧ Answered t (reqId s r 0x02 (O.DISCH_CMD.key 0)) (.ok [])) ∧
  (∀ (s : State) (r : Req), writeRuns s r O.DISCH_CMD 0 1 → s.disch.running = false → s.sys.dev = .standby → s.readyAllowed = false → Ran (.dischStart r) s fun t =>
      Answered t (reqId s r 0x02 (O.DISCH_CMD.key 0)) (.abort 0x16) ∧ requestFrame s t) ∧
  (∀ (s : State) (r : Req), writeRuns s r O.DISCH_CMD 0 2 → s.disch.running = false → Ran (.dischStop r) s fun t =>
      Answered t (reqId s r 0x02 (O.DISCH_CMD.key 0)) (.ok []) ∧ requestFrame s t) ∧
  (∀ (s : State) (r : Req), writeRuns s r O.DISCH_CMD 0 2 → s.disch.running = true → s.sys.dev = .discharge → s.sys.back ≠ .standby → s.ctrlBit 0 = true → Ran (.dischStop r) s fun t =>
      t.sys.dev = .ready ∧ t.disch = State.resetDisch ∧ t.get O.DISCH_STATE = 0 ∧ t.sys.tokenOn = (s.sys.tokenOn && s.catching) ∧
      Answered t (reqId s r 0x02 (O.DISCH_CMD.key 0)) (.ok [])) ∧
  (∀ (s : State) (r : Req) (w : Half), writeRuns s r O.CONTROL_WORD 0 w.toNat → (w.toNat : Int) = s.get O.CONTROL_WORD + 8 → w.getLsbD 3 = true → w.getLsbD 6 = false → ctlInconsistent w = false →
    s.disch.running = false → s.sys.dev = .ready → w.getLsbD 0 = true → Ran (.dischReq r w) s fun t =>
      t.sys.dev = .discharge ∧ t.disch.running = true ∧ t.disch.startAt = s.now ∧ t.get O.CONTROL_WORD = (w.toNat : Nat) ∧ Answered t (reqId s r 0x02 (O.CONTROL_WORD.key 0)) (.ok [])) ∧
  (∀ (s : State) (r : Req) (w : Half), writeRuns s r O.CONTROL_WORD 0 w.toNat → s.ctrlBit 3 = false → w.getLsbD 3 = true → w.getLsbD 6 = false → ctlInconsistent w = false →
    s.disch.running = true → s.sys.dev ≠ .standby → Ran (.dischReq r w) s fun t =>
      t.get O.LAST_REFUSAL = 0x16 ∧ t.get O.CONTROL_WORD = s.get O.CONTROL_WORD ∧ Answered t (reqId s r 0x02 (O.CONTROL_WORD.key 0)) (.abort 0x16) ∧ requestFrame s t) ∧
  (∀ (s : State), (s.disch.running = false ∨ s.get O.DISCH_STATE = 1) → Ran .dischPathCheck s fun t => t = s) ∧
  (∀ (s : State), s.disch.running = true → s.get O.DISCH_STATE ≠ 1 → s.disch.clampOn = true → s.disch.windings = false → s.get O.DISCH_PATH ≠ 2 → firstFault s .dischFail →
    Ran .dischPathCheck s fun t =>
      (s.clampPathBad = false → t.disch = s.disch ∧ t.coll = s.coll ∧ t.sys.dev = s.sys.dev ∧ t.vals = s.vals) ∧
      (s.clampPathBad = true → FailedSafe t .dischFail 4 0 .faultLatched ∧ t.disch.running = s.disch.wanted ∧ t.get O.DISCH_STATE = (if s.disch.running && t.disch.running then 2 else 5))) ∧
  (∀ (s : State), s.disch.running = false → Ran .dischTimeout s fun t => t = s) ∧
  (∀ (s : State), s.disch.running = true → firstFault s .dischFail → Ran .dischTimeout s fun t =>
      HeldC4 s t .dischFail 0 ∧ t.disch = State.resetDisch ∧ t.get O.DISCH_STATE = 5) ∧
  (∀ (s : State) (d : Nat), firstFault s .islUvlo → s.sys.dev = .discharge → s.disch.running = true → s.disch.clampOn = false → s.disch.clampBad = false →
    s.disch.wanted = false → Ran (.faultPost .islUvlo d) s fun t =>
      FailedSafe t .islUvlo 3 d .safeHold ∧ t.disch.running = true ∧ t.disch.held = true ∧ t.disch.clampOn = true ∧ t.disch.windings = false ∧ t.get O.DISCH_STATE = 2) ∧
  (∀ (s : State) (d : Nat), s.sys.dev = .safeHold → s.disch.held = true → s.coll.active = some ⟨.islUvlo, 3, d⟩ → s.coll.pend = none → s.coll.overflow = false →
    s.coll.conds.filter (fun x => x.1 == FaultCode.islUvlo) = [(.islUvlo, d)] → Ran (.faultLeave .islUvlo d) s fun t =>
      emptyColl t ∧ t.sys.dev = .safeHold ∧ t.disch = s.disch) ∧
  (∀ (s : State) (r : Req), writeRuns s r O.DISCH_CMD 0 2 → s.disch.running = true → s.disch.held = true → emptyColl s → s.sys.dev = .safeHold → s.sys.back = .ready →
    s.ctrlBit 0 = true → Ran (.dischStop r) s fun t =>
      t.sys.dev = .ready ∧ t.disch = State.resetDisch ∧ t.get O.DISCH_STATE = 0 ∧ Answered t (reqId s r 0x02 (O.DISCH_CMD.key 0)) (.ok [])) ∧
  (∀ (s : State), s.disch.windings = true → s.windingsOk = false → s.disch.clampOn = false → s.disch.clampBad = false →
    s.dischWatch.disch.windings = false ∧ s.dischWatch.disch.clampOn = true ∧ s.dischWatch.disch.running = s.disch.running ∧ s.dischWatch.get O.DISCH_STATE = 2 ∧
    s.dischWatch.sys.dev = s.sys.dev)

/-- Without an enabled evaluator a sample is only counted, and SAFE_RST is debounced over 100 samples. An evaluator out of start-up demand whose filtered pair shows demand posts its code, C3 or C4 by RESTART. A test pulse masks the channels of its output; a level that contradicts the pulse is SI_TEST_FAIL as C4. An HVIL cycle stores currents and cause. A complete test passes every enabled evaluator or fails the one named. A SAFE_RST pulse outside 50 ms to 3 s, or begun before SI_READY, is only measured; an accepted one frees a C4 slot whose condition has left. The Helmet read writes its choice to the powered islands. (10_safety_inputs.md Channel filtering and demand, 10_safety_inputs.md Demands while running, 10_safety_inputs.md Test pulses, 10_safety_inputs.md SAFE_RST, 10_safety_inputs.md Table 10.2, 10_safety_inputs.md Table 10.3) -/
def Obligations.SafetyInputEvaluators : Prop :=
  (∀ (s : State) (l : BitVec 6) (r : Bool), s.alive = false → Ran (.siSample l r) s fun t => t = s) ∧
  (∀ (s : State) (l : BitVec 6), s.alive = true → (∀ e : Fin 4, s.getB O.ENABLE e.val = false) → s.pins.safeRst = false → Ran (.siSample l false) s fun t =>
      t.si = { s.si with n := s.si.n + 1, rstRaw := false, rstHeld := if s.si.rstRaw then 1 else s.si.rstHeld + 1 } ∧ t = { s with si := t.si }) ∧
  (∀ (s : State) (l : BitVec 6), s.alive = true → (∀ e : Fin 4, s.getB O.ENABLE e.val = false) → s.pins.safeRst = false → s.si.rstRaw = true → 99 ≤ s.si.rstHeld →
    Ran (.siSample l true) s fun t =>
      t.pins = { s.pins with safeRst := true } ∧ t.si = { s.si with n := s.si.n + 1, rstHeld := s.si.rstHeld + 1, rstBad := !s.getB O.SI_READY } ∧ t = { s with si := t.si, pins := t.pins }) ∧
  (∀ (s : State) (l : BitVec 6), s.alive = true → (∀ e : Fin 4, s.getB O.ENABLE e.val = decide (e.val = 0)) → (s.ev 0).startup = false → (s.ev 0).posted = false → (s.ev 0).disc = .none →
    l.getLsbD 0 = false → l.getLsbD 1 = false → (s.ev 0).a.filt = false → (s.ev 0).b.filt = false → (s.ev 0).a.raw = false → (s.ev 0).b.raw = false →
    (s.ev 0).a.changes = [] → (s.ev 0).b.changes = [] → (s.ev 0).a.chatter = false → (s.ev 0).b.chatter = false → s.get O.SENSE_FIXED 0 = 0 → s.getB O.DISCH_ON_EOFF = false →
    s.si.evs.length = 4 → s.pins.safeRst = false → firstFault s .siEoffDemand → Ran (.siSample l false) s fun t =>
      (if s.getB O.RESTART 0 then FailedSafe t .siEoffDemand 4 0 .faultLatched else FailedSafe t .siEoffDemand 3 0 .safeHold) ∧ (t.ev 0).posted = true ∧
      t.get O.DEMAND_COUNT 0 = countNext (8 * O.DEMAND_COUNT.ty.bytes) (s.getN O.DEMAND_COUNT 0) ∧ t.get O.CH_LEVEL 0 = 0) ∧
  (∀ (s : State) (b : Bool), s.alive = false → Ran (.testPulse b) s fun t => t = s) ∧
  (∀ (s : State) (b : Bool), s.alive = true → Ran (.testPulse b) s fun t =>
      t.si.pulse = some b ∧ (∀ e : Fin 4, e.val < s.si.evs.length → t.ev e.val = (if e.val = 1 then s.ev 1 else if b then { s.ev e.val with b := { (s.ev e.val).b with maskTo := s.si.n + 25 } }
        else { s.ev e.val with a := { (s.ev e.val).a with maskTo := s.si.n + 25 } })) ∧ t = { s with si := { s.si with pulse := some b, evs := t.si.evs } }) ∧
  (∀ (s : State) (seen : BitVec 6), s.si.pulse = none → Ran (.testPulseEnd seen) s fun t => t = s) ∧
  (∀ (s : State) (seen : BitVec 6) (b : Bool), s.si.pulse = some b → (∀ e ∈ [((0 : Nat), (0 : Nat)), (2, 2), (3, 4)], s.getB O.ENABLE e.1 = true →
      pulseKind (!b) (s.ev e.1).a.filt (seen.getLsbD e.2) = none ∧ pulseKind b (s.ev e.1).b.filt (seen.getLsbD (e.2 + 1)) = none) → Ran (.testPulseEnd seen) s fun t =>
      t = { s with si := { s.si with pulse := none } }) ∧
  (∀ (s : State) (seen : BitVec 6), s.si.pulse = some false → (∀ e : Fin 4, s.getB O.ENABLE e.val = decide (e.val = 2)) → (s.ev 2).a.filt = true → (s.ev 2).b.filt = false →
    seen.getLsbD 2 = true → seen.getLsbD 3 = false → s.si.evs.length = 4 → firstFault s .siTestFail → (FaultCode.siTestFail, siDetail 2 0 1) ∉ s.coll.conds → Ran (.testPulseEnd seen) s fun t =>
      FailedSafe t .siTestFail 4 (siDetail 2 0 1) .faultLatched ∧ (t.ev 2).failed = true ∧ t.si.pulse = none) ∧
  (∀ (s : State) (x y z : Nat) (lim : Bool), (s.alive = false ∨ s.getB O.ENABLE 1 = false) → Ran (.hvilCycle x y z lim) s fun t => t = s) ∧
  (∀ (s : State) (x y z : Nat) (lim : Bool), s.alive = true → s.getB O.ENABLE 1 = true → Ran (.hvilCycle x y z lim) s fun t =>
      t.get O.HVIL_CAUSE = (hvilCause (100 * s.get O.HVIL_I_SET) x y z lim : Nat) ∧ t.get O.HVIL_I_OUT = Ty.fit .u16 x ∧ t.get O.HVIL_I_RET = Ty.fit .u16 y ∧
      t.si.hvA = (decide (5 * absI (x - 100 * s.get O.HVIL_I_SET) ≤ 100 * s.get O.HVIL_I_SET) && !lim) ∧
      t.si.hvB = (hvilCause (100 * s.get O.HVIL_I_SET) x y z lim == 0 || !t.si.hvA) ∧ t = { s with vals := t.vals, si := { s.si with hvA := t.si.hvA, hvB := t.si.hvB } } ∧
      onlyVals [O.HVIL_CAUSE.key 0, O.HVIL_I_OUT.key 0, O.HVIL_I_RET.key 0] s t) ∧
  (∀ (s : State) (l : List SiFail), (s.alive = false ∨ s.getB O.SI_READY = false ∨ s.get O.TP_PERIOD = 0) → Ran (.completeTest l) s fun t => t = s) ∧
  (∀ (s : State), s.alive = true → s.getB O.SI_READY = true → s.get O.TP_PERIOD ≠ 0 → (∀ d, (FaultCode.siTestFail, d) ∉ s.coll.conds) → s.si.evs.length = 4 → Ran (.completeTest []) s fun t =>
      (∀ e : Fin 4, t.ev e.val = (if s.getB O.ENABLE e.val then { s.ev e.val with tested := true, repaired := true } else s.ev e.val)) ∧ t = { s with si := { s.si with evs := t.si.evs } }) ∧
  (∀ (s : State) (f : SiFail), s.alive = true → s.getB O.SI_READY = true → s.get O.TP_PERIOD ≠ 0 → s.getB O.ENABLE f.ev.val = true → (∀ d, (FaultCode.siTestFail, d) ∉ s.coll.conds) →
    s.si.evs.length = 4 → firstFault s .siTestFail → Ran (.completeTest [f]) s fun t =>
      FailedSafe t .siTestFail 4 (siDetail f.ev.val f.ch f.kind) .faultLatched ∧ (t.ev f.ev.val).failed = true ∧ (t.ev f.ev.val).repaired = false) ∧
  (∀ (s : State) (ms : Nat), s.alive = true → (ms < 50 ∨ 3000 < ms ∨ s.si.rstBad = true ∨ s.getB O.SI_READY = false ∨ s.sys.dev.runs = false) → (FaultCode.resetHeld, 0) ∉ s.coll.conds →
    Ran (.safeRstEdge ms) s fun t =>
      t.get O.RST_LAST_WIDTH = (min ms 65535 : Nat) ∧ t.pins = { s.pins with safeRst := false } ∧ t.coll = s.coll ∧ t.get O.RST_ACCEPTED = s.get O.RST_ACCEPTED ∧
      t.si = { s.si with rstRaw := false, rstHeld := 100, rstBad := false } ∧ t = { s with vals := t.vals, pins := t.pins, si := t.si }) ∧
  (∀ (s : State) (ms : Nat) (f : FaultCode) (d : Nat), s.alive = true → 50 ≤ ms → ms ≤ 3000 → s.si.rstBad = false → s.getB O.SI_READY = true → (FaultCode.resetHeld, 0) ∉ s.coll.conds →
    s.sys.dev = .faultLatched → s.disch.held = false → s.coll.active = some ⟨f, 4, d⟩ → s.coll.pend = none → s.coll.overflow = false → f ≠ .clampFail → f ≠ .dcOv2 → demandOf f = none →
    (f.leave = .edge ∨ s.coll.cond f = false) → Ran (.safeRstEdge ms) s fun t =>
      emptyColl t ∧ t.sys.dev ≠ .faultLatched ∧ t.get O.RST_LAST_WIDTH = (ms : Nat) ∧ t.get O.RESET_RESULT = 0 ∧
      t.get O.RST_ACCEPTED = countNext (8 * O.RST_ACCEPTED.ty.bytes) (s.getN O.RST_ACCEPTED) ∧ t.get O.RESET_EDGES = countNext (8 * O.RESET_EDGES.ty.bytes) (s.getN O.RESET_EDGES)) ∧
  (∀ (s : State), (s.alive = false ∨ s.hlm.stopped = true) → Ran .helmetEvaluatorRead s fun t => t = s) ∧
  (∀ (s : State), s.alive = true → s.hlm.stopped = false → Ran .helmetEvaluatorRead s fun t =>
      (∀ n : IslIx, n.val < s.isl.length → (s.island n).live = true → (t.island n).preload = t.hlm.choice) ∧ t.hlm.preCount = s.hlm.preCount + 1 ∧
      (s.siStartup = true → t.hlm.permit = false) ∧ t.sys.dev = s.sys.dev ∧ t.si = s.si ∧ t.pins = s.pins ∧ t.coll.active = s.coll.active) ∧
  (∀ (s : State) (e : Fin 4), s.sys.dev.serves = true → s.si.retest = [e.val] → s.si.evs.length = 4 → (∀ k : Fin 4, s.getB O.ENABLE k.val = decide (k = e)) →
    (∀ d, (FaultCode.siTestFail, d) ∉ s.coll.conds) → s.quiet e.val = false → Ran (.siStartupTestDone []) s fun t =>
      t.ev e.val = { s.ev e.val with tested := true, repaired := true } ∧ (∀ k : Fin 4, k ≠ e → t.ev k.val = s.ev k.val) ∧ t.si.retest = [] ∧
      t = { s with si := { s.si with evs := t.si.evs, retest := [] } }) ∧
  (∀ (n flt : Nat) (dem raw : Bool) (c : SiChan), c.maskTo < n → 8 ≤ ((c.changes.filter fun t => decide (n ≤ t + flt)).length) →
    (c.sample n flt dem raw).chatter = true ∧ (c.sample n flt dem raw).filt = dem)

/-- A corrected word is counted with its address and reported. An uncorrectable one is counted and reported; read by the DMA it stops the channel, in the correction region its eight cells become 0 and are frozen, in an FLE region that instance leaves service. A violation is counted and restarts the pair. The scrubber counts words, and passes at the end. A descriptor starts an idle channel, or ends with STATUS 7 when it is bad. A beat within the rights copies its bytes, leaves every other byte of the SRAM as it was and ends the descriptor at its length; a fault stops the channel with its STATUS, and a beat outside the rights is blocked. (11_memory_selftest.md SRAM, 11_memory_selftest.md DMA, 11_memory_selftest.md Table 11.1, 11_memory_selftest.md Table 11.5, 11_memory_selftest.md Table 11.6) -/
def Obligations.MemoryErrorsAndDma : Prop :=
  (∀ (s : State) (m : Fin 48) (a : Nat), s.alive = true → (FaultCode.sramCe, a) ∉ s.coll.conds → Ran (.sramCe m a) s fun t =>
      t.get O.SRAM_CE_COUNT = countNext (8 * O.SRAM_CE_COUNT.ty.bytes) (s.getN O.SRAM_CE_COUNT) ∧ t.get O.LAST_CE_ADDR = Ty.fit .u32 a ∧ Reported s t .sramCe a ∧ reportFrame s t ∧
      onlyVals [O.SRAM_CE_COUNT.key 0, O.LAST_CE_ADDR.key 0, O.LOG_SUPPRESSED.key 0] s t) ∧
  (∀ (s : State) (m : Fin 48) (a : Nat), s.alive = false → Ran (.sramCe m a) s fun t => t = s) ∧
  (∀ (s : State) (m : Fin 48) (a : Nat) (p : MainPair), s.alive = true → (36 ≤ m.val ∧ m.val < 40 ∨ 46 ≤ m.val) → (FaultCode.sramUe, a) ∉ s.coll.conds → Ran (.sramUe m a (.main p)) s fun t =>
      t.get O.SRAM_UE_COUNT = countNext (8 * O.SRAM_UE_COUNT.ty.bytes) (s.getN O.SRAM_UE_COUNT) ∧ t.get O.LAST_UE_ADDR = Ty.fit .u32 a ∧ Reported s t .sramUe a ∧ reportFrame s t) ∧
  (∀ (s : State) (m : Fin 48) (a : Nat) (p : MainPair), s.alive = true → 40 ≤ m.val → m.val < 44 → (FaultCode.sramUe, a) ∉ s.coll.conds → Ran (.sramUe m a (.main p)) s fun t =>
      (∀ k : Fin 8, cellOf t.fl.corr ((m.val - 40) * 262144 + a % 262144 / 8 * 8 + k.val) = 0 ∧ (m.val - 40) * 262144 + a % 262144 / 8 * 8 + k.val ∈ t.mem.frozen) ∧
      (∀ i ∈ s.mem.frozen, i ∈ t.mem.frozen) ∧ Reported s t .sramUe a ∧ t.mem.cells = s.mem.cells ∧ t.sys = s.sys ∧ t.isl = s.isl ∧ t.hlm = s.hlm) ∧
  (∀ (s : State) (m : Fin 48) (a : Nat) (p : MainPair), s.alive = true → 24 ≤ m.val → m.val < 28 → s.fl.fle = 0 → (FaultCode.sramUe, a) ∉ s.coll.conds →
    (FaultCode.fleSingle, (if m.val < 26 then 0 else 1)) ∉ s.coll.conds → Ran (.sramUe m a (.main p)) s fun t =>
      t.fl.fle = (if m.val < 26 then 2 else 1) ∧ bit (t.get O.DEG_MODES) 1 = true ∧ (FaultCode.sramUe, a) ∈ t.coll.conds ∧ Reported s t .fleSingle (if m.val < 26 then 0 else 1) ∧ t.sys = s.sys ∧ t.mem = s.mem) ∧
  (∀ (s : State) (m : Fin 48) (a : Nat) (c : Fin 16), s.alive = true → (s.dma c.val).run = true → (s.dma c.val).desc = none → c ≠ 7 → (FaultCode.sramUe, a) ∉ s.coll.conds →
    (FaultCode.dmaError, c.val) ∉ s.coll.conds → Ran (.sramUe m a (.dma c)) s fun t =>
      t.dma c.val = { s.dma c.val with run := false, status := 1, bad := true } ∧ t.get O.DMA_LAST_STOP = (c.val * 256 + 1 : Nat) ∧ (FaultCode.dmaError, c.val) ∈ t.coll.conds ∧
      t.get O.DMA_ERRORS = countNext (8 * O.DMA_ERRORS.ty.bytes) (s.getN O.DMA_ERRORS) ∧ t.mem.cells = s.mem.cells ∧ (∀ k : Fin 16, k ≠ c → t.dma k.val = s.dma k.val) ∧ t.sys = s.sys) ∧
  (∀ (s : State) (w : Master) (a : Nat), s.alive = false → Ran (.mpuViolation w a) s fun t => t = s) ∧
  (∀ (s : State) (p : MainPair) (a : Nat), s.alive = true → s.sys.lastPairLost = false → s.pair p = ⟨false, false, 0, false, none⟩ → (s.pair (otherPair p)).lost = false →
    (s.pair (otherPair p)).inReset = false → emptyColl s → (s.sys.dev = .run ∨ s.sys.dev = .ready ∨ s.sys.dev = .standby) → s.charger = false →
    Ran (.mpuViolation (.main p) a) s fun t =>
      t.get O.MPU_VIOLATIONS = countNext (8 * O.MPU_VIOLATIONS.ty.bytes) (s.getN O.MPU_VIOLATIONS) ∧ t.pair p = ⟨true, true, 1, false, some .mpuViolation⟩ ∧
      t.coll.active = some ⟨.mpuViolation, 5, a⟩ ∧ t.hlm.permit = false ∧ t.sys.tokenOn = false ∧ t.sys.dev = s.sys.dev ∧ bit (t.get O.RESET_CAUSE) (8 + pairNum p) = true ∧
      t.pins = s.pins ∧ t.clamps = s.clamps ∧ t.si = s.si ∧ t.out = s.out) ∧
  (∀ (s : State), s.alive = true → s.mem.scrubbed + 1 < 1572864 → Ran .scrubStep s fun t => t = { s with mem := { s.mem with scrubbed := s.mem.scrubbed + 1 } }) ∧
  (∀ (s : State), s.alive = true → 1572863 ≤ s.mem.scrubbed → Ran .scrubStep s fun t =>
      t.get O.SCRUB_PASSES = countNext (8 * O.SCRUB_PASSES.ty.bytes) (s.getN O.SCRUB_PASSES) ∧ t.get O.SCRUB_PASS_TIME = Ty.fit .u32 ((s.now - s.mem.scrubFrom) / 1000 : Nat) ∧
      t = { s with vals := t.vals, mem := { s.mem with scrubbed := 0, scrubFrom := s.now } } ∧ onlyVals [O.SCRUB_PASSES.key 0, O.SCRUB_PASS_TIME.key 0] s t) ∧
  (∀ (s : State) (c : Fin 16) (d : DmaDesc), (s.alive = false ∨ (s.dma c.val).run = true) → Ran (.dmaDescriptorStart c d) s fun t => t = s) ∧
  (∀ (s : State) (c : Fin 16) (d : DmaDesc), s.alive = true → (s.dma c.val).run = false → s.mem.dma.length = 16 → descBad d = false → Ran (.dmaDescriptorStart c d) s fun t =>
      t.dma c.val = { s.dma c.val with run := true, desc := some d, done := 0 } ∧ (∀ k : Fin 16, k ≠ c → t.dma k.val = s.dma k.val) ∧ t = { s with mem := { s.mem with dma := t.mem.dma } }) ∧
  (∀ (s : State) (c : Fin 16) (x : Option (Fin 4)), ((s.dma c.val).desc = none ∨ (s.dma c.val).run = false) → Ran (.dmaBeat c x) s fun t => t = s) ∧
  (∀ (s : State) (c : Fin 16) (d : DmaDesc) (n : Nat), s.mem.wf = true → (s.dma c.val).run = true → (s.dma c.val).desc = some d → n = beatBytes d.ctrl → d.ctrl.getLsbD 4 = false → d.ctrl.getLsbD 5 = false →
    d.src + (s.dma c.val).done + n ≤ 12582912 → d.dst + (s.dma c.val).done + n ≤ 12582912 → beatMay dmaWrites (d.dst + (s.dma c.val).done) n = true →
    beatMay (fun a => dmaReads (macroOf a)) (d.src + (s.dma c.val).done) n = true → (s.dma c.val).done + n < d.len → Ran (.dmaBeat c none) s fun t =>
      (∀ i : Nat, i < n → t.sram (d.dst + (s.dma c.val).done + i) = s.sram (d.src + (s.dma c.val).done + i)) ∧
      (∀ a : Nat, (a < d.dst + (s.dma c.val).done ∨ d.dst + (s.dma c.val).done + n ≤ a) → t.sram a = s.sram a) ∧
      t.dma c.val = { s.dma c.val with done := (s.dma c.val).done + n } ∧ (∀ k : Fin 16, k ≠ c → t.dma k.val = s.dma k.val) ∧
      t = { s with freeIx := s.freeIx + 1, mem := { s.mem with cells := t.mem.cells, dma := t.mem.dma } }) ∧
  (∀ (s : State) (c : Fin 16) (d : DmaDesc) (n : Nat), s.mem.wf = true → (s.dma c.val).run = true → (s.dma c.val).desc = some d → n = beatBytes d.ctrl → d.ctrl.getLsbD 4 = false → d.ctrl.getLsbD 5 = true → d.ctrl.getLsbD 7 = false →
    d.src + (s.dma c.val).done + n ≤ 12582912 → d.dst + n ≤ 12582912 → beatMay dmaWrites d.dst n = true → beatMay (fun a => dmaReads (macroOf a)) (d.src + (s.dma c.val).done) n = true →
    d.len ≤ (s.dma c.val).done + n → (FaultCode.dmaError, c.val) ∉ s.coll.conds → Ran (.dmaBeat c none) s fun t =>
      (∀ i : Nat, i < n → t.sram (d.dst + i) = s.sram (d.src + (s.dma c.val).done + i)) ∧ (∀ a : Nat, (a < d.dst ∨ d.dst + n ≤ a) → t.sram a = s.sram a) ∧
      (t.dma c.val).run = false ∧ (t.dma c.val).desc = none ∧ (t.dma c.val).status = 0 ∧ (t.dma c.val).bad = false ∧ t.vals = s.vals ∧ t.coll = s.coll) ∧
  (∀ (s : State) (c : Fin 16) (d : DmaDesc), (s.dma c.val).run = true → (s.dma c.val).desc = some d → d.ctrl.getLsbD 7 = false → c ≠ 7 → (FaultCode.dmaError, c.val) ∉ s.coll.conds →
    Ran (.dmaBeat c (some 3)) s fun t =>
      t.dma c.val = { s.dma c.val with run := false, desc := none, status := 4, bad := true } ∧ t.get O.DMA_LAST_STOP = (c.val * 256 + 4 : Nat) ∧ Reported s t .dmaError c.val ∧
      t.mem.cells = s.mem.cells ∧ reportFrame { s with mem := { s.mem with dma := t.mem.dma } } t) ∧
  (∀ (s : State) (c : Fin 16) (d : DmaDesc), (s.dma c.val).run = true → (s.dma c.val).desc = some d → d.ctrl.getLsbD 7 = false → c ≠ 7 → beatMay dmaWrites (d.dst + (if d.ctrl.getLsbD 5 then 0 else (s.dma c.val).done)) (beatBytes d.ctrl) = false →
    Ran (.dmaBeat c none) s fun t =>
      (t.dma c.val).run = false ∧ (t.dma c.val).status = 2 ∧ t.get O.MPU_VIOLATIONS = countNext (8 * O.MPU_VIOLATIONS.ty.bytes) (s.getN O.MPU_VIOLATIONS) ∧ ∀ a : Nat, t.sram a = s.sram a)

/-- For every idle channel and descriptor: where the descriptor is misaligned to 32 bytes, its LEN is no multiple of the beat size, or a reserved bit of CTRL is set, the start of the descriptor leaves the channel stopped with STATUS 7 before any beat, every byte of the SRAM outside the descriptor own DONE and STATUS words is as before (with write-back off, every byte), and a beat on the channel afterwards changes nothing. (R414) -/
def Obligations.DescriptorsAreChecked : Prop :=
  (∀ (s : State) (c : Fin 16) (d : DmaDesc), s.alive = true → (s.dma c.val).run = false → s.mem.dma.length = 16 →
    (d.addr % 32 ≠ 0 ∨ d.len % beatBytes d.ctrl ≠ 0 ∨ d.ctrl.toNat / 65536 ≠ 0 ∨ d.ctrl.toNat / 4 % 4 ≠ 0) → Ran (.dmaDescriptorStart c d) s fun t =>
      (t.dma c.val).status = 7 ∧ (t.dma c.val).run = false ∧ (t.dma c.val).desc = none ∧ t.get O.DMA_LAST_STOP = (c.val * 256 + 7 : Nat) ∧
      (∀ a : Nat, (a < d.addr + 0x14 ∨ d.addr + 0x1C ≤ a ∨ d.ctrl.getLsbD 7 = false) → t.sram a = s.sram a) ∧
      (∀ k : Fin 16, k ≠ c → t.dma k.val = s.dma k.val) ∧ (∀ x : Option (Fin 4), exec (.dmaBeat c x) t = .next t) ∧
      t = { s with vals := t.vals, mem := { s.mem with cells := t.mem.cells, dma := t.mem.dma } } ∧ onlyVals [O.DMA_LAST_STOP.key 0] s t)

/-- A durable write that reads back is in the log, in force or staged, and replied; a first failure is retried, a second is PERS_WRITE_FAIL with an abort. NV operations are counted by result, and the next waiting one is served. A compaction is counted with the highest erase count; the operating time is recorded. A rotation slot takes its instance out, or counts a skip. A test that ends passes, fails or is INCOMPLETE and returns its instance; one overdue is reported. A request runs in STANDBY, is refused for an unknown test or a low level; an abort needs a test on request; the march counts its blocks. (11_memory_selftest.md NV die, 11_memory_selftest.md Persistent objects, 11_memory_selftest.md Self-test, 11_memory_selftest.md Table 11.8, 11_memory_selftest.md Table 11.11) -/
def Obligations.DurableWritesAndSelfTests : Prop :=
  (∀ (s : State) (ok : Bool), s.dict.persist = [] → Ran (.persistentWriteDone ok) s fun t => t = s) ∧
  (∀ (s : State) (w : PendPersist) (l : List PendPersist) (o : Obj) (p : Nat), s.dict.persist = w :: l → w.req = none → findObj w.key = some (o, p) → o.grp ≠ 0 → w.key ≠ O.ACTIVE_BANK.key 0 →
    s.spent w.key = false → (FaultCode.persWriteFail, 0) ∉ s.coll.conds → Ran (.persistentWriteDone true) s fun t =>
      t.dict.persist = l ∧ t.staged.find? (o.key p) = some w.val ∧ t.nv = s.nv.commitRec w.key w.val ∧
      t = { s with vals := t.vals, staged := t.staged, nv := t.nv, dict := { s.dict with persist := l } } ∧ onlyVals [O.PERS_TIME_MAX.key 0] s t) ∧
  (∀ (s : State) (w : PendPersist) (l : List PendPersist) (o : Obj) (p : Nat), s.dict.persist = w :: l → w.req = none → findObj w.key = some (o, p) → o.grp = 0 → w.key ≠ O.ACTIVE_BANK.key 0 →
    w.key ≠ O.PERS_TIME_MAX.key 0 → s.spent w.key = false → (FaultCode.persWriteFail, 0) ∉ s.coll.conds → Ran (.persistentWriteDone true) s fun t =>
      t.dict.persist = l ∧ t.get o p = w.val ∧ t.nv = s.nv.commitRec w.key w.val ∧ t.staged = s.staged ∧ onlyVals [o.key p, O.PERS_TIME_MAX.key 0] s t) ∧
  (∀ (s : State) (w : PendPersist) (l : List PendPersist), s.dict.persist = w :: l → w.retried = false → Ran (.persistentWriteDone false) s fun t =>
      t = { s with dict := { s.dict with persist := { w with retried := true } :: l } }) ∧
  (∀ (s : State) (w : PendPersist) (l : List PendPersist) (id : ReqId), s.dict.persist = w :: l → w.retried = true → w.req = some id → (FaultCode.persWriteFail, 0) ∉ s.coll.conds →
    Ran (.persistentWriteDone false) s fun t =>
      t.dict.persist = l ∧ Reported s t .persWriteFail 0 ∧ Answered t id (.abort 0x17) ∧ t.nv = s.nv ∧ t.staged = s.staged ∧ t.sys = s.sys) ∧
  (∀ (s : State) (k : NvKind), s.alive = true → Ran (.nvOperationDone k .ok) s fun t => t = { s with mem := { s.mem with serving := t.mem.serving } } ∧
      (s.dict.persist ≠ [] → t.mem.serving = some .persist) ∧ (s.dict.persist = [] → s.log.waiting ≠ [] → t.mem.serving = some .eventLog)) ∧
  (∀ (s : State) (k : NvKind), s.alive = true → (FaultCode.nvCe, 0) ∉ s.coll.conds → Ran (.nvOperationDone k .corrected) s fun t =>
      t.get O.NV_CE_COUNT = countNext (8 * O.NV_CE_COUNT.ty.bytes) (s.getN O.NV_CE_COUNT) ∧ Reported s t .nvCe 0 ∧ t.sys = s.sys ∧ t.nv = s.nv) ∧
  (∀ (s : State), s.alive = true → s.nv.activeBank ≠ none → (FaultCode.nvUe, 0) ∉ s.coll.conds → firstFault s .mapReadErr → Ran (.nvOperationDone .readActive .uncorrectable) s fun t =>
      t.get O.NV_UE_COUNT = countNext (8 * O.NV_UE_COUNT.ty.bytes) (s.getN O.NV_UE_COUNT) ∧ (FaultCode.nvUe, 0) ∈ t.coll.conds ∧ FailedSafe t .mapReadErr 4 0 .faultLatched ∧ t.nv.banks.map (fun b => b.set) = s.nv.banks.map (fun b => b.set)) ∧
  (∀ (s : State) (m : Nat), Ran (.compactionDone [] m) s fun t =>
      t.nv = { s.nv with eraseMax := max s.nv.eraseMax m } ∧ t.get O.PERS_COMPACTIONS = countNext (8 * O.PERS_COMPACTIONS.ty.bytes) (s.getN O.PERS_COMPACTIONS) ∧
      t = { s with vals := t.vals, nv := t.nv } ∧ onlyVals [O.PERS_COMPACTIONS.key 0] s t) ∧
  (∀ (s : State), s.spent (O.OP_TIME.key 0) = false → Ran .opTimeSave s fun t =>
      t.nv.opTime = s.opTime ∧ t.nv.writesOf (O.OP_TIME.key 0) = s.nv.writesOf (O.OP_TIME.key 0) + 1 ∧ t = { s with nv := t.nv }) ∧
  (∀ (s : State), (s.sys.dev.serves = false ∨ s.rotates = false) → Ran .rotationSlot s fun t => t = s) ∧
  (∀ (s : State) (k : Nat), s.sys.dev.serves = true → s.rotates = true → s.get O.ROT_NEXT = (32 + k : Nat) → k < 12 → s.outOfRotation (32 + k) = false → s.mem.test = none → s.mem.linkSpare = none →
    s.applyingSafe = false → Ran .rotationSlot s fun t =>
      t.mem = { s.mem with test := some ⟨32 + k, false, 0⟩ } ∧ t.get O.RESULT (32 + k) = 4 ∧ t.get O.ROT_NEXT = (if k = 11 then 4 else 33 + k : Nat) ∧ t = { s with vals := t.vals, mem := t.mem } ∧
      onlyVals [O.ROT_NEXT.key 0, O.RESULT.key (32 + k)] s t) ∧
  (∀ (s : State), s.sys.dev.serves = true → s.rotates = true → s.outOfRotation (s.getN O.ROT_NEXT) = false → s.mem.test ≠ none → Ran .rotationSlot s fun t =>
      t.get O.ROT_SKIPPED = countNext (8 * O.ROT_SKIPPED.ty.bytes) (s.getN O.ROT_SKIPPED) ∧ t.get O.ROT_NEXT = (rotAfter (s.getN O.ROT_NEXT) : Nat) ∧
      onlyObjects [O.ROT_NEXT.key 0, O.ROT_SKIPPED.key 0] s t) ∧
  (∀ (s : State) (n sig cyc det : Nat) (cut mis : Bool), s.mem.test = none → Ran (.selftestDone n sig cyc det cut mis) s fun t => t = s) ∧
  (∀ (s : State) (k sig cyc det b : Nat), s.mem.test = some ⟨32 + k, false, b⟩ → k < 12 → s.dict.commits = [] → Ran (.selftestDone (32 + k) sig cyc det true false) s fun t =>
      t.get O.RESULT (32 + k) = 3 ∧ t.mem = { s.mem with test := none } ∧ t.get O.RUN_COUNT (32 + k) = countNext (8 * O.RUN_COUNT.ty.bytes) (s.getN O.RUN_COUNT (32 + k)) ∧
      t = { s with vals := t.vals, mem := t.mem }) ∧
  (∀ (s : State) (k sig cyc det b : Nat), s.mem.test = some ⟨32 + k, false, b⟩ → k < 12 → s.dict.commits = [] → s.mem.linkSpare = none → (FaultCode.stFail, 32 + k) ∉ s.coll.conds →
    (FaultCode.stOverdue, 32 + k) ∉ s.coll.conds → Ran (.selftestDone (32 + k) sig cyc det false false) s fun t =>
      t.mem.test = none ∧ (s.testOk (32 + k) sig cyc = true → t.get O.RESULT (32 + k) = 1 ∧ (32 + k, s.now) ∈ t.mem.passAt ∧ t.coll = s.coll) ∧
      (s.testOk (32 + k) sig cyc = false → t.get O.RESULT (32 + k) = 2 ∧ t.mem.failed = s.mem.failed ++ [32 + k] ∧ t.mem.linkSpare = some k ∧ Reported s t .stFail (32 + k)) ∧ t.sys = s.sys ∧ t.isl = s.isl) ∧
  (∀ (s : State) (n : Nat), s.sys.dev.serves = true → n ∈ rotOrder → s.outOfRotation n = false → s.mem.passAt = [] → s.sup.startAt + 30000000 ≤ s.now → (FaultCode.stOverdue, n) ∉ s.coll.conds →
    Ran (.stOverdue n) s fun t => Reported s t .stOverdue n ∧ reportFrame s t) ∧
  (∀ (s : State) (n : Nat), n ∉ rotOrder → Ran (.stOverdue n) s fun t => t = s) ∧
  (∀ (s : State) (r : Req) (n : Byte), writeRuns s r O.ST_REQUEST 0 n.toNat → destructive n.toNat = true → s.levelOf r.port r.session = some .srv → Ran (.stRequest r n) s fun t =>
      Answered t (reqId s r 0x02 (O.ST_REQUEST.key 0)) (.abort 0x12) ∧ requestFrame s t) ∧
  (∀ (s : State) (r : Req) (n : Byte), writeRuns s r O.ST_REQUEST 0 n.toNat → testExists n.toNat = false → Ran (.stRequest r n) s fun t =>
      Answered t (reqId s r 0x02 (O.ST_REQUEST.key 0)) (.abort 0x15) ∧ requestFrame s t) ∧
  (∀ (s : State) (r : Req), writeRuns s r O.ST_REQUEST 0 1 → s.sys.dev = .standby → s.sup.readyPhase = .idle → s.sup.entering = none → s.mem.test = none → 1 ∉ s.mem.failed →
    Ran (.stRequest r 1) s fun t =>
      t.mem = { s.mem with test := some ⟨1, true, 0⟩ } ∧ t.get O.RESULT 1 = 4 ∧ Answered t (reqId s r 0x02 (O.ST_REQUEST.key 0)) (.ok []) ∧ requestFrame { s with mem := t.mem } t) ∧
  (∀ (s : State) (r : Req), writeRuns s r O.ST_ABORT 0 1 → s.requested = false → Ran (.stAbort r) s fun t =>
      Answered t (reqId s r 0x02 (O.ST_ABORT.key 0)) (.abort 0x16) ∧ requestFrame s t) ∧
  (∀ (s : State) (r : Req) (b : Nat), writeRuns s r O.ST_ABORT 0 1 → s.mem.test = some ⟨1, true, b⟩ → Ran (.stAbort r) s fun t =>
      t.mem = { s.mem with test := none } ∧ t.get O.RESULT 1 = 3 ∧ Answered t (reqId s r 0x02 (O.ST_ABORT.key 0)) (.ok []) ∧ t.sys = s.sys) ∧
  (∀ (s : State) (q : Bool) (b : Nat), s.mem.test = some ⟨1, q, b⟩ → b < 24576 → Ran .marchBlock s fun t => t = { s with mem := { s.mem with test := some ⟨1, q, b + 1⟩ } }) ∧
  (∀ (s : State), s.mem.test = none → Ran .marchBlock s fun t => t = s)

/-- For each of the sixteen COMMITs: when the request is taken in, the checks of its group pass, no carrier runs and no test runs, every staged value of the group is in force afterwards and no longer staged (SPAN_NODE apart, which stays staged until the next start-up), and the request is answered. The queue, the time, the pins, the SRAM and the NV content are as before. (12_object_dictionary.md Groups and COMMIT, 12_object_dictionary.md Table 12.4, 10_safety_inputs.md Objects, 13_networks_span.md Objects) -/
def Obligations.CommitsPutValuesInForce : Prop :=
  (∀ (s : State) (r : Req) (n : IslIx) (i : Instr) (o : Obj) (p : Nat) (isls : List IslIx) (chk : State → Option Nat), (i, o, p, isls, chk) ∈
     ([(.tempCommit r, O.COMMIT_2A20, 0, [], tempCheck), (.islandGlobalCommit r, O.COMMIT_260F, 0, allIslands, fun _ => none),
      (.islandCommit r n, O.COMMIT_ISL, n.val, [n], fun _ => none), (.sensingCommit r, O.COMMIT_25FF, 0, lowIslands, sensingCheck),
      (.positionCommit r, O.COMMIT_24FF, 0, [], positionCheck), (.limitCommit r, O.COMMIT_21FF, 0, [], fun _ => none),
      (.fieldLoopCommit r, O.COMMIT_22FF, 0, [], fieldCheckAll), (.solverCommit r, O.COMMIT_23FF, 0, [], fun _ => none),
      (.traceCommit r, O.COMMIT_2EFF, 0, [], traceCheck ((s.levelOf r.port r.session).getD .opr)), (.chargerCommit r, O.COMMIT_29FF, 0, [], chargerCheck),
      (.protectionCommit r true, O.COMMIT_27FF, 0, [], protectionCheck), (.selftestCommit r, O.COMMIT_2BFF, 0, [], fun _ => none),
      (.mappingCommit r, O.COMMIT_20FF, 0, [], mappingCheck)] : List (Instr × Obj × Nat × List IslIx × (State → Option Nat))) →
    commitsNow s r o p → chk (atBody s r o p) = none → Ran i s fun t => InForce s t r o p ∧ outsideCommit s t) ∧
  (∀ (s : State) (r : Req), commitsNow s r O.COMMIT_11FF 0 → netCheck (atBody s r O.COMMIT_11FF 0) = none → (∀ x ∈ s.sec.sessions, portCode x.port ≠ 2) →
    Ran (.netCommit r) s fun t => InForce s t r O.COMMIT_11FF 0 ∧ outsideCommit s t ∧
      (t.net.failedCh = none → t.get O.HOST_CH_ACTIVE = t.get O.HOST_CH)) ∧
  (∀ (s : State) (r : Req), commitsNow s r O.COMMIT_2CFF 0 → spanCheck (atBody s r O.COMMIT_2CFF 0) = none → s.staged.find? (O.SPAN_NODE.key 0) = none →
    Ran (.spanCommit r) s fun t => InForce s t r O.COMMIT_2CFF 0 ∧ outsideCommit s t) ∧
  (∀ (s : State) (r : Req) (v : Int), commitsNow s r O.COMMIT_2CFF 0 → spanCheck (atBody s r O.COMMIT_2CFF 0) = none → s.staged.find? (O.SPAN_NODE.key 0) = some v →
    v ≠ s.get O.SPAN_NODE → Ran (.spanCommit r) s fun t => t.get O.SPAN_NODE = s.get O.SPAN_NODE ∧ t.getStaged O.SPAN_NODE = v ∧ outsideCommit s t) ∧
  (∀ (s : State) (r : Req), commitsNow s r O.COMMIT_28FF 0 → (∀ e ∈ s.si.evs, e.posted = false) →
    Ran (.siCommit r true) s fun t => InForce s t r O.COMMIT_28FF 0 ∧ t.pending = s.pending ∧ t.now = s.now ∧ t.pins = s.pins ∧ t.mem = s.mem ∧
      ∀ e < 4, e < s.si.evs.length → siChanged s t e = true → (t.ev e).startup = true ∧ (t.ev e).tested = false)

/-- For each of the sixteen COMMITs: when the request is taken in and the checks of its group pass while a carrier runs, no value of the group changes yet and none leaves the staging; the COMMIT is queued last with the values staged, waits for every island concerned, to each of which a CFG frame is due, and no reply is sent. (12_object_dictionary.md Groups and COMMIT, 04_gate_drive_islands.md The Rillys link) -/
def Obligations.CommitsWaitForTheBoundary : Prop :=
  ∀ (s : State) (r : Req) (n : IslIx) (i : Instr) (o : Obj) (p : Nat) (isls : List IslIx) (chk : State → Option Nat), (i, o, p, isls, chk) ∈
     ([(.tempCommit r, O.COMMIT_2A20, 0, [], tempCheck), (.islandGlobalCommit r, O.COMMIT_260F, 0, allIslands, fun _ => none),
      (.islandCommit r n, O.COMMIT_ISL, n.val, [n], fun _ => none), (.sensingCommit r, O.COMMIT_25FF, 0, lowIslands, sensingCheck),
      (.positionCommit r, O.COMMIT_24FF, 0, [], positionCheck), (.limitCommit r, O.COMMIT_21FF, 0, [], fun _ => none),
      (.fieldLoopCommit r, O.COMMIT_22FF, 0, [], fieldCheckAll), (.solverCommit r, O.COMMIT_23FF, 0, [], fun _ => none),
      (.traceCommit r, O.COMMIT_2EFF, 0, [], traceCheck ((s.levelOf r.port r.session).getD .opr)), (.chargerCommit r, O.COMMIT_29FF, 0, [], chargerCheck),
      (.protectionCommit r true, O.COMMIT_27FF, 0, [], protectionCheck), (.selftestCommit r, O.COMMIT_2BFF, 0, [], fun _ => none),
      (.mappingCommit r, O.COMMIT_20FF, 0, [], mappingCheck),
      (.netCommit r, O.COMMIT_11FF, 0, [], netCheck), (.spanCommit r, O.COMMIT_2CFF, 0, [], spanCheck), (.siCommit r true, O.COMMIT_28FF, 0, [], fun _ => none)]
        : List (Instr × Obj × Nat × List IslIx × (State → Option Nat))) →
    commitsLater s r o p → chk (atBody s r o p) = none → Ran i s fun t => Deferred s t r o p isls ∧ outsideCommit s t

/-- For each COMMIT with checks: when the request is taken in and a check of its group fails, the request is refused with the abort code of that check, the staged values stay staged and no value of the group changes. A protection or safety-input COMMIT whose copy in the SAFE domain has a wrong CRC is refused with ABORT_HARDWARE. (12_object_dictionary.md Groups and COMMIT, 12_object_dictionary.md Table 12.5, 09_protection.md Helmet monitoring, 10_safety_inputs.md Objects) -/
def Obligations.CommitsRefuseBadValues : Prop :=
  (∀ (s : State) (r : Req) (i : Instr) (o : Obj) (chk : State → Option Nat) (c : Nat), (i, o, chk) ∈
     ([(.tempCommit r, O.COMMIT_2A20, tempCheck), (.sensingCommit r, O.COMMIT_25FF, sensingCheck), (.positionCommit r, O.COMMIT_24FF, positionCheck),
       (.fieldLoopCommit r, O.COMMIT_22FF, fieldCheckAll), (.traceCommit r, O.COMMIT_2EFF, traceCheck ((s.levelOf r.port r.session).getD .opr)),
       (.chargerCommit r, O.COMMIT_29FF, chargerCheck), (.protectionCommit r true, O.COMMIT_27FF, protectionCheck), (.mappingCommit r, O.COMMIT_20FF, mappingCheck),
       (.netCommit r, O.COMMIT_11FF, netCheck), (.spanCommit r, O.COMMIT_2CFF, spanCheck)] : List (Instr × Obj × (State → Option Nat))) →
    writeRuns s r o 0 1 → chk (atBody s r o 0) = some c → Ran i s fun t => RefusedCommit s t r o c ∧ outsideCommit s t) ∧
  (∀ (s : State) (r : Req), writeRuns s r O.COMMIT_27FF 0 1 → protectionCheck (atBody s r O.COMMIT_27FF 0) = none → Ran (.protectionCommit r false) s fun t =>
    RefusedCommit s t r O.COMMIT_27FF abortHardware ∧ outsideCommit s t) ∧
  (∀ (s : State) (r : Req), writeRuns s r O.COMMIT_28FF 0 1 → Ran (.siCommit r false) s fun t => RefusedCommit s t r O.COMMIT_28FF abortHardware ∧ outsideCommit s t)

/-- A READ taken in answers the encoded value, a measured object with a fresh free value; a missing object, a DOMAIN, a write-only object and too low a level are refused with their codes. A WRITE past its checks puts an object without a group in force at once, stages a group member, and queues a persistent object, whose reply follows later; an object of its own row does what that row does. A missing object, a DOMAIN, wrong length, and the failing checks of Table 12.5 are refused, as is an unknown command. BUSY_HOLD_EXPIRY ends the hold. Nothing else changes than the statement says. (12_object_dictionary.md Objects and values, 12_object_dictionary.md Groups and COMMIT, 12_object_dictionary.md Service frames, 12_object_dictionary.md Acceptance and the largest request, 11_memory_selftest.md Persistent objects) -/
def Obligations.ReadsAndWritesOfAnyObject : Prop :=
  (∀ (s : State) (r : Req) (idx : Half) (sub : Byte) (o : Obj) (p : Nat), takesIn s r 0x01 (keyOf idx sub) = true → isSubZero (keyOf idx sub) = false → findObj (keyOf idx sub) = some (o, p) → o.ty.isDomain = false → o.acc ≠ .wo →
    (o.acc = .ro → o.lvl.num ≤ (s.levelReq r).num) → o ∉ noMeasure → Ran (.read r idx sub) s fun t =>
      Answered t (reqId s r 0x01 (keyOf idx sub)) (.ok (o.ty.encode ((taken s r (reqId s r 0x01 (keyOf idx sub))).value o p))) ∧ requestFrame s t ∧ onlyVals [O.REQ_ACCEPTED.key 0] s t) ∧
  (∀ (s : State) (r : Req) (idx : Half) (sub : Byte) (o : Obj) (p : Nat), takesIn s r 0x01 (keyOf idx sub) = true → isSubZero (keyOf idx sub) = false → findObj (keyOf idx sub) = some (o, p) → o ∈ noMeasure →
    o.lvl.num ≤ (s.levelReq r).num → Ran (.read r idx sub) s fun t =>
      Answered t (reqId s r 0x01 (keyOf idx sub)) (.ok (o.ty.encode ((taken s r (reqId s r 0x01 (keyOf idx sub))).value o p))) ∧ t.freeIx = s.freeIx + 1 ∧ requestFrame { s with freeIx := s.freeIx + 1 } t ∧ onlyVals [O.REQ_ACCEPTED.key 0] s t) ∧
  (∀ (s : State) (r : Req) (idx : Half) (sub : Byte), takesIn s r 0x01 (keyOf idx sub) = true → isSubZero (keyOf idx sub) = true → Ran (.read r idx sub) s fun t =>
      Answered t (reqId s r 0x01 (keyOf idx sub)) (.ok [BitVec.ofNat 8 (highSub idx.toNat)]) ∧ requestFrame s t) ∧
  (∀ (s : State) (r : Req) (idx : Half) (sub : Byte), takesIn s r 0x01 (keyOf idx sub) = true → isSubZero (keyOf idx sub) = false → findObj (keyOf idx sub) = none → Ran (.read r idx sub) s fun t =>
      Answered t (reqId s r 0x01 (keyOf idx sub)) (.abort 0x10) ∧ requestFrame s t ∧ onlyVals [O.REQ_ACCEPTED.key 0, O.REQ_ABORTED.key 0] s t) ∧
  (∀ (s : State) (r : Req) (idx : Half) (sub : Byte) (o : Obj) (p : Nat), takesIn s r 0x01 (keyOf idx sub) = true → isSubZero (keyOf idx sub) = false → findObj (keyOf idx sub) = some (o, p) →
    (o.ty.isDomain = true ∨ o.acc = .wo ∨ o.acc = .ro ∧ (s.levelReq r).num < o.lvl.num) → Ran (.read r idx sub) s fun t =>
      (o.ty.isDomain = true → Answered t (reqId s r 0x01 (keyOf idx sub)) (.abort 0x02)) ∧ (o.ty.isDomain = false → o.acc = .wo → Answered t (reqId s r 0x01 (keyOf idx sub)) (.abort 0x11)) ∧
      (o.ty.isDomain = false → o.acc = .ro → Answered t (reqId s r 0x01 (keyOf idx sub)) (.abort 0x12)) ∧ requestFrame s t ∧ onlyVals [O.REQ_ACCEPTED.key 0, O.REQ_ABORTED.key 0] s t) ∧
  (∀ (s : State) (r : Req) (idx : Half) (sub : Byte) (o : Obj) (p : Nat) (d : List Byte), findObj (keyOf idx sub) = some (o, p) → o.key p = keyOf idx sub → isSubZero (keyOf idx sub) = false →
    writeRuns s r o p (o.ty.decode d) → d.length = o.ty.bytes → s.writeOwn r o p (o.ty.decode d) = none → s.noWrite o p = false → (atBody s r o p).ownerRule o p (o.ty.decode d) = none →
    o.acc ≠ .rwp → o.grp = 0 → o ∉ [O.REQ_ACCEPTED, O.REQ_ABORTED] → Ran (.write r idx sub d) s fun t =>
      t.get o p = o.ty.decode d ∧ t.dict.procVals.find? (o.key p) = none ∧ Answered t (reqId s r 0x02 (keyOf idx sub)) (.ok []) ∧
      requestFrame { s with hlm := t.hlm, dict := { s.dict with procVals := t.dict.procVals } } t ∧ onlyVals [o.key p, O.REQ_ACCEPTED.key 0] s t ∧ (o ∉ [O.CMD_MODE, O.TQ_LIM_POS, O.TQ_LIM_NEG] → t.hlm = s.hlm)) ∧
  (∀ (s : State) (r : Req) (idx : Half) (sub : Byte) (o : Obj) (p : Nat) (d : List Byte), findObj (keyOf idx sub) = some (o, p) → o.key p = keyOf idx sub → isSubZero (keyOf idx sub) = false →
    writeRuns s r o p (o.ty.decode d) → d.length = o.ty.bytes → s.writeOwn r o p (o.ty.decode d) = none → s.noWrite o p = false → (atBody s r o p).ownerRule o p (o.ty.decode d) = none →
    o.acc ≠ .rwp → o.grp ≠ 0 → Ran (.write r idx sub d) s fun t =>
      t.getStaged o p = o.ty.decode d ∧ t.staged = s.staged.put (o.key p) (o.ty.decode d) ∧ Answered t (reqId s r 0x02 (keyOf idx sub)) (.ok []) ∧ requestFrame { s with staged := t.staged } t ∧
      onlyVals [O.REQ_ACCEPTED.key 0] s t) ∧
  (∀ (s : State) (r : Req) (idx : Half) (sub : Byte) (o : Obj) (p : Nat) (d : List Byte), findObj (keyOf idx sub) = some (o, p) → o.key p = keyOf idx sub → isSubZero (keyOf idx sub) = false →
    writeRuns s r o p (o.ty.decode d) → d.length = o.ty.bytes → s.writeOwn r o p (o.ty.decode d) = none → s.noWrite o p = false → (atBody s r o p).ownerRule o p (o.ty.decode d) = none →
    o.acc = .rwp → s.spent (o.key p) = false → Ran (.write r idx sub d) s fun t =>
      t.dict.persist = s.dict.persist ++ [⟨o.key p, o.ty.decode d, some (reqId s r 0x02 (keyOf idx sub)), false, s.now⟩] ∧ t.out = s.out ∧ t.nv = s.nv ∧ t.staged = s.staged ∧ onlyVals [O.REQ_ACCEPTED.key 0] s t ∧
      requestFrame { s with dict := { s.dict with persist := t.dict.persist } } t) ∧
  (∀ (s : State) (r : Req) (idx : Half) (sub : Byte) (d : List Byte) (o : Obj) (i : Instr), (o, i) ∈ [(O.COMMIT_2A20, Instr.tempCommit r), (O.COMMIT_260F, .islandGlobalCommit r), (O.COMMIT_24FF, .positionCommit r),
      (O.COMMIT_22FF, .fieldLoopCommit r), (O.ACTIVATE, .activate r), (O.COMMIT_23FF, .solverCommit r), (O.COMMIT_2EFF, .traceCommit r), (O.ENERGY_CLEAR, .energyClear r), (O.COMMIT_29FF, .chargerCommit r),
      (O.LOG_CLEAR, .logClear r), (O.ST_ABORT, .stAbort r), (O.COMMIT_20FF, .mappingCommit r)] →
    keyOf idx sub = o.key 0 → d = [1] → Ran (.write r idx sub d) s fun t => exec i s = .next t) ∧
  (∀ (s : State) (r : Req) (idx : Half) (sub : Byte) (d : List Byte), takesIn s r 0x02 (keyOf idx sub) = true → isSubZero (keyOf idx sub) = false → findObj (keyOf idx sub) = none → Ran (.write r idx sub d) s fun t =>
      Answered t (reqId s r 0x02 (keyOf idx sub)) (.abort 0x10) ∧ requestFrame s t ∧ onlyVals [O.REQ_ACCEPTED.key 0, O.REQ_ABORTED.key 0] s t) ∧
  (∀ (s : State) (r : Req) (idx : Half) (sub : Byte) (o : Obj) (p : Nat) (d : List Byte), takesIn s r 0x02 (keyOf idx sub) = true → isSubZero (keyOf idx sub) = false → findObj (keyOf idx sub) = some (o, p) → o.ty.isDomain = true →
    Ran (.write r idx sub d) s fun t => Answered t (reqId s r 0x02 (keyOf idx sub)) (.abort 0x02) ∧ requestFrame s t ∧ onlyVals [O.REQ_ACCEPTED.key 0, O.REQ_ABORTED.key 0] s t) ∧
  (∀ (s : State) (r : Req) (idx : Half) (sub : Byte) (o : Obj) (p : Nat) (d : List Byte), takesIn s r 0x02 (keyOf idx sub) = true → isSubZero (keyOf idx sub) = false → findObj (keyOf idx sub) = some (o, p) →
    s.checkAccess r.port (s.levelReq r) o = none → d.length ≠ o.ty.bytes → Ran (.write r idx sub d) s fun t =>
      Answered t (reqId s r 0x02 (keyOf idx sub)) (.abort 0x14) ∧ requestFrame s t ∧ onlyVals [O.REQ_ACCEPTED.key 0, O.REQ_ABORTED.key 0] s t) ∧
  (∀ (s : State) (r : Req) (idx : Half) (sub : Byte) (o : Obj) (p c : Nat) (d : List Byte), takesIn s r 0x02 (keyOf idx sub) = true → isSubZero (keyOf idx sub) = false → findObj (keyOf idx sub) = some (o, p) → o.key p = keyOf idx sub →
    o.acc ≠ .rwp → d.length = o.ty.bytes → s.noWrite o p = false → s.writeOwn r o p (o.ty.decode d) = none → s.checkWrite r o (o.ty.decode d) = some c → Ran (.write r idx sub d) s fun t =>
      Answered t (reqId s r 0x02 (keyOf idx sub)) (.abort c) ∧ requestFrame s t ∧ onlyVals [O.REQ_ACCEPTED.key 0, O.REQ_ABORTED.key 0] s t ∧ (s.checkAccess r.port (s.levelReq r) o = none → c = 0x15)) ∧
  (∀ (s : State) (r : Req) (cmd : Byte) (idx : Half) (sub : Byte), takesIn s r cmd.toNat (keyOf idx sub) = true → Ran (.unknownCmd r cmd idx sub) s fun t =>
      Answered t (reqId s r cmd.toNat (keyOf idx sub)) (.abort 0x02) ∧ requestFrame s t ∧ onlyVals [O.REQ_ACCEPTED.key 0, O.REQ_ABORTED.key 0] s t) ∧
  (∀ (s : State) (h : Option Port), s.dict.busyHold = h → Ran .busyHoldExpiry s fun t => notHeldBack t .spi = true ∧ t = { s with dict := { s.dict with busyHold := none } })

/-- A process frame outside the serving states or on another port than its own does nothing. One too short, or with an entry that a check of Table 12.5 refuses, is counted, reported and changes no mapped value. An accepted one puts its values in force, with a carrier keeps them for the next solver step. An authenticated frame without its trailer is counted and changes no value; a fresh one moves the counter. A transmit frame is sampled from the values shown, with the next counter and its CMAC when authenticated; on CAN it enters its queue or replaces its older instance. (12_object_dictionary.md Process frames, 13_networks_span.md CAN FD, 13_networks_span.md SPI host port, 09_protection.md Fault and event log) -/
def Obligations.ProcessFrames : Prop :=
  (∀ (s : State) (port : Port) (p : Fin 8) (d : List Byte), (s.sys.dev.serves = false ∨ s.portOpen port = false ∨ s.get O.PROC_PORT p.val ≠ portCode port) → Ran (.processFrame port p d) s fun t => t = s) ∧
  (∀ (s : State) (port : Port) (p : Fin 8) (d : List Byte), s.sys.dev.serves = true → s.portOpen port = true → s.get O.PROC_PORT p.val = portCode port →
    d.length < mapBytes (entriesOf (fun o q => s.get o q) O.RX_COUNT O.RX_ENTRY p.val) → (FaultCode.procReject, 0) ∉ s.coll.conds → Ran (.processFrame port p d) s fun t =>
      t.get O.PROC_REJECTED = countNext (8 * O.PROC_REJECTED.ty.bytes) (s.getN O.PROC_REJECTED) ∧ Reported s t .procReject 0 ∧ reportFrame s t ∧ onlyVals [O.PROC_REJECTED.key 0, O.LOG_SUPPRESSED.key 0] s t) ∧
  (∀ (s : State) (port : Port) (p : Fin 8) (d : List Byte) (l : List (Nat × Int)) (e : Nat × Int) (c : Nat), s.sys.dev.serves = true → s.portOpen port = true → s.get O.PROC_PORT p.val = portCode port →
    s.getB O.PROC_AUTH p.val = false → mapBytes (entriesOf (fun o q => s.get o q) O.RX_COUNT O.RX_ENTRY p.val) ≤ d.length →
    l = cutEntries (entriesOf (fun o q => s.get o q) O.RX_COUNT O.RX_ENTRY p.val) (d.take (mapBytes (entriesOf (fun o q => s.get o q) O.RX_COUNT O.RX_ENTRY p.val))) →
    e ∈ l → s.procEntry port e = some c → (FaultCode.procReject, 0) ∉ s.coll.conds → Ran (.processFrame port p d) s fun t =>
      t.get O.PROC_REJECTED = countNext (8 * O.PROC_REJECTED.ty.bytes) (s.getN O.PROC_REJECTED) ∧ Reported s t .procReject 0 ∧ reportFrame s t ∧
      onlyVals [O.PROC_REJECTED.key 0, O.LOG_SUPPRESSED.key 0, O.LAST_REFUSAL.key 0] s t ∧ ((∀ x ∈ l, x.1 ≠ O.CONTROL_WORD.key 0) → t.get O.LAST_REFUSAL = s.get O.LAST_REFUSAL)) ∧
  (∀ (s : State) (port : Port) (p : Fin 8) (d : List Byte) (l : List (Nat × Int)), s.sys.dev.serves = true → s.portOpen port = true → s.get O.PROC_PORT p.val = portCode port →
    s.getB O.PROC_AUTH p.val = false → mapBytes (entriesOf (fun o q => s.get o q) O.RX_COUNT O.RX_ENTRY p.val) ≤ d.length →
    l = cutEntries (entriesOf (fun o q => s.get o q) O.RX_COUNT O.RX_ENTRY p.val) (d.take (mapBytes (entriesOf (fun o q => s.get o q) O.RX_COUNT O.RX_ENTRY p.val))) →
    (l.map Prod.fst).Nodup → (∀ e ∈ l, s.procEntry port e = none) → (∀ e ∈ l, e.1 ≠ O.CONTROL_WORD.key 0) → s.carrier = false → Ran (.processFrame port p d) s fun t =>
      (∀ e ∈ l, t.getKey e.1 = e.2) ∧ t.pending = s.pending ∧ t.now = s.now ∧ t.mem = s.mem ∧ t.nv = s.nv ∧ t.staged = s.staged ∧ t.sys = s.sys ∧ t.net = s.net ∧ t.dict = s.dict) ∧
  (∀ (s : State) (port : Port) (p : Fin 8) (d : List Byte) (l : List (Nat × Int)), s.sys.dev.serves = true → s.portOpen port = true → s.get O.PROC_PORT p.val = portCode port →
    s.getB O.PROC_AUTH p.val = false → mapBytes (entriesOf (fun o q => s.get o q) O.RX_COUNT O.RX_ENTRY p.val) ≤ d.length →
    l = cutEntries (entriesOf (fun o q => s.get o q) O.RX_COUNT O.RX_ENTRY p.val) (d.take (mapBytes (entriesOf (fun o q => s.get o q) O.RX_COUNT O.RX_ENTRY p.val))) →
    (l.map Prod.fst).Nodup → (∀ e ∈ l, s.procEntry port e = none) → (∀ e ∈ l, e.1 ∈ [O.CMD_MODE.key 0, O.TORQUE_CMD.key 0, O.SPEED_CMD.key 0, O.TQ_LIM_POS.key 0, O.TQ_LIM_NEG.key 0, O.I_OUT_CMD.key 0]) → s.carrier = true →
    Ran (.processFrame port p d) s fun t =>
      (∀ e ∈ l, t.dict.procVals.find? e.1 = some e.2 ∧ t.getKey e.1 = s.getKey e.1) ∧ t.dict = { s.dict with procVals := t.dict.procVals } ∧ t.pending = s.pending ∧ t.now = s.now ∧ t.mem = s.mem ∧ t.nv = s.nv ∧
      t.staged = s.staged ∧ t.isl = s.isl ∧ t.net = s.net) ∧
  (∀ (s : State) (port : Port) (p : Fin 8) (d : List Byte) (n : Nat), s.sys.dev.serves = true → s.portOpen port = true → s.get O.PROC_PORT p.val = portCode port → s.getB O.PROC_AUTH p.val = true →
    n = mapBytes (entriesOf (fun o q => s.get o q) O.RX_COUNT O.RX_ENTRY p.val) → n ≤ d.length → d.length < n + 4 → (∀ x ∈ s.coll.conds, x.1 ≠ FaultCode.canAuthFail) → Ran (.processFrame port p d) s fun t =>
      (∃ x : Nat, Reported s t .canAuthFail x) ∧ reportFrame s t ∧ t.coll.active = s.coll.active ∧
      onlyVals [O.AUTH_FAIL.key 0, O.AUTH_FAIL.key 1, O.AUTH_FAIL.key 2, O.AUTH_FAIL.key 3, O.LOG_SUPPRESSED.key 0] s t) ∧
  (∀ (s : State) (p : Fin 8) (d : List Byte) (n : Nat), s.sys.dev.serves = true → s.portOpen .spi = true → s.get O.PROC_PORT p.val = 3 → s.getB O.PROC_AUTH p.val = true →
    n = mapBytes (entriesOf (fun o q => s.get o q) O.RX_COUNT O.RX_ENTRY p.val) → n ≤ d.length → Ran (.processFrame .spi p d) s fun t =>
      (∀ c : Nat, s.procFresh p.val (d.take n) ((d.drop n).take 4) = some c → c < 2 ^ 32 ∧ (s.net.rxCtr.lookup p.val).getD 0 < c ∧ c ≤ (s.net.rxCtr.lookup p.val).getD 0 + 4 ∧ t.net.rxCtr.lookup p.val = some c) ∧
      (s.procFresh p.val (d.take n) ((d.drop n).take 4) = none → t.net = s.net ∧ t.dict = s.dict) ∧ t.pending = s.pending ∧ t.now = s.now ∧ t.mem = s.mem) ∧
  (∀ (s : State) (p : Fin 8), (s.sys.dev.serves = false ∨ s.get O.TX_CYCLE p.val = 0) → Ran (.txProcessSample p) s fun t => t = s) ∧
  (∀ (s : State) (p : Fin 8) (b : List Byte), s.sys.dev.serves = true → s.get O.TX_CYCLE p.val ≠ 0 → s.get O.TX_PORT p.val = 3 → s.getB O.TX_AUTH p.val = false → s.net.samples.length = 8 →
    b = ((entriesOf (fun o q => s.get o q) O.TX_COUNT O.TX_ENTRY p.val).map (s.send []).entryData).flatten → Ran (.txProcessSample p) s fun t =>
      t.net.samples[p.val]? = some b ∧ (∀ q : Fin 8, q ≠ p → t.net.samples[q.val]? = s.net.samples[q.val]?) ∧ t = { s with out := [], net := { s.net with samples := t.net.samples } }) ∧
  (∀ (s : State) (p : Fin 8) (b : List Byte) (c : Nat), s.sys.dev.serves = true → s.get O.TX_CYCLE p.val ≠ 0 → s.get O.TX_PORT p.val = 3 → s.getB O.TX_AUTH p.val = true → s.net.samples.length = 8 →
    c = (s.net.txCtr.lookup p.val).getD 0 + 1 → c < 2 ^ 32 → b = ((entriesOf (fun o q => s.get o q) O.TX_COUNT O.TX_ENTRY p.val).map (s.send []).entryData).flatten → Ran (.txProcessSample p) s fun t =>
      t.net.samples[p.val]? = some (b ++ leBytes 1 c ++ leBytes 3 (s.procMac p.val c b)) ∧ t.net.txCtr.lookup p.val = some c ∧
      t = { s with out := [], net := { s.net with samples := t.net.samples, txCtr := t.net.txCtr } }) ∧
  (∀ (s : State) (p : Fin 8) (b : List Byte) (f : CanFrame) (k : Nat), s.sys.dev.serves = true → s.get O.TX_CYCLE p.val ≠ 0 → s.get O.TX_PORT p.val = 1 → s.getB O.TX_AUTH p.val = false → s.get O.TX_QUEUE p.val = 0 →
    k = s.getN O.HOST_CH_ACTIVE → k < s.net.can.length → s.canHost k = true → (s.canCh k).safety = [] → (s.canCh k).sending = none → (s.canCh k).busOff = false →
    b = ((entriesOf (fun o q => s.get o q) O.TX_COUNT O.TX_ENTRY p.val).map (s.send []).entryData).flatten → f = ⟨BitVec.ofNat 32 (s.getN O.TX_ID p.val), true, padTo (dlcLen b.length) b⟩ → Ran (.txProcessSample p) s fun t =>
      t.out = [.can (Fin.ofNat 4 k) f] ∧ (t.canCh k).safety = [⟨f, some p.val⟩] ∧ (t.canCh k).sending = some 0 ∧ (t.canCh k).process = (s.canCh k).process ∧ t.vals = s.vals ∧
      t = { s with out := t.out, net := { s.net with samples := t.net.samples, can := t.net.can } }) ∧
  (∀ (s : State) (p : Fin 8) (b : List Byte) (f : CanFrame) (k : Nat) (y z : CanOut), s.sys.dev.serves = true → s.get O.TX_CYCLE p.val ≠ 0 → s.get O.TX_PORT p.val = 1 → s.getB O.TX_AUTH p.val = false →
    s.get O.TX_QUEUE p.val ≠ 0 → k = s.getN O.HOST_CH_ACTIVE → k < s.net.can.length → s.canHost k = true → (s.canCh k).process = [y, z] → z.proc = some p.val → (s.canCh k).sending = some 1 →
    b = ((entriesOf (fun o q => s.get o q) O.TX_COUNT O.TX_ENTRY p.val).map (s.send []).entryData).flatten → f = ⟨BitVec.ofNat 32 (s.getN O.TX_ID p.val), true, padTo (dlcLen b.length) b⟩ → Ran (.txProcessSample p) s fun t =>
      t.out = [] ∧ (t.canCh k).process = [y, ⟨f, some p.val⟩] ∧ (t.canCh k).safety = (s.canCh k).safety ∧ t.get O.TX_REPLACED p.val = countNext (8 * O.TX_REPLACED.ty.bytes) (s.getN O.TX_REPLACED p.val) ∧
      onlyVals [O.TX_REPLACED.key p.val] s t)

/-- A start past its checks opens the transfer with a handle that the other does not hold, the window limited by the staging size, and the owner LOADING; a failing check refuses it. A segment at the next offset that fits is stored without a reply, another is discarded and counted; an unknown handle is refused. A window is answered at once, or when a buffer frees. The end needs every byte and the right CRC; the owner then takes the data. A read returns its bytes from the content fixed at the start and ends with the last one. An abort or an idle timeout ends a transfer; nothing happens where none runs. (12_object_dictionary.md Block transfers, 12_object_dictionary.md Table 12.6, 07_field_loop.md Map store, 14_security.md Secure boot, 14_security.md Parameter sets) -/
def Obligations.BlockTransfersOfDomains : Prop :=
  (∀ (s : State) (r : Req) (idx : Half) (sub : Byte) (n w : Nat), takesIn s r 0x10 (keyOf idx sub) = true → (taken s r (reqId s r 0x10 (keyOf idx sub))).startCheck r (keyOf idx sub) n w = none →
    Ran (.blockWStart r idx sub n w) s fun t => ∃ h : Byte, t.dict.blockW = some ⟨keyOf idx sub, portBase r.port, h, n, min w (s.stagingBytes r.port), [], 0, [], 0, none, 0⟩ ∧
      Answered t (reqId s r 0x10 (keyOf idx sub)) (.ok (leBytes 4 (min w (s.stagingBytes r.port)) ++ [h])) ∧ (∀ x ∈ s.dict.blockR, x.handle ≠ h) ∧ h ∉ t.dict.deadHandles ∧ t.dict.blockR = s.dict.blockR ∧
      (keyOf idx sub = O.FW_DATA.key 0 → (t.nv.sec.slot s.fwTarget).state = 1) ∧ (keyOf idx sub = O.RECOVERY_DATA.key 0 → t.nv.sec.slotR.state = 1) ∧
      (keyOf idx sub = O.PARAM_DATA.key 0 → (t.nv.sec.half s.paramTarget).state = 1) ∧ (keyOf idx sub = O.SET_DATA.key 0 → s.nv.banks.length = 2 → (t.bank s.staging).state = 1) ∧
      t.pending = s.pending ∧ t.now = s.now ∧ t.sys = s.sys ∧ t.isl = s.isl ∧ t.mem = s.mem ∧ t.coll = s.coll) ∧
  (∀ (s : State) (r : Req) (idx : Half) (sub : Byte) (n w c : Nat), takesIn s r 0x10 (keyOf idx sub) = true → (taken s r (reqId s r 0x10 (keyOf idx sub))).startCheck r (keyOf idx sub) n w = some c →
    Ran (.blockWStart r idx sub n w) s fun t => Answered t (reqId s r 0x10 (keyOf idx sub)) (.abort c) ∧ requestFrame s t ∧ onlyVals [O.REQ_ACCEPTED.key 0, O.REQ_ABORTED.key 0] s t) ∧
  (∀ (s : State) (r : Req) (idx : Half) (sub : Byte) (x : BlockW) (a : Nat) (d : List Byte), takesIn s r 0x11 (keyOf idx sub) = true → s.dict.blockW = some x → x.port = portBase r.port →
    a = x.data.length → 0 < d.length → a + d.length ≤ x.total → a % x.window + d.length ≤ x.window → x.full < 2 → Ran (.blockWData r idx sub x.handle a d) s fun t =>
      ∃ y : BlockW, t.dict.blockW = some y ∧ y.data = x.data ++ d ∧ y = { x with data := y.data, full := y.full } ∧
      y.full = (if (x.data ++ d).length % x.window = 0 ∨ (x.data ++ d).length = x.total then x.full + 1 else x.full) ∧ t.out = [] ∧
      (s.mem.serving.isSome = true → t.mem = s.mem) ∧ t.nv = s.nv ∧ t.sys = s.sys ∧ onlyVals [O.REQ_ACCEPTED.key 0] s t) ∧
  (∀ (s : State) (r : Req) (idx : Half) (sub : Byte) (x : BlockW) (a : Nat) (d : List Byte), takesIn s r 0x11 (keyOf idx sub) = true → s.dict.blockW = some x → x.port = portBase r.port →
    (a ≠ x.data.length ∨ x.total < a + d.length ∨ x.window < a % x.window + d.length ∨ 2 ≤ x.full) → Ran (.blockWData r idx sub x.handle a d) s fun t =>
      t.dict.blockW = some { x with dropped := x.dropped + 1 } ∧ t.out = [] ∧ t.mem = s.mem ∧ t.nv = s.nv ∧ onlyVals [O.REQ_ACCEPTED.key 0] s t) ∧
  (∀ (s : State) (r : Req) (idx : Half) (sub h : Byte) (a : Nat) (d : List Byte), takesIn s r 0x11 (keyOf idx sub) = true → s.writing r.port h = none → Ran (.blockWData r idx sub h a d) s fun t =>
      Answered t (reqId s r 0x11 (keyOf idx sub)) (.abort 0x1B) ∧ requestFrame s t) ∧
  (∀ (s : State) (r : Req) (idx : Half) (sub : Byte) (x : BlockW), takesIn s r 0x12 (keyOf idx sub) = true → s.dict.blockW = some x → x.port = portBase r.port →
    x.full < 2 → Ran (.blockWWindow r idx sub x.handle) s fun t => Answered t (reqId s r 0x12 (keyOf idx sub)) (.ok (leBytes 4 x.data.length)) ∧ requestFrame s t ∧ onlyVals [O.REQ_ACCEPTED.key 0] s t) ∧
  (∀ (s : State) (r : Req) (idx : Half) (sub : Byte) (x : BlockW), takesIn s r 0x12 (keyOf idx sub) = true → s.dict.blockW = some x → x.port = portBase r.port →
    2 ≤ x.full → x.whole = true → Ran (.blockWWindow r idx sub x.handle) s fun t => t.dict.blockW = some { x with waiting := x.waiting ++ [reqId s r 0x12 (keyOf idx sub)] } ∧ t.out = s.out ∧ t.nv = s.nv ∧ t.mem = s.mem ∧
      onlyVals [O.REQ_ACCEPTED.key 0] s t) ∧
  (∀ (s : State), (∀ x ∈ s.dict.blockW, x.full = 0) → Ran .blockWindowFree s fun t => t = s) ∧
  (∀ (s : State) (x : BlockW), s.dict.blockW = some x → 0 < x.full → x.ending = none → Ran .blockWindowFree s fun t =>
      t.dict.blockW = some { x with full := x.full - 1, done := min (x.done + x.window) x.data.length, waiting := [] } ∧ (∀ id ∈ x.waiting, Answered t id (.ok (leBytes 4 x.data.length))) ∧
      requestFrame { s with dict := { s.dict with blockW := t.dict.blockW } } t ∧ t.vals = s.vals) ∧
  (∀ (s : State) (x : BlockW) (id : ReqId) (crc : Word), s.dict.blockW = some x → x.full = 1 → x.ending = some (id, crc) → x.waiting = [] → Ran .blockWindowFree s fun t =>
      t.dict.blockW = none ∧ (crc32 x.data ≠ crc → Answered t id (.abort 0x19)) ∧ (crc32 x.data = crc → x.key ∈ [O.FW_DATA.key 0, O.RECOVERY_DATA.key 0, O.PARAM_DATA.key 0] → Answered t id (.ok [])) ∧ t.sys = s.sys ∧ t.isl = s.isl ∧ t.mem = s.mem) ∧
  (∀ (s : State) (r : Req) (idx : Half) (sub : Byte) (x : BlockW) (crc : Word), takesIn s r 0x13 (keyOf idx sub) = true → s.dict.blockW = some x → x.port = portBase r.port →
    (x.data.length < x.total ∨ x.ending.isSome = true) → Ran (.blockWEnd r idx sub x.handle crc) s fun t => Answered t (reqId s r 0x13 (keyOf idx sub)) (.abort 0x16) ∧ requestFrame s t) ∧
  (∀ (s : State) (r : Req) (idx : Half) (sub : Byte) (x : BlockW) (crc : Word), takesIn s r 0x13 (keyOf idx sub) = true → s.dict.blockW = some x → x.port = portBase r.port →
    x.total ≤ x.data.length → x.ending = none → 0 < x.full → Ran (.blockWEnd r idx sub x.handle crc) s fun t =>
      t.dict.blockW = some { x with ending := some (reqId s r 0x13 (keyOf idx sub), crc) } ∧ t.out = s.out ∧ t.nv = s.nv ∧ onlyVals [O.REQ_ACCEPTED.key 0] s t) ∧
  (∀ (s : State) (r : Req) (idx : Half) (sub : Byte) (x : BlockW) (crc : Word), takesIn s r 0x13 (keyOf idx sub) = true → s.dict.blockW = some x → x.port = portBase r.port →
    x.total ≤ x.data.length → x.ending = none → x.full = 0 → crc32 x.data = crc → x.key = O.FW_DATA.key 0 → s.nv.sec.slotA.state = 1 → s.nv.sec.slotB.state ≠ 1 → s.coll.conds = [] →
    Ran (.blockWEnd r idx sub x.handle crc) s fun t =>
      t.dict.blockW = none ∧ t.nv.sec.slotA.state = 2 ∧ t.nv.sec.slotB = s.nv.sec.slotB ∧ Answered t (reqId s r 0x13 (keyOf idx sub)) (.ok []) ∧ onlyVals [O.REQ_ACCEPTED.key 0] s t) ∧
  (∀ (s : State) (r : Req) (idx : Half) (sub : Byte) (x : BlockW) (crc : Word), takesIn s r 0x13 (keyOf idx sub) = true → s.dict.blockW = some x → x.port = portBase r.port →
    x.total ≤ x.data.length → x.ending = none → x.full = 0 → crc32 x.data ≠ crc → x.waiting = [] → (FaultCode.blockAborted, 0) ∉ s.coll.conds → Ran (.blockWEnd r idx sub x.handle crc) s fun t =>
      t.dict.blockW = none ∧ x.handle ∈ t.dict.deadHandles ∧ (FaultCode.blockAborted, 0) ∈ t.coll.conds ∧ t.get O.BLOCK_ABORTS = countNext (8 * O.BLOCK_ABORTS.ty.bytes) (s.getN O.BLOCK_ABORTS) ∧
      Answered t (reqId s r 0x13 (keyOf idx sub)) (.abort 0x19) ∧ t.sys = s.sys) ∧
  (∀ (s : State) (r : Req) (idx : Half) (sub : Byte) (o : Obj) (p : Nat) (d : List Byte), takesIn s r 0x18 (keyOf idx sub) = true → isSubZero (keyOf idx sub) = false → findObj (keyOf idx sub) = some (o, p) →
    o.ty.isDomain = true → o.acc ≠ .wo → o.lvl.num ≤ (s.levelReq r).num → s.dict.blockR = none → (taken s r (reqId s r 0x18 (keyOf idx sub))).domain (keyOf idx sub) = .ok d → Ran (.blockRStart r idx sub) s fun t =>
      ∃ h : Byte, t.dict.blockR = some ⟨keyOf idx sub, portBase r.port, h, d⟩ ∧ Answered t (reqId s r 0x18 (keyOf idx sub)) (.ok (leBytes 4 d.length ++ [h])) ∧ (∀ x ∈ s.dict.blockW, x.handle ≠ h) ∧
      t.dict.blockW = s.dict.blockW ∧ t.nv = s.nv ∧ onlyVals [O.REQ_ACCEPTED.key 0] s t) ∧
  (∀ (s : State) (r : Req) (idx : Half) (sub : Byte) (o : Obj) (p : Nat), takesIn s r 0x18 (keyOf idx sub) = true → isSubZero (keyOf idx sub) = false → findObj (keyOf idx sub) = some (o, p) →
    o.ty.isDomain = true → o.acc ≠ .wo → o.lvl.num ≤ (s.levelReq r).num → s.dict.blockR.isSome = true → Ran (.blockRStart r idx sub) s fun t =>
      Answered t (reqId s r 0x18 (keyOf idx sub)) (.abort 0x16) ∧ requestFrame s t) ∧
  (∀ (s : State) (r : Req) (idx : Half) (sub : Byte) (x : BlockR) (a n : Nat), takesIn s r 0x19 (keyOf idx sub) = true → s.dict.blockR = some x → x.port = portBase r.port →
    a + min n (s.maxRequest r.port - 8) < x.data.length → Ran (.blockRData r idx sub x.handle a n) s fun t =>
      Answered t (reqId s r 0x19 (keyOf idx sub)) (.ok ((x.data.drop a).take (min n (s.maxRequest r.port - 8)))) ∧ t.dict.blockR = some x ∧ requestFrame s t ∧ onlyVals [O.REQ_ACCEPTED.key 0] s t) ∧
  (∀ (s : State) (r : Req) (idx : Half) (sub : Byte) (x : BlockR) (a n : Nat), takesIn s r 0x19 (keyOf idx sub) = true → s.dict.blockR = some x → x.port = portBase r.port → x.key ≠ O.TRACE_DATA.key 0 →
    a ≤ x.data.length → x.data.length ≤ a + min n (s.maxRequest r.port - 8) → (FaultCode.blockAborted, 0) ∉ s.coll.conds → Ran (.blockRData r idx sub x.handle a n) s fun t =>
      Answered t (reqId s r 0x19 (keyOf idx sub)) (.ok (x.data.drop a)) ∧ t.dict.blockR = none ∧ requestFrame { s with dict := { s.dict with blockR := none } } t ∧ onlyVals [O.REQ_ACCEPTED.key 0] s t) ∧
  (∀ (s : State) (r : Req) (idx : Half) (sub h : Byte) (a n : Nat), takesIn s r 0x19 (keyOf idx sub) = true → s.reading r.port h = none → Ran (.blockRData r idx sub h a n) s fun t =>
      Answered t (reqId s r 0x19 (keyOf idx sub)) (.abort 0x1B) ∧ requestFrame s t) ∧
  (∀ (s : State) (r : Req) (idx : Half) (sub : Byte) (x : BlockW), takesIn s r 0x1F (keyOf idx sub) = true → s.dict.blockW = some x → x.port = portBase r.port → Ran (.blockAbort r idx sub x.handle) s fun t =>
      t.dict.blockW = none ∧ x.handle ∈ t.dict.deadHandles ∧ (FaultCode.blockAborted, 0) ∈ t.coll.conds ∧ Answered t (reqId s r 0x1F (keyOf idx sub)) (.ok []) ∧
      (∀ id ∈ x.waiting, Answered t id (.abort 0x1B)) ∧ t.sys = s.sys ∧ t.isl = s.isl ∧ t.mem = s.mem) ∧
  (∀ (s : State) (r : Req) (idx : Half) (sub : Byte) (x : BlockR), takesIn s r 0x1F (keyOf idx sub) = true → s.dict.blockR = some x → x.port = portBase r.port → s.dict.blockW = none →
    Ran (.blockAbort r idx sub x.handle) s fun t => t.dict.blockR = none ∧ x.handle ∈ t.dict.deadHandles ∧ (FaultCode.blockAborted, 0) ∈ t.coll.conds ∧ Answered t (reqId s r 0x1F (keyOf idx sub)) (.ok []) ∧ t.nv = s.nv) ∧
  (∀ (s : State) (r : Req) (idx : Half) (sub h : Byte), takesIn s r 0x1F (keyOf idx sub) = true → s.writing r.port h = none → s.reading r.port h = none → Ran (.blockAbort r idx sub h) s fun t =>
      Answered t (reqId s r 0x1F (keyOf idx sub)) (.abort 0x1B) ∧ requestFrame s t) ∧
  (∀ (s : State) (x : BlockW), s.dict.blockW = some x → Ran (.blockIdleTimeout true) s fun t =>
      t.dict.blockW = none ∧ x.handle ∈ t.dict.deadHandles ∧ (FaultCode.blockAborted, 0) ∈ t.coll.conds ∧ (∀ id ∈ x.waiting, Answered t id (.abort 0x1A)) ∧ t.dict.blockR = s.dict.blockR ∧ t.sys = s.sys ∧ t.mem = s.mem) ∧
  (∀ (s : State) (x : BlockR), s.dict.blockR = some x → Ran (.blockIdleTimeout false) s fun t =>
      t.dict.blockR = none ∧ x.handle ∈ t.dict.deadHandles ∧ (FaultCode.blockAborted, 0) ∈ t.coll.conds ∧ t.dict.blockW = s.dict.blockW ∧ t.nv = s.nv ∧ t.sys = s.sys) ∧
  (∀ (s : State), s.dict.blockW = none → s.dict.blockR = none → Ran (.blockIdleTimeout true) s fun t => t = s ∧ exec (.blockIdleTimeout false) s = .next s)

/-- Every control-word command with an inconsistent word or a reset bit without its key is refused with ABORT_VALUE and LAST_REFUSAL, nothing else changes. The reset command answers and resets the die. READY_REQ in STANDBY starts the islands under the stored CONFIG, and is refused where it may not act; cleared in READY it returns to STANDBY with the supplies off. RUN_REQ enters RUN, is held while the bank is verified, and is refused for the reasons of Table 12.9; cleared in RUN it starts the ramp. SERVICE_REQ needs its level and holds its session; cleared it returns. SLEEP_REQ starts the entry into SLEEP or is refused. (12_object_dictionary.md Device states, 12_object_dictionary.md Table 12.9, 03_supply_clocks_start.md Low-power states, 03_supply_clocks_start.md Resets) -/
def Obligations.ControlWordMovesTheDevice : Prop :=
  (∀ (s : State) (r : Req) (w : Half) (i : Instr), i ∈ [Instr.readyReq r w, .readyReqClear r w, .runReq r w, .runReqClear r w, .serviceReq r w, .serviceReqClear r w, .sleepReq r w, .resetCmd r w, .faultReset r w, .dischReq r w] →
    writeRuns s r O.CONTROL_WORD 0 w.toNat → (w.getLsbD 6 = false ∧ ctlInconsistent w = true ∨ w.getLsbD 6 = true ∧ w.toNat / 256 ≠ 0x5A) → Ran i s fun t =>
      Answered t (reqId s r 0x02 (O.CONTROL_WORD.key 0)) (.abort 0x15) ∧ t.get O.LAST_REFUSAL = 0x15 ∧ requestFrame s t ∧ onlyVals [O.LAST_REFUSAL.key 0, O.REQ_ACCEPTED.key 0, O.REQ_ABORTED.key 0] s t) ∧
  (∀ (s : State) (r : Req) (w : Half), writeRuns s r O.CONTROL_WORD 0 w.toNat → w.getLsbD 6 = true → w.toNat / 256 = 0x5A → Ran (.resetCmd r w) s fun t => DieReset s t 6 ∧ Answered t (reqId s r 0x02 (O.CONTROL_WORD.key 0)) (.ok [])) ∧
  (∀ (s : State) (r : Req) (w : Half), writeRuns s r O.CONTROL_WORD 0 w.toNat → w.toNat % 128 = 1 → s.get O.CONTROL_WORD = 0 → s.sys.dev = .standby → s.readyAllowed = true → s.requested = false → s.sup.readyPhase = .idle → Ran (.readyReq r w) s fun t =>
      t.get O.CONTROL_WORD = (w.toNat : Nat) ∧ t.sup.readyPhase ≠ .idle ∧ t.get O.CONFIG_ACTIVE = s.get O.CONFIG ∧ t.sys = s.sys ∧ Answered t (reqId s r 0x02 (O.CONTROL_WORD.key 0)) (.ok []) ∧ t.pins = s.pins ∧ t.nv = s.nv ∧ t.mem = s.mem) ∧
  (∀ (s : State) (r : Req) (w : Half), writeRuns s r O.CONTROL_WORD 0 w.toNat → w.toNat % 128 = 1 → s.get O.CONTROL_WORD = 0 → s.sys.dev = .standby → (s.readyAllowed = false ∨ s.requested = true ∨ s.sup.entering.isSome = true) → Ran (.readyReq r w) s fun t =>
      Answered t (reqId s r 0x02 (O.CONTROL_WORD.key 0)) (.abort 0x16) ∧ t.get O.LAST_REFUSAL = 0x16 ∧ t.get O.CONTROL_WORD = 0 ∧ requestFrame s t) ∧
  (∀ (s : State) (r : Req) (w : Half), writeRuns s r O.CONTROL_WORD 0 w.toNat → w.toNat % 128 = 0 → s.get O.CONTROL_WORD = 1 → s.sys.dev = .ready → s.sup.entering = none → s.dict.blockW = none → Ran (.readyReqClear r w) s fun t =>
      t.sys.dev = .standby ∧ t.get O.CONTROL_WORD = (w.toNat : Nat) ∧ (∀ n : IslIx, (t.island n).supplyOn = false) ∧ t.hlm.permit = false ∧ t.sys.tokenOn = false ∧ t.sup.readyPhase = .idle ∧
      Answered t (reqId s r 0x02 (O.CONTROL_WORD.key 0)) (.ok []) ∧ t.pins = s.pins ∧ t.nv = s.nv ∧ t.mem = s.mem) ∧
  (∀ (s : State) (r : Req) (w : Half), writeRuns s r O.CONTROL_WORD 0 w.toNat → w.toNat % 128 = 3 → s.get O.CONTROL_WORD = 1 → (atBody s r O.CONTROL_WORD 0).runRefusal = none → s.traction = true → s.fl.verifying = false → s.dict.blockW = none → Ran (.runReq r w) s fun t =>
      t.sys.dev = .run ∧ t.get O.CONTROL_WORD = (w.toNat : Nat) ∧ t.cmdT = s.timerRestart ∧ t.sys.runPending = false ∧ Answered t (reqId s r 0x02 (O.CONTROL_WORD.key 0)) (.ok []) ∧ t.pins = s.pins ∧ t.nv = s.nv ∧ t.mem = s.mem) ∧
  (∀ (s : State) (r : Req) (w : Half), writeRuns s r O.CONTROL_WORD 0 w.toNat → w.toNat % 128 = 3 → s.get O.CONTROL_WORD = 1 → (atBody s r O.CONTROL_WORD 0).runRefusal = none → s.charger = true → s.dict.blockW = none → Ran (.runReq r w) s fun t =>
      t.sys.dev = .run ∧ t.get O.CONTROL_WORD = (w.toNat : Nat) ∧ t.cmdT = s.timerRestart ∧ t.get O.CHG_PHASE ≠ 0 ∧ Answered t (reqId s r 0x02 (O.CONTROL_WORD.key 0)) (.ok []) ∧ t.nv = s.nv ∧ t.mem = s.mem) ∧
  (∀ (s : State) (r : Req) (w : Half), writeRuns s r O.CONTROL_WORD 0 w.toNat → w.toNat % 128 = 3 → s.get O.CONTROL_WORD = 1 → (atBody s r O.CONTROL_WORD 0).runRefusal = none → s.traction = true → s.fl.verifying = true → Ran (.runReq r w) s fun t =>
      t.sys = { s.sys with runPending := true } ∧ t.get O.CONTROL_WORD = (w.toNat : Nat) ∧ Answered t (reqId s r 0x02 (O.CONTROL_WORD.key 0)) (.ok []) ∧ t.cmdT = s.cmdT ∧ t.isl = s.isl) ∧
  (∀ (s : State) (r : Req) (w : Half) (c : Nat), writeRuns s r O.CONTROL_WORD 0 w.toNat → w.toNat % 128 = 3 → s.get O.CONTROL_WORD = 1 → (atBody s r O.CONTROL_WORD 0).runRefusal = some c → Ran (.runReq r w) s fun t =>
      Answered t (reqId s r 0x02 (O.CONTROL_WORD.key 0)) (.abort c) ∧ t.get O.LAST_REFUSAL = (c : Nat) ∧ t.get O.CONTROL_WORD = 1 ∧ requestFrame s t) ∧
  (∀ (s : State) (r : Req) (w : Half), writeRuns s r O.CONTROL_WORD 0 w.toNat → w.toNat % 128 = 1 → s.get O.CONTROL_WORD = 3 → s.sys.dev = .run → s.charger = false → (∀ q ∈ s.fl.mach, q.ramp = none) → (FaultCode.resetHeld, 1) ∉ s.coll.conds → Ran (.runReqClear r w) s fun t =>
      t.sys.dev = .run ∧ t.get O.CONTROL_WORD = (w.toNat : Nat) ∧ t.cmdT.running = false ∧ t.cmdT.timedOut = false ∧ (∀ m : Nat, m < s.fl.mach.length → (t.fl.mach.getD m State.resetSolver).ramp = some ((s.fl.mach.getD m State.resetSolver).x, s.now)) ∧
      Answered t (reqId s r 0x02 (O.CONTROL_WORD.key 0)) (.ok []) ∧ t.isl = s.isl ∧ t.coll = s.coll ∧ t.pins = s.pins ∧ onlyVals [O.CONTROL_WORD.key 0, O.REQ_ACCEPTED.key 0] s t) ∧
  (∀ (s : State) (r : Req) (w : Half), writeRuns s r O.CONTROL_WORD 0 w.toNat → w.toNat % 128 = 1 → s.get O.CONTROL_WORD = 3 → s.sys.dev = .run → s.charger = true → s.get O.CHG_PHASE = 7 → Ran (.runReqClear r w) s fun t =>
      t.sys.dev = .run ∧ t.get O.CHG_PHASE = 8 ∧ t.get O.CONTROL_WORD = (w.toNat : Nat) ∧ Answered t (reqId s r 0x02 (O.CONTROL_WORD.key 0)) (.ok []) ∧ t.pins = s.pins) ∧
  (∀ (s : State) (r : Req) (w : Half), writeRuns s r O.CONTROL_WORD 0 w.toNat → w.toNat % 128 = 16 → s.get O.CONTROL_WORD = 0 → s.sys.dev = .standby → 2 ≤ (s.levelReq r).num → s.requested = false → s.sup.entering = none → s.sup.readyPhase = .idle → s.dict.blockW = none →
    Ran (.serviceReq r w) s fun t =>
      t.sys.dev = .service ∧ t.sec.serviceHandle = some r.session ∧ t.get O.CONTROL_WORD = (w.toNat : Nat) ∧ Answered t (reqId s r 0x02 (O.CONTROL_WORD.key 0)) (.ok []) ∧ t.pins = s.pins ∧ t.nv = s.nv ∧ t.mem = s.mem) ∧
  (∀ (s : State) (r : Req) (w : Half), writeRuns s r O.CONTROL_WORD 0 w.toNat → w.toNat % 128 = 16 → s.get O.CONTROL_WORD = 0 → s.sys.dev = .standby → (s.levelReq r).num < 2 → Ran (.serviceReq r w) s fun t =>
      Answered t (reqId s r 0x02 (O.CONTROL_WORD.key 0)) (.abort 0x12) ∧ t.get O.LAST_REFUSAL = 0x12 ∧ t.get O.CONTROL_WORD = 0 ∧ requestFrame s t) ∧
  (∀ (s : State) (r : Req) (w : Half), writeRuns s r O.CONTROL_WORD 0 w.toNat → w.toNat % 128 = 0 → s.get O.CONTROL_WORD = 16 → s.sys.dev = .service → s.dict.blockW = none → Ran (.serviceReqClear r w) s fun t =>
      t.sys.dev = .standby ∧ t.get O.CONTROL_WORD = (w.toNat : Nat) ∧ Answered t (reqId s r 0x02 (O.CONTROL_WORD.key 0)) (.ok []) ∧ t.pins = s.pins ∧ t.nv = s.nv ∧ t.mem = s.mem) ∧
  (∀ (s : State) (r : Req) (w : Half), writeRuns s r O.CONTROL_WORD 0 w.toNat → w.toNat % 128 = 32 → s.get O.CONTROL_WORD = 0 → s.sys.dev = .standby → s.pins.wakeUntil ≤ s.now → s.fl.saving = none → s.requested = false → s.sup.entering = none → Ran (.sleepReq r w) s fun t =>
      t.sup.entering = some (s.getN O.SLEEP_DEPTH) ∧ t.sys = s.sys ∧ (∀ n : IslIx, (t.island n).supplyOn = false) ∧ t.get O.CONTROL_WORD = (w.toNat : Nat) ∧ Answered t (reqId s r 0x02 (O.CONTROL_WORD.key 0)) (.ok []) ∧ t.pins = s.pins ∧ t.nv = s.nv ∧ t.mem = s.mem) ∧
  (∀ (s : State) (r : Req) (w : Half), writeRuns s r O.CONTROL_WORD 0 w.toNat → w.toNat % 128 = 32 → s.get O.CONTROL_WORD = 0 → (s.sys.dev ≠ .standby ∨ s.now < s.pins.wakeUntil ∨ s.fl.saving.isSome = true ∨ s.requested = true) → Ran (.sleepReq r w) s fun t =>
      Answered t (reqId s r 0x02 (O.CONTROL_WORD.key 0)) (.abort 0x16) ∧ t.get O.LAST_REFUSAL = 0x16 ∧ t.get O.CONTROL_WORD = 0 ∧ t.sup = s.sup ∧ requestFrame s t)

/-- A frame is ignored outside the serving states, in bus-off, and where neither role nor identifier is the channel own; with no free receive entry it is counted and reported; a service frame is served, a classical one refused; a redundant channel only notes it. A frame sent leaves its queue and the next head follows by priority; one that lost arbitration stays. Bus-off discards and counts the queues, is counted and reported; the recovery ends it and sends again. A silent host channel is given up: its queues, identifiers and sessions pass to the redundant channel, or CAN_HOST_LOST is reported. (13_networks_span.md CAN FD, 13_networks_span.md Ports, buffers and node addressing, 12_object_dictionary.md Process frames) -/
def Obligations.CanChannels : Prop :=
  (∀ (s : State) (c : Fin 4) (f : CanFrame) (full : Bool), (s.sys.dev.serves = false ∨ (s.canCh c.val).busOff = true ∨ s.canHost c.val = true ∧ s.hostIdent f.ident.toNat = false ∨ s.canHost c.val = false ∧ s.get O.CAN_ROLE c.val ≠ 2) →
    Ran (.canFrameReceive c f full) s fun t => t = s) ∧
  (∀ (s : State) (c : Fin 4) (f : CanFrame), s.sys.dev.serves = true → (s.canCh c.val).busOff = false → s.canHost c.val = true → s.hostIdent f.ident.toNat = true → (FaultCode.canRxOverflow, c.val) ∉ s.coll.conds → Ran (.canFrameReceive c f true) s fun t =>
      t.get O.RX_OVERFLOW c.val = countNext (8 * O.RX_OVERFLOW.ty.bytes) (s.getN O.RX_OVERFLOW c.val) ∧ Reported s t .canRxOverflow c.val ∧ reportFrame s t ∧
      onlyVals [O.RX_OVERFLOW.key c.val, O.LOG_SUPPRESSED.key 0] s t) ∧
  (∀ (s : State) (c : Fin 4) (f : CanFrame) (full : Bool), s.sys.dev.serves = true → (s.canCh c.val).busOff = false → s.canHost c.val = false → s.get O.CAN_ROLE c.val = 2 → s.net.failedCh = none → s.hostIdent f.ident.toNat = true → Ran (.canFrameReceive c f full) s fun t =>
      t = { s with net := { s.net with redundantHeard := true } }) ∧
  (∀ (s : State) (c : Fin 4) (f : CanFrame), s.sys.dev.serves = true → (s.canCh c.val).busOff = false → s.canHost c.val = true → c.val < s.net.can.length → f.ident.toNat = s.getN O.SRV_RX_ID (s.idsOf c.val) → s.getN O.HOST_CH_ACTIVE = c.val → f.fd = false → Ran (.canFrameReceive c f false) s fun t =>
      t.get O.REQ_ABORTED = countNext (8 * O.REQ_ABORTED.ty.bytes) (s.getN O.REQ_ABORTED) ∧ (t.canCh c.val).lastRx = s.now ∧ t.net.redundantHeard = false ∧ onlyVals [O.REQ_ABORTED.key 0] s t ∧
      t = { s with vals := t.vals, net := { s.net with can := t.net.can, redundantHeard := false } }) ∧
  (∀ (s : State) (c : Fin 4) (f : CanFrame) (r : Req) (idx : Half) (sub : Byte) (o : Obj) (p : Nat), s.sys.dev.serves = true → (s.canCh c.val).busOff = false → s.canHost c.val = true → s.getN O.HOST_CH_ACTIVE = c.val → f.ident.toNat = s.getN O.SRV_RX_ID (s.idsOf c.val) → f.fd = true →
    c.val < s.net.can.length → r = ⟨.can c, 0, 5, 0, true, 8⟩ → f.data = [1#8, 5#8] ++ leBytes 2 idx.toNat ++ [sub, 0#8, 0#8, 0#8] → takesIn s r 0x01 (keyOf idx sub) = true → isSubZero (keyOf idx sub) = false →
    findObj (keyOf idx sub) = some (o, p) → o.ty.isDomain = false → o.acc = .rw → s.staged.find? (o.key p) = none → s.view o p = none → Ran (.canFrameReceive c f false) s fun t =>
      Answered t (reqId s r 0x01 (keyOf idx sub)) (.ok (o.ty.encode (s.get o p))) ∧ (t.canCh c.val).lastRx = s.now ∧ onlyVals [O.REQ_ACCEPTED.key 0] s t ∧ t.isl = s.isl ∧ t.sys = s.sys ∧ t.nv = s.nv ∧ t.coll = s.coll) ∧
  (∀ (s : State) (c : Fin 4) (lost : Bool), (s.canCh c.val).sending = none → Ran (.canFrameSent c lost) s fun t => t = s) ∧
  (∀ (s : State) (c : Fin 4) (x y : CanOut) (l : List CanOut), c.val < s.net.can.length → s.canHost c.val = true → (s.canCh c.val).busOff = false → (s.canCh c.val).sending = some 1 → (s.canCh c.val).safety = [] → (s.canCh c.val).process = x :: y :: l →
    (s.canCh c.val).held = [] → Ran (.canFrameSent c false) s fun t =>
      t.canCh c.val = { s.canCh c.val with process := y :: l } ∧ t.out = [.can c y.frame] ∧ t = { s with out := t.out, net := { s.net with can := t.net.can } }) ∧
  (∀ (s : State) (c : Fin 4) (x y : CanOut) (l m : List CanOut), c.val < s.net.can.length → s.canHost c.val = true → (s.canCh c.val).busOff = false → (s.canCh c.val).sending = some 1 → (s.canCh c.val).safety = x :: l → (s.canCh c.val).process = y :: m →
    (s.canCh c.val).held = [] → Ran (.canFrameSent c true) s fun t =>
      t.canCh c.val = { s.canCh c.val with sending := some 0 } ∧ t.out = [.can c x.frame]) ∧
  (∀ (s : State) (c : Fin 4), (s.sys.dev.runs = false ∨ (s.canCh c.val).busOff = true ∨ s.get O.CAN_ROLE c.val = 0 ∨ s.get O.CAN_ROLE c.val = 3 ∨ s.net.failedCh = some c.val) → Ran (.canBusOff c) s fun t => t = s) ∧
  (∀ (s : State) (c : Fin 4), s.sys.dev.runs = true → (s.canCh c.val).busOff = false → s.get O.CAN_ROLE c.val = 1 → s.net.failedCh = none → c.val < s.net.can.length → (s.canCh c.val).offAt = [] → (s.canCh c.val).held = [] →
    (FaultCode.canBusOff, c.val) ∉ s.coll.conds → Ran (.canBusOff c) s fun t =>
      (t.canCh c.val).busOff = true ∧ (t.canCh c.val).queued = 0 ∧ (t.canCh c.val).lost = (s.canCh c.val).lost + (s.canCh c.val).queued ∧ (t.canCh c.val).sending = none ∧
      t.get O.BUSOFF_COUNT c.val = countNext (8 * O.BUSOFF_COUNT.ty.bytes) (s.getN O.BUSOFF_COUNT c.val) ∧ Reported s t .canBusOff c.val ∧ t.net.failedCh = none ∧ t.sec = s.sec ∧ t.out = [] ∧
      onlyVals [O.BUSOFF_COUNT.key c.val, O.LOG_SUPPRESSED.key 0] s t) ∧
  (∀ (s : State) (c : Fin 4), (s.canCh c.val).busOff = false → Ran (.canBusOffRecovery c) s fun t => t = s) ∧
  (∀ (s : State) (c : Fin 4) (x : CanOut) (l : List CanOut), (s.canCh c.val).busOff = true → c.val < s.net.can.length → s.canHost c.val = true → (s.canCh c.val).sending = none → (s.canCh c.val).safety = x :: l → soleCond s .canBusOff c.val →
    Ran (.canBusOffRecovery c) s fun t => (t.canCh c.val).busOff = false ∧ Left t .canBusOff c.val ∧ t.out = [.can c x.frame] ∧ t.vals = s.vals ∧ t.sys = s.sys ∧ t.sec = s.sec) ∧
  (∀ (s : State), (s.sys.dev.serves = false ∨ s.net.redundantHeard = false ∨ s.elapsed (s.canCh (s.getN O.HOST_CH_ACTIVE)).lastRx < 1000 * s.getN O.HOST_TMO) → Ran .hostTmoExpiry s fun t => t = s) ∧
  (∀ (s : State) (f r : Fin 4), f ≠ r → s.sys.dev.serves = true → s.net.redundantHeard = true → s.getN O.HOST_CH_ACTIVE = f.val → 1000 * s.getN O.HOST_TMO ≤ s.elapsed (s.canCh f.val).lastRx → s.net.takeover = none → s.net.failedCh = none →
    s.getN O.REDUNDANT_CH = r.val → s.get O.CAN_ROLE r.val = 2 → s.net.can.length = 4 → s.carrier = false → (s.canCh r.val).sending = none → (s.canCh r.val).busOff = true → (∀ d, (FaultCode.canTakeover, d) ∉ s.coll.conds) → s.sec.serviceHandle = none →
    Ran .hostTmoExpiry s fun t =>
      t.net.failedCh = some f.val ∧ t.net.takeover = none ∧ t.get O.HOST_CH_ACTIVE = r.val ∧ (t.canCh r.val).safety = (s.canCh f.val).safety ∧ (t.canCh r.val).process = (s.canCh f.val).process ∧ (t.canCh r.val).service = (s.canCh f.val).service ∧
      (t.canCh f.val).queued = 0 ∧ bit (t.get O.DEG_MODES) 8 = true ∧ (FaultCode.canTakeover, 0) ∈ t.coll.conds ∧ (∀ x ∈ t.sec.sessions, x ∈ s.sec.sessions ∧ x.port ≠ .can f) ∧ t.sys = s.sys ∧ t.isl = s.isl ∧ t.nv = s.nv ∧ t.mem = s.mem) ∧
  (∀ (s : State), s.sys.dev.serves = true → s.net.redundantHeard = true → 1000 * s.getN O.HOST_TMO ≤ s.elapsed (s.canCh (s.getN O.HOST_CH_ACTIVE)).lastRx → s.net.takeover = none → s.redundant = none → (FaultCode.canHostLost, 0) ∉ s.coll.conds →
    Ran .hostTmoExpiry s fun t => Reported s t .canHostLost 0 ∧ t.net = s.net ∧ t.sec = s.sec ∧ t.sys = s.sys)

/-- A link change stands in LINK_STATE; a link that drops is reported and leaves when it returns. An ARP request for the own address is answered, resolves the sender and sends what waited for it; an echo is answered at once or after resolution; a resolution that fails drops what waits. A PTP message sets offset, time and state, its loss is reported. A discarded datagram is counted. An SPI transaction shifts out STATUS; a bad one is counted, reported and noted in the next STATUS; a request is served; a read shifts out the oldest reply and frees its buffers; process reads and writes take their frame. A closed port ignores them all. (13_networks_span.md Ethernet, 13_networks_span.md SPI host port, 12_object_dictionary.md Process frames) -/
def Obligations.EthernetAndSpi : Prop :=
  (∀ (s : State) (v : Fin 5), (s.sys.dev.runs = false ∨ s.getB O.ETH_ENABLE = false) → Ran (.ethLinkChange v) s fun t => t = s) ∧
  (∀ (s : State) (v : Fin 5), s.sys.dev.runs = true → s.getB O.ETH_ENABLE = true → v.val ≠ 0 → soleCond s .ethLinkDown 0 → Ran (.ethLinkChange v) s fun t =>
      t.get O.LINK_STATE = (v.val : Nat) ∧ Left t .ethLinkDown 0 ∧ onlyVals [O.LINK_STATE.key 0] s t ∧ t.net = s.net ∧ t.sys = s.sys ∧ t.out = s.out) ∧
  (∀ (s : State), s.sys.dev.runs = true → s.getB O.ETH_ENABLE = true → s.get O.LINK_STATE ≠ 0 → (FaultCode.ethLinkDown, 0) ∉ s.coll.conds → Ran (.ethLinkChange 0) s fun t =>
      t.get O.LINK_STATE = 0 ∧ Reported s t .ethLinkDown 0 ∧ reportFrame s t ∧ onlyVals [O.LINK_STATE.key 0, O.LOG_SUPPRESSED.key 0] s t) ∧
  (∀ (s : State) (a b : Word), (s.ethUp = false ∨ s.getN O.IP_ADDR ≠ a.toNat) → Ran (.arpRequest a b) s fun t => t = s) ∧
  (∀ (s : State) (a b : Word), s.ethUp = true → s.getN O.IP_ADDR = a.toNat → Ran (.arpRequest a b) s fun t =>
      b ∈ t.net.arp ∧ (∀ x ∈ t.net.arpWait, x ∈ s.net.arpWait ∧ x.1 ≠ b) ∧ t.out = Sent.eth 1 b [] :: (s.net.arpWait.filter fun x => x.1 == b).map Prod.snd ∧
      t = { s with out := t.out, net := { s.net with arp := t.net.arp, arpWait := t.net.arpWait } }) ∧
  (∀ (s : State) (a b : Word) (d : List Byte), (s.ethUp = false ∨ s.getN O.IP_ADDR ≠ a.toNat) → Ran (.icmpEcho a b d) s fun t => t = s) ∧
  (∀ (s : State) (a b : Word) (d : List Byte), s.ethUp = true → s.getN O.IP_ADDR = a.toNat → Ran (.icmpEcho a b d) s fun t =>
      (b ∈ s.net.arp → t = { s with out := [.eth 2 b d] }) ∧ (b ∉ s.net.arp → t = { s with out := [.eth 0 b []], net := { s.net with arpWait := s.net.arpWait ++ [(b, .eth 2 b d)] } })) ∧
  (∀ (s : State) (b : Word), Ran (.arpTimeout b) s fun t => (∀ x ∈ s.net.arpWait, x ∈ t.net.arpWait ↔ x.1 ≠ b) ∧ t = { s with net := { s.net with arpWait := t.net.arpWait } }) ∧
  (∀ (s : State) (d : Int) (n : Nat), s.ptpOn = false → Ran (.ptpMessage d n) s fun t => t = s) ∧
  (∀ (s : State) (d : Int) (n : Nat), s.ptpOn = true → soleCond s .ptpUnsync 0 → Ran (.ptpMessage d n) s fun t =>
      t.get O.PTP_OFFSET = O.PTP_OFFSET.ty.fit d ∧ t.get O.PTP_TIME = O.PTP_TIME.ty.fit n ∧ t.get O.PTP_STATE = 2 ∧ Left t .ptpUnsync 0 ∧
      onlyVals [O.PTP_OFFSET.key 0, O.PTP_TIME.key 0, O.PTP_STATE.key 0] s t ∧ t.net = s.net ∧ t.sys = s.sys) ∧
  (∀ (s : State), (s.sys.dev.runs = false ∨ s.getB O.ETH_ENABLE = false ∨ s.getB O.PTP_ENABLE = false) → Ran .ptpSyncLoss s fun t => t = s) ∧
  (∀ (s : State), s.sys.dev.runs = true → s.getB O.ETH_ENABLE = true → s.getB O.PTP_ENABLE = true → (FaultCode.ptpUnsync, 0) ∉ s.coll.conds → Ran .ptpSyncLoss s fun t =>
      t.get O.PTP_STATE = 1 ∧ Reported s t .ptpUnsync 0 ∧ reportFrame s t ∧ onlyVals [O.PTP_STATE.key 0, O.LOG_SUPPRESSED.key 0] s t) ∧
  (∀ (s : State) (b : Bool), (s.ethUp = false ∨ s.sys.dev.serves = false) → Ran (.datagramDiscarded b) s fun t => t = s) ∧
  (∀ (s : State), s.ethUp = true → s.sys.dev.serves = true → Ran (.datagramDiscarded true) s fun t =>
      t.get O.REQ_ABORTED = countNext (8 * O.REQ_ABORTED.ty.bytes) (s.getN O.REQ_ABORTED) ∧ onlyObjects [O.REQ_ABORTED.key 0] s t) ∧
  (∀ (s : State), s.ethUp = true → s.sys.dev.serves = true → Ran (.datagramDiscarded false) s fun t =>
      t.get O.RX_DISCARDED = countNext (8 * O.RX_DISCARDED.ty.bytes) (s.getN O.RX_DISCARDED) ∧ onlyObjects [O.RX_DISCARDED.key 0] s t) ∧
  (∀ (s : State) (n p : Fin 8) (d : List Byte) (ok : Bool) (i : Instr), i ∈ [Instr.spiServiceReq n d ok, .spiServiceRd, .spiProcWr p d, .spiProcRd p, .spiBadTransaction] → s.spiOpen = false → Ran i s fun t => t = s) ∧
  (∀ (s : State) (n : Fin 8) (d : List Byte) (i : Instr), i ∈ [Instr.spiServiceReq n d false, .spiBadTransaction] → s.spiOpen = true → (FaultCode.spiFrameErr, 0) ∉ s.coll.conds → Ran i s fun t =>
      t.out = [.spi [s.spiStatus, 0, 0, 0]] ∧ t.net = { s.net with spiBad := true } ∧ t.spiStatus.getLsbD 2 = true ∧ t.get O.SPI_ERRORS = countNext (8 * O.SPI_ERRORS.ty.bytes) (s.getN O.SPI_ERRORS) ∧
      Reported s t .spiFrameErr 0 ∧ onlyVals [O.SPI_ERRORS.key 0, O.LOG_SUPPRESSED.key 0] s t ∧ t.dict = s.dict ∧ t.sys = s.sys) ∧
  (∀ (s : State) (r : Req) (d : List Byte) (idx : Half) (sub : Byte), s.spiOpen = true → r = ⟨.spi, 0, 5, 0, true, 8⟩ → d = [1#8, 5#8] ++ leBytes 2 idx.toNat ++ [sub, 0#8, 0#8, 0#8] → takesIn s r 0x01 (keyOf idx sub) = true →
    isSubZero (keyOf idx sub) = false → findObj (keyOf idx sub) = none → (FaultCode.spiFrameErr, 0) ∉ s.coll.conds → Ran (.spiServiceReq 0 d true) s fun t =>
      (∃ l : List Sent, t.out = .spi [s.spiStatus, 0, 0, 0] :: l) ∧ Answered t (reqId s r 0x01 (keyOf idx sub)) (.abort 0x10) ∧ t.net.spiQ = s.net.spiQ ++ [(reqId s r 0x01 (keyOf idx sub), .abort 0x10)] ∧ t.net.spiBad = false ∧
      t.dict.poolUsed = s.dict.poolUsed + s.bufsFor 8 ∧ onlyVals [O.REQ_ACCEPTED.key 0, O.REQ_ABORTED.key 0] s t ∧ t.sys = s.sys) ∧
  (∀ (s : State), s.spiOpen = true → s.net.spiQ = [] → (FaultCode.spiFrameErr, 0) ∉ s.coll.conds → Ran .spiServiceRd s fun t =>
      t = { s with out := [.spi ([s.spiStatus, 0, 0, 0] ++ spiResponse [])], net := { s.net with spiBad := false } }) ∧
  (∀ (s : State) (id : ReqId) (r : Reply) (l : List (ReqId × Reply)), s.spiOpen = true → s.net.spiQ = (id, r) :: l → (FaultCode.spiFrameErr, 0) ∉ s.coll.conds → Ran .spiServiceRd s fun t =>
      t.net = { s.net with spiQ := l, spiBad := false } ∧ t.dict = { s.dict with poolUsed := s.dict.poolUsed - id.bufs } ∧ t.out = [.spi ([s.spiStatus, 0, 0, 0] ++ spiResponse (replyFrame id r))] ∧
      t = { s with out := t.out, net := t.net, dict := t.dict }) ∧
  (∀ (s : State) (p : Fin 8) (d : List Byte), s.spiOpen = true → s.get O.PROC_PORT p.val ≠ 3 → (FaultCode.spiFrameErr, 0) ∉ s.coll.conds → Ran (.spiProcWr p d) s fun t =>
      t = { s with out := [.spi [s.spiStatus, 0, 0, 0]], net := { s.net with spiBad := false } }) ∧
  (∀ (s : State) (p : Fin 8) (d : List Byte), s.spiOpen = true → s.get O.PROC_PORT p.val = 3 → s.getB O.PROC_AUTH p.val = false → s.get O.RX_COUNT p.val = 1 → s.get O.RX_ENTRY (16 * p.val) = (O.CMD_MODE.key 0 * 256 + 8 : Nat) → d = [1] →
    s.carrier = false → s.sourceOk .spi = true → s.get O.SPAN_ROLE ≠ 1 → (FaultCode.spiFrameErr, 0) ∉ s.coll.conds → Ran (.spiProcWr p d) s fun t =>
      t.get O.CMD_MODE = 1 ∧ t.out = [.spi [s.spiStatus, 0, 0, 0]] ∧ onlyVals [O.CMD_MODE.key 0] s t ∧ t.dict = s.dict ∧ t.sys = s.sys ∧ t.isl = s.isl) ∧
  (∀ (s : State) (p : Fin 8), s.spiOpen = true → (FaultCode.spiFrameErr, 0) ∉ s.coll.conds → Ran (.spiProcRd p) s fun t =>
      t = { s with out := [.spi ([s.spiStatus, 0, 0, 0] ++ spiResponse (s.net.samples.getD p.val []))], net := { s.net with spiBad := false } })

/-- ANNOUNCE_TIMER sends ANNOUNCE with the nonce of this start-up on the ports that are up, where a ring key is loaded. An authenticated ANNOUNCE of another manager ends the manager role; at a worker that has not joined it starts a join with a fresh nonce. The worker repeats its JOIN_REQ until it has joined. The manager takes an authenticated JOIN_REQ in with a new session and answers it, and reports a number that another serial holds. An authenticated JOIN_ACK over both nonces ends the join. A frame whose CMAC is wrong is counted and reported; one with a bad CRC, or on a port that is down, does nothing. (13_networks_span.md Span link, 13_networks_span.md Table 13.3, 14_security.md Key material) -/
def Obligations.SpanNodesJoin : Prop :=
  (∀ (s : State) (h : SpanHdr) (serial nonce : DWord) (i : Instr), i ∈ [Instr.announce h serial nonce, .joinReq h serial nonce, .joinAck h serial nonce] → (s.spanUp h.port.val = false ∨ h.crcOk = false) → Ran i s fun t => t = s) ∧
  (∀ (s : State), (s.get O.SPAN_ROLE ≠ 1 ∨ s.ringGen = 0) → Ran .announceTimer s fun t => t = s) ∧
  (∀ (s : State) (nm : DWord), s.get O.SPAN_ROLE = 1 → s.ringGen ≠ 0 → s.net.nonceM = some nm → Ran .announceTimer s fun t =>
      t.out = ((List.range 2).filter s.spanUp).map (fun p => .span (Fin.ofNat 2 p) 0x01 0xFF (s.net.annTx + 1) (serialBytes ++ leBytes 8 nm.toNat)) ∧ t = { s with out := t.out, net := { s.net with annTx := s.net.annTx + 1 } }) ∧
  (∀ (s : State), s.get O.SPAN_ROLE = 1 → s.ringGen ≠ 0 → s.net.nonceM = none → s.sec.trngBad = false → Ran .announceTimer s fun t =>
      t.net = { s.net with annTx := s.net.annTx + 1, nonceM := some (BitVec.ofNat 64 (Config.trng s.freeIx)) } ∧ t.freeIx = s.freeIx + 1 ∧ t.vals = s.vals ∧ t.sys = s.sys) ∧
  (∀ (s : State) (h : SpanHdr) (serial nonce : DWord), s.spanUp h.port.val = true → h.crcOk = true → h.dst.toNat = s.ownNode → s.get O.SPAN_ROLE = 1 → (FaultCode.spanRoleConflict, 0) ∉ s.coll.conds → (FaultCode.spanAuthFail, h.port.val) ∉ s.coll.conds → (s.net.ports.getD h.port.val State.resetPort).fails = [] →
    Ran (.announce h serial nonce) s fun t =>
      (s.spanMacOk [] 0x01 h (leBytes 8 serial.toNat ++ leBytes 8 nonce.toNat) = true → (serial ≠ Config.serialNumber → t.get O.SPAN_ROLE = 3 ∧ (FaultCode.spanRoleConflict, 0) ∈ t.coll.conds) ∧ (serial = Config.serialNumber → t = { s with out := [] })) ∧
      (s.spanMacOk [] 0x01 h (leBytes 8 serial.toNat ++ leBytes 8 nonce.toNat) = false → t.get O.PORT_AUTH_FAIL h.port.val = countNext (8 * O.PORT_AUTH_FAIL.ty.bytes) (s.getN O.PORT_AUTH_FAIL h.port.val) ∧ (FaultCode.spanAuthFail, h.port.val) ∈ t.coll.conds ∧ t.get O.SPAN_ROLE = 1) ∧ t.sys = s.sys ∧ t.isl = s.isl ∧ t.nv = s.nv) ∧
  (∀ (s : State) (h : SpanHdr) (serial nonce : DWord), s.spanUp h.port.val = true → h.crcOk = true → h.dst.toNat = s.ownNode → s.get O.SPAN_ROLE = 2 → (s.peer 0).joined = false → (s.peer 0).nonceM ≠ some nonce → s.sec.trngBad = false → s.net.peers.length = 8 →
    Ran (.announce h serial nonce) s fun t =>
      (s.spanMacOk [] 0x01 h (leBytes 8 serial.toNat ++ leBytes 8 nonce.toNat) = true → (t.peer 0).nonceM = some nonce ∧ (t.peer 0).nonceW = BitVec.ofNat 64 (Config.trng s.freeIx) ∧ (t.peer 0).joined = false ∧
        (∃ f : Nat, Sent.span h.port 0x02 0 f (serialBytes ++ leBytes 8 (t.peer 0).nonceW.toNat) ∈ t.out) ∧ t.vals = s.vals ∧ t.sys = s.sys)) ∧
  (∀ (s : State), (s.worker = false ∨ (s.peer 0).joined = true ∨ (s.peer 0).nonceM = none ∨ s.ringGen = 0) → Ran .joinRetry s fun t => t = s) ∧
  (∀ (s : State) (p : Fin 2), s.worker = true → (s.peer 0).joined = false → (s.peer 0).nonceM ≠ none → s.ringGen ≠ 0 → s.spanUp p.val = true → Ran .joinRetry s fun t =>
      (∃ f : Nat, Sent.span p 0x02 0 f (serialBytes ++ leBytes 8 (s.peer 0).nonceW.toNat) ∈ t.out) ∧ t = { s with out := t.out, freeIx := s.freeIx + 1 }) ∧
  (∀ (s : State) (h : SpanHdr) (serial nonce nm : DWord), s.spanUp h.port.val = true → h.crcOk = true → h.dst.toNat = s.ownNode → s.get O.SPAN_ROLE = 1 → 0 < h.src.toNat → h.src.toNat < 8 → s.net.nonceM = some nm → s.net.peers.length = 8 → s.get O.NODE_STATE (h.src.toNat - 1) ≠ 2 →
    Ran (.joinReq h serial nonce) s fun t =>
      (s.spanMacOk [] 0x02 h (leBytes 8 serial.toNat ++ leBytes 8 nonce.toNat) = true → t.get O.NODE_STATE (h.src.toNat - 1) = 2 ∧ t.get O.N_SERIAL (h.src.toNat - 1) = (serial.toNat : Nat) ∧ t.peer h.src.toNat = ⟨true, some nm, nonce, 0, [], 0, s.now⟩ ∧
        (∃ f : Nat, Sent.span h.port 0x03 h.src.toNat f (leBytes 8 nonce.toNat ++ leBytes 8 nm.toNat) ∈ t.out) ∧ onlyVals [O.NODE_STATE.key (h.src.toNat - 1), O.N_SERIAL.key (h.src.toNat - 1)] s t ∧ t.sys = s.sys)) ∧
  (∀ (s : State) (h : SpanHdr) (serial nonce nm : DWord), s.spanUp h.port.val = true → h.crcOk = true → h.dst.toNat = s.ownNode → s.get O.SPAN_ROLE = 1 → 0 < h.src.toNat → h.src.toNat < 8 → s.net.nonceM = some nm → s.get O.NODE_STATE (h.src.toNat - 1) = 2 → s.get O.N_SERIAL (h.src.toNat - 1) ≠ serial.toNat →
    (FaultCode.spanNodeConflict, h.src.toNat) ∉ s.coll.conds → Ran (.joinReq h serial nonce) s fun t =>
      (s.spanMacOk [] 0x02 h (leBytes 8 serial.toNat ++ leBytes 8 nonce.toNat) = true → Reported s t .spanNodeConflict h.src.toNat ∧ t.net = s.net ∧ t.get O.N_SERIAL (h.src.toNat - 1) = s.get O.N_SERIAL (h.src.toNat - 1)) ∧ t.sys = s.sys) ∧
  (∀ (s : State) (h : SpanHdr) (nonceM nonceW : DWord), s.spanUp h.port.val = true → h.crcOk = true → h.dst.toNat = s.ownNode → s.worker = true → (s.peer 0).joined = false → (s.peer 0).nonceM = some nonceM → (s.peer 0).nonceW = nonceW → s.net.peers.length = 8 → (FaultCode.spanMgrLost, 0) ∉ s.coll.conds →
    (FaultCode.spanAuthFail, h.port.val) ∉ s.coll.conds → (s.net.ports.getD h.port.val State.resetPort).fails = [] → Ran (.joinAck h nonceM nonceW) s fun t =>
      (s.spanMacOk [] 0x03 h (leBytes 8 nonceW.toNat ++ leBytes 8 nonceM.toNat) = true → t.peer 0 = { s.peer 0 with joined := true, high := 0, seen := [], tx := 0 } ∧ t.net.lastCyclic = s.now ∧ t.vals = s.vals) ∧ (s.spanMacOk [] 0x03 h (leBytes 8 nonceW.toNat ++ leBytes 8 nonceM.toNat) = false → t.get O.PORT_AUTH_FAIL h.port.val = countNext (8 * O.PORT_AUTH_FAIL.ty.bytes) (s.getN O.PORT_AUTH_FAIL h.port.val) ∧ (FaultCode.spanAuthFail, h.port.val) ∈ t.coll.conds ∧ t.peer 0 = s.peer 0) ∧ t.sys = s.sys) ∧
  (∀ (s : State) (h : SpanHdr) (nonceM nonceW : DWord), s.spanUp h.port.val = true → h.crcOk = true → h.dst.toNat = s.ownNode → s.worker = true → ((s.peer 0).nonceM ≠ some nonceM ∨ (s.peer 0).nonceW ≠ nonceW) → Ran (.joinAck h nonceM nonceW) s fun t =>
      (s.spanMacOk [] 0x03 h (leBytes 8 nonceW.toNat ++ leBytes 8 nonceM.toNat) = true → t = { s with out := [] }) ∧ t.sys = s.sys)

/-- A worker takes the commands of an authenticated CYCLIC frame that is no replay and answers with STATUS; the manager takes a STATUS in and reports a worker in its safe state; a SERVICE frame is served at the worker, a SERVICE_REPLY answers its requester and frees its buffers, a missing one is refused. DELAY frames are answered and measured. SPAN_CYCLE sends CYCLIC to each joined worker at every N-th boundary. A silent manager or worker is reported. A port that goes down opens the ring, one that comes up closes it, and a quarantine ends with its count at 0. A replayed frame is counted as forged; a duplicate does nothing. (13_networks_span.md Span link, 13_networks_span.md Table 13.4, 12_object_dictionary.md Process frames) -/
def Obligations.SpanSessionTraffic : Prop :=
  (∀ (s : State) (h : SpanHdr) (c : CyclicData) (d : SpanStatusData) (b : List Byte) (i : Instr), i ∈ [Instr.cyclic h c 0 false, .spanStatus h d, .spanService h b, .spanServiceReply h b] → s.spanUp h.port.val = true → h.crcOk = true →
    h.dst.toNat = s.ownNode → ((s.peer h.src.toNat).joined = false ∨ (s.peer h.src.toNat).nonceM = none) → Ran i s fun t => t = { s with out := [] }) ∧
  (∀ (s : State) (h : SpanHdr) (c : CyclicData) (nm : DWord), s.spanUp h.port.val = true → h.crcOk = true → h.dst.toNat = s.ownNode → (s.peer h.src.toNat).joined = true → (s.peer h.src.toNat).nonceM = some nm → h.src.toNat < 8 → h.src.toNat ≠ s.ownNode → (s.peer h.src.toNat).duplicate h.fresh.toNat = false → (s.peer h.src.toNat).replayed h.fresh.toNat = false → s.worker = true → s.sys.dev.serves = true → s.carrier = false → s.net.peers.length = 8 → c.controlWord = 0 → s.get O.CONTROL_WORD = 0 → (s.sys.dev = .ready ∨ s.sys.dev = .standby) →
    s.sup.readyPhase = .idle → h.src = 0 → s.islandsReady = false → (∀ e ∈ s.cyclicFields c, s.procEntry (.span 0) e = none) → Ran (.cyclic h c 0 false) s fun t =>
      (s.spanMacOk (sessionCtx (s.sessionNode h.src.toNat) nm (s.peer h.src.toNat).nonceW) 0x10 h (cyclicBytes c) = true → (∀ e ∈ s.cyclicFields c, t.getKey e.1 = e.2) ∧ t.net.lastCyclic = s.now ∧ (t.peer 0).seen.head? = some h.fresh.toNat ∧ (∃ f : Nat, ∃ x : List Byte, Sent.span h.port 0x11 0 f x ∈ t.out) ∧ t.pins = s.pins ∧ t.nv = s.nv)) ∧
  (∀ (s : State) (h : SpanHdr) (c : CyclicData) (nm : DWord), s.spanUp h.port.val = true → h.crcOk = true → h.dst.toNat = s.ownNode → (s.peer h.src.toNat).joined = true → (s.peer h.src.toNat).nonceM = some nm → h.src.toNat < 8 → h.src.toNat ≠ s.ownNode → (FaultCode.spanAuthFail, h.port.val) ∉ s.coll.conds →
    (s.net.ports.getD h.port.val State.resetPort).fails = [] → ((s.peer h.src.toNat).replayed h.fresh.toNat = true ∨ (s.peer h.src.toNat).duplicate h.fresh.toNat = true) → Ran (.cyclic h c 0 false) s fun t =>
      (s.spanMacOk (sessionCtx (s.sessionNode h.src.toNat) nm (s.peer h.src.toNat).nonceW) 0x10 h (cyclicBytes c) = true → ((s.peer h.src.toNat).duplicate h.fresh.toNat = true → t = { s with out := [] }) ∧ ((s.peer h.src.toNat).duplicate h.fresh.toNat = false → t.get O.PORT_AUTH_FAIL h.port.val = countNext (8 * O.PORT_AUTH_FAIL.ty.bytes) (s.getN O.PORT_AUTH_FAIL h.port.val) ∧ (FaultCode.spanAuthFail, h.port.val) ∈ t.coll.conds)) ∧
      (s.spanMacOk (sessionCtx (s.sessionNode h.src.toNat) nm (s.peer h.src.toNat).nonceW) 0x10 h (cyclicBytes c) = false → t.get O.PORT_AUTH_FAIL h.port.val = countNext (8 * O.PORT_AUTH_FAIL.ty.bytes) (s.getN O.PORT_AUTH_FAIL h.port.val) ∧ (FaultCode.spanAuthFail, h.port.val) ∈ t.coll.conds) ∧ t.net.peers = s.net.peers ∧ t.sys = s.sys ∧ t.isl = s.isl ∧ t.dict = s.dict) ∧
  (∀ (s : State) (h : SpanHdr) (d : SpanStatusData) (nm : DWord), s.spanUp h.port.val = true → h.crcOk = true → h.dst.toNat = s.ownNode → (s.peer h.src.toNat).joined = true → (s.peer h.src.toNat).nonceM = some nm → h.src.toNat < 8 → h.src.toNat ≠ s.ownNode → (s.peer h.src.toNat).duplicate h.fresh.toNat = false → (s.peer h.src.toNat).replayed h.fresh.toNat = false → s.get O.SPAN_ROLE = 1 → 0 < h.src.toNat → s.net.peers.length = 8 → (FaultCode.spanNodeLost, h.src.toNat) ∉ s.coll.conds → (FaultCode.spanNodeSafe, h.src.toNat) ∉ s.coll.conds → Ran (.spanStatus h d) s fun t =>
      (s.spanMacOk (sessionCtx (s.sessionNode h.src.toNat) nm (s.peer h.src.toNat).nonceW) 0x11 h (spanStatusBytes d) = true → t.get O.N_STATUS_WORD (h.src.toNat - 1) = (d.statusWord.toNat : Nat) ∧ t.get O.N_TORQUE_EST (h.src.toNat - 1) = (d.torqueEst.toNat : Nat) ∧
        t.get O.N_T_AVAIL_POS (h.src.toNat - 1) = (d.availPos.toNat : Nat) ∧ t.get O.N_T_AVAIL_NEG (h.src.toNat - 1) = (d.availNeg.toNat : Nat) ∧ t.get O.N_SPEED (h.src.toNat - 1) = d.speed.toInt ∧
        t.get O.N_SAFE_STATE (h.src.toNat - 1) = (d.safeState.toNat : Nat) ∧ t.get O.N_ACTIVE_CODE (h.src.toNat - 1) = (d.activeCode.toNat : Nat) ∧ t.get O.NODE_STATE (h.src.toNat - 1) = 2 ∧ (t.peer h.src.toNat).last = s.now ∧
        (d.safeState ≠ 0xFF#8 → Reported s t .spanNodeSafe h.src.toNat) ∧ (d.safeState = 0xFF#8 → t.coll = s.coll)) ∧ t.sys = s.sys ∧ t.isl = s.isl ∧ t.dict = s.dict) ∧
  (∀ (s : State) (h : SpanHdr) (b : List Byte) (r : Req) (idx : Half) (sub : Byte) (nm : DWord), s.spanUp h.port.val = true → h.crcOk = true → h.dst.toNat = s.ownNode → (s.peer h.src.toNat).joined = true → (s.peer h.src.toNat).nonceM = some nm → h.src.toNat < 8 → h.src.toNat ≠ s.ownNode → (s.peer h.src.toNat).duplicate h.fresh.toNat = false → (s.peer h.src.toNat).replayed h.fresh.toNat = false → s.worker = true → r = ⟨.span (Fin.ofNat 8 h.src.toNat), Fin.ofNat 8 s.ownNode, 5, 0, true, 8⟩ →
    b = [1#8, 5#8] ++ leBytes 2 idx.toNat ++ [sub, 0#8, 0#8, 0#8] → takesIn s r 0x01 (keyOf idx sub) = true → isSubZero (keyOf idx sub) = false → findObj (keyOf idx sub) = none → Ran (.spanService h b) s fun t =>
      (s.spanMacOk (sessionCtx (s.sessionNode h.src.toNat) nm (s.peer h.src.toNat).nonceW) 0x20 h b = true → Answered t (reqId s r 0x01 (keyOf idx sub)) (.abort 0x10) ∧ onlyVals [O.REQ_ACCEPTED.key 0, O.REQ_ABORTED.key 0] s t) ∧ t.sys = s.sys ∧ t.isl = s.isl) ∧
  (∀ (s : State) (h : SpanHdr) (b : List Byte) (id : ReqId) (nm : DWord), s.spanUp h.port.val = true → h.crcOk = true → h.dst.toNat = s.ownNode → (s.peer h.src.toNat).joined = true → (s.peer h.src.toNat).nonceM = some nm → h.src.toNat < 8 → h.src.toNat ≠ s.ownNode → (s.peer h.src.toNat).duplicate h.fresh.toNat = false → (s.peer h.src.toNat).replayed h.fresh.toNat = false → s.net.relays = [(h.src.toNat, id)] → id.seq = b.getD 1 0 → id.port = .spi → Ran (.spanServiceReply h b) s fun t =>
      (s.spanMacOk (sessionCtx (s.sessionNode h.src.toNat) nm (s.peer h.src.toNat).nonceW) 0x21 h b = true → Answered t id (frameReply b) ∧ t.net.relays = [] ∧ t.net.spiQ = s.net.spiQ ++ [(id, frameReply b)] ∧ t.vals = s.vals) ∧ t.sys = s.sys ∧ t.isl = s.isl) ∧
  (∀ (s : State) (n : Fin 8), (∀ x ∈ s.net.relays, x.1 ≠ n.val) → Ran (.relayReplyTimeout n) s fun t => t = s) ∧
  (∀ (s : State) (n : Fin 8) (id : ReqId) (l : List (Nat × ReqId)), s.net.relays = (n.val, id) :: l → Ran (.relayReplyTimeout n) s fun t =>
      Answered t id (.abort 0x16) ∧ t.net.relays = l ∧ requestFrame { s with net := { s.net with relays := l } } t ∧ onlyVals [O.REQ_ABORTED.key 0] s t) ∧
  (∀ (s : State) (h : SpanHdr), s.spanUp h.port.val = true → h.crcOk = true → h.dst.toNat = s.ownNode → s.ringGen ≠ 0 → Ran (.delayReq h) s fun t =>
      (s.spanMacOk [] 0x30 h ([]) = true → (∃ f : Nat, t.out = [.span h.port 0x31 0xFE f []]) ∧ t = { s with out := t.out, freeIx := s.freeIx + 1 }) ∧ t.sys = s.sys) ∧
  (∀ (s : State) (h : SpanHdr) (a b : Int), s.spanUp h.port.val = true → h.crcOk = true → h.dst.toNat = s.ownNode → Ran (.delayResp h a b) s fun t =>
      (s.spanMacOk [] 0x31 h ([]) = true → t.get O.LINK_DELAY h.port.val = O.LINK_DELAY.ty.fit (quantQ (mkRat (a - b) 2)) ∧ onlyObjects [O.LINK_DELAY.key h.port.val] { s with out := [] } t) ∧ t.sys = s.sys) ∧
  (∀ (s : State), Ran .delayExchangeTimer s fun t => (∀ p : Fin 2, s.spanUp p.val = true → s.ringGen ≠ 0 → ∃ f : Nat, Sent.span p 0x30 0xFE f [] ∈ t.out) ∧ (s.ringGen = 0 → t.out = []) ∧ t = { s with out := t.out, freeIx := t.freeIx }) ∧
  (∀ (s : State), (s.get O.SPAN_ROLE ≠ 1 ∨ s.carrier = true ∧ s.net.boundaries < s.spanN) → Ran .spanCycle s fun t => t = s) ∧
  (∀ (s : State) (n : Fin 8) (p : Fin 2), s.get O.SPAN_ROLE = 1 → (s.carrier = false ∨ s.spanN ≤ s.net.boundaries) → n ≠ 0 → s.get O.NODE_STATE (n.val - 1) = 2 → s.net.peers.length = 8 → s.spanUp p.val = true → (∀ k : Fin 8, k ≠ 0 → k ≠ n → s.get O.NODE_STATE (k.val - 1) ≠ 2) → Ran .spanCycle s fun t =>
      t.net.boundaries = 0 ∧ (t.peer n.val).tx = (s.peer n.val).tx + 1 ∧ (∃ x : List Byte, Sent.span p 0x10 n.val ((s.peer n.val).tx + 1) x ∈ t.out) ∧ t.vals = s.vals ∧ t.sys = s.sys) ∧
  (∀ (s : State), (s.worker = false ∨ s.sys.dev.runs = false ∨ s.elapsed s.net.lastCyclic < 1000 * s.getN O.SPAN_TMO) → Ran .spanMgrTimeout s fun t => t = s) ∧
  (∀ (s : State), s.worker = true → s.sys.dev.runs = true → 1000 * s.getN O.SPAN_TMO ≤ s.elapsed s.net.lastCyclic → (FaultCode.spanMgrLost, 0) ∉ s.coll.conds → s.net.peers.length = 8 → Ran .spanMgrTimeout s fun t =>
      Reported s t .spanMgrLost 0 ∧ (t.peer 0).joined = false ∧ ((s.peer 0).joined = true → (t.peer 0).nonceM = none ∧ t.get O.SYNC_STATE = 0) ∧ t.sys = s.sys) ∧
  (∀ (s : State) (n : Fin 8), (s.get O.SPAN_ROLE ≠ 1 ∨ n = 0 ∨ bit (s.get O.NODES_EXPECTED) n.val = false ∨ s.sys.dev.runs = false ∨ s.elapsed (s.peer n.val).last < 1000 * s.getN O.SPAN_TMO) → Ran (.spanNodeTimeout n) s fun t => t = s) ∧
  (∀ (s : State) (n : Fin 8), s.get O.SPAN_ROLE = 1 → n ≠ 0 → bit (s.get O.NODES_EXPECTED) n.val = true → s.sys.dev.runs = true → 1000 * s.getN O.SPAN_TMO ≤ s.elapsed (s.peer n.val).last → (FaultCode.spanNodeLost, n.val) ∉ s.coll.conds → Ran (.spanNodeTimeout n) s fun t =>
      Reported s t .spanNodeLost n.val ∧ t.get O.NODE_STATE (n.val - 1) = (if s.get O.NODE_STATE (n.val - 1) = 2 then 3 else s.get O.NODE_STATE (n.val - 1)) ∧ reportFrame s t) ∧
  (∀ (s : State) (p : Fin 2), s.node = false → Ran (.spanPortDown p) s fun t => t = s) ∧
  (∀ (s : State) (p : Fin 2), (s.node = false ∨ (s.net.ports.getD p.val State.resetPort).up = true) → Ran (.spanPortUp p) s fun t => t = s) ∧
  (∀ (s : State) (p : Fin 2), s.node = true → s.net.ports.length = 2 → (s.net.ports.getD (1 - p.val) State.resetPort).up = true → (s.net.ports.getD (1 - p.val) State.resetPort).quarantined = false → (FaultCode.spanRingOpen, p.val) ∉ s.coll.conds → Ran (.spanPortDown p) s fun t =>
      (t.net.ports.getD p.val State.resetPort).up = false ∧ t.get O.RING_STATE = 1 ∧ Reported s t .spanRingOpen p.val ∧ t.sys = s.sys) ∧
  (∀ (s : State) (p : Fin 2), s.node = true → s.net.ports = [⟨p = 1, 0, [], false⟩, ⟨p = 0, 0, [], false⟩] → Ran (.spanPortUp p) s fun t =>
      t.net.ports.getD p.val State.resetPort = ⟨true, s.now, [], false⟩ ∧ t.get O.RING_STATE = 0 ∧ onlyVals [O.RING_STATE.key 0] s t ∧ t = { s with vals := t.vals, net := { s.net with ports := t.net.ports } }) ∧
  (∀ (s : State) (p : Fin 2), (s.net.ports.getD p.val State.resetPort).quarantined = false → Ran (.quarantineEnd p) s fun t => t = s) ∧
  (∀ (s : State) (p : Fin 2), (s.net.ports.getD p.val State.resetPort).quarantined = true → soleCond s .spanQuarantine p.val → Ran (.quarantineEnd p) s fun t =>
      t.get O.PORT_AUTH_FAIL p.val = 0 ∧ (t.net.ports.getD p.val State.resetPort).quarantined = false ∧ (t.net.ports.getD p.val State.resetPort).fails = [] ∧ Left t .spanQuarantine p.val ∧ t.sys = s.sys ∧ t.isl = s.isl)

/-- AUTH_CHALLENGE for SRV or VND answers a fresh nonce and an unused handle; another SUB, a locked scope and a failed TRNG are refused. The first response stores r; the second, with a valid signature, opens the session and ends the others of its scope, else it is counted and refused, and the third failure within 60 s locks the scope; without a challenge, with a wrong length or out of order it is refused. SESSION_CLOSE ends the session named, and SERVICE with the session that set it; an unknown handle is refused. Idle sessions end. Lockouts end after 60 s. A TRNG failure is kept and reported. (14_security.md Sessions, 14_security.md Key material, 12_object_dictionary.md Service frames, 12_object_dictionary.md Device states) -/
def Obligations.SessionsAreOpenedAndEnd : Prop :=
  (∀ (s : State) (r : Req) (sub : Byte), takesIn s r 0x30 (0x2D3000 + sub.toNat) = true → (sub = 2 ∨ sub = 3) → (∀ x ∈ s.sec.locked, x.1 ≠ r.port ∨ x.2 + 60000000 ≤ s.now) → s.sec.trngBad = false → s.sec.sessions.length + s.sec.challenges.length < 255 → Ran (.authChallenge r sub) s fun t =>
      ∃ h : Byte, h ≠ 0 ∧ (∀ x ∈ s.sec.sessions, x.handle ≠ h) ∧ (∀ x ∈ s.sec.challenges, x.handle ≠ h) ∧ t.freeIx = s.freeIx + 1 ∧ t.sec.sessions.map (fun x => x.handle) = s.sec.sessions.map (fun x => x.handle) ∧
      t.sec.challenges = s.sec.challenges ++ [⟨r.port, h, if sub = 2 then .srv else .vnd, leBytes 32 (Config.trng s.freeIx), s.now, none⟩] ∧ Answered t (reqId s r 0x30 (0x2D3000 + sub.toNat)) (.ok (leBytes 32 (Config.trng s.freeIx) ++ [h])) ∧
      t.nv = s.nv ∧ t.sys = s.sys ∧ t.isl = s.isl ∧ onlyVals [O.REQ_ACCEPTED.key 0] s t) ∧
  (∀ (s : State) (r : Req) (sub : Byte), takesIn s r 0x30 (0x2D3000 + sub.toNat) = true → (sub ≠ 2 ∧ sub ≠ 3 ∨ (∃ x ∈ s.sec.locked, x.1 = r.port ∧ s.now < x.2 + 60000000) ∨ s.sec.trngBad = true) → Ran (.authChallenge r sub) s fun t =>
      (sub ≠ 2 → sub ≠ 3 → Answered t (reqId s r 0x30 (0x2D3000 + sub.toNat)) (.abort 0x15)) ∧ ((sub = 2 ∨ sub = 3) → (∃ x ∈ s.sec.locked, x.1 = r.port ∧ s.now < x.2 + 60000000) → Answered t (reqId s r 0x30 (0x2D3000 + sub.toNat)) (.abort 0x16)) ∧
      ((sub = 2 ∨ sub = 3) → (∀ x ∈ s.sec.locked, x.1 ≠ r.port) → Answered t (reqId s r 0x30 (0x2D3000 + sub.toNat)) (.abort 0x17)) ∧ requestFrame s t) ∧
  (∀ (s : State) (r : Req) (c : Challenge) (d : List Byte), takesIn s { r with session := 0 } 0x31 2961408 = true → c ∈ s.sec.challenges → c.handle = r.session → c.port = r.port → s.now ≤ c.time + 10000000 → (∀ x ∈ s.sec.challenges, x.handle = c.handle → x = c) → d.length = 32 → Ran (.authResponse r 0 d) s fun t =>
      t.sec.challenges = (s.sec.challenges.filter fun x => x.handle != c.handle) ++ [{ c with r := some d }] ∧ t.sec.sessions = s.sec.sessions ∧ Answered t (reqId s r 0x31 2961408) (.ok []) ∧ requestFrame { s with sec := { s.sec with challenges := t.sec.challenges } } t) ∧
  (∀ (s : State) (r : Req) (c : Challenge) (d x : List Byte), takesIn s { r with session := 0 } 0x31 2961409 = true → c ∈ s.sec.challenges → c.handle = r.session → c.port = r.port → s.now ≤ c.time + 10000000 → (∀ x ∈ s.sec.challenges, x.handle = c.handle → x = c) → d.length = 32 → c.r = some x → s.sec.serviceHandle = none → (FaultCode.authLockout, 0) ∉ s.coll.conds → (∀ e ∈ s.sec.fails, e.1 ≠ r.port) → Ran (.authResponse r 1 d) s fun t =>
      (authOk s.otp c x d = true → t.sec.sessions = (s.sec.sessions.filter fun y => y.port != r.port) ++ [⟨r.port, c.handle, c.level, s.now⟩] ∧ Answered t (reqId s r 0x31 2961409) (.ok []) ∧ onlyVals [O.REQ_ACCEPTED.key 0] s t) ∧
      (authOk s.otp c x d = false → t.sec.sessions = s.sec.sessions ∧ (r.port, s.now) ∈ t.sec.fails ∧ t.sec.locked = s.sec.locked ∧ t.get O.AUTH_FAILS = countNext (8 * O.AUTH_FAILS.ty.bytes) (s.getN O.AUTH_FAILS) ∧ Answered t (reqId s r 0x31 2961409) (.abort 0x15)) ∧
      c ∉ t.sec.challenges ∧ t.nv = s.nv ∧ t.sys = s.sys ∧ t.isl = s.isl) ∧
  (∀ (s : State) (r : Req) (c : Challenge) (d x : List Byte) (a b : Nat), takesIn s { r with session := 0 } 0x31 2961409 = true → c ∈ s.sec.challenges → c.handle = r.session → c.port = r.port → s.now ≤ c.time + 10000000 → (∀ x ∈ s.sec.challenges, x.handle = c.handle → x = c) → d.length = 32 → c.r = some x → s.sec.fails = [(r.port, a), (r.port, b)] → s.now < a + 60000000 → s.now < b + 60000000 → (FaultCode.authLockout, 0) ∉ s.coll.conds →
    Ran (.authResponse r 1 d) s fun t =>
      (authOk s.otp c x d = false → (r.port, s.now) ∈ t.sec.locked ∧ t.sec.fails = [] ∧ Reported s t .authLockout 0 ∧ Answered t (reqId s r 0x31 2961409) (.abort 0x15) ∧ t.sec.sessions = s.sec.sessions) ∧ t.nv = s.nv) ∧
  (∀ (s : State) (r : Req) (d : List Byte), takesIn s { r with session := 0 } 0x31 2961409 = true → (∀ c ∈ s.sec.challenges, c.handle ≠ r.session ∨ c.port ≠ r.port ∨ c.time + 10000000 < s.now) → Ran (.authResponse r 1 d) s fun t => Answered t (reqId s r 0x31 2961409) (.abort 0x03) ∧ requestFrame s t) ∧
  (∀ (s : State) (r : Req) (c : Challenge) (d : List Byte), takesIn s { r with session := 0 } 0x31 2961409 = true → c ∈ s.sec.challenges → c.handle = r.session → c.port = r.port → s.now ≤ c.time + 10000000 → (∀ x ∈ s.sec.challenges, x.handle = c.handle → x = c) → (d.length ≠ 32 ∨ c.r = none) → Ran (.authResponse r 1 d) s fun t =>
      (d.length ≠ 32 → Answered t (reqId s r 0x31 2961409) (.abort 0x14) ∧ requestFrame s t) ∧ (d.length = 32 → Answered t (reqId s r 0x31 2961409) (.abort 0x16) ∧ c ∉ t.sec.challenges) ∧ t.sec.sessions = s.sec.sessions ∧ t.sys = s.sys) ∧
  (∀ (s : State) (r : Req) (h : Byte), writeRuns s r O.SESSION_CLOSE 0 h.toNat → (∃ x ∈ s.sec.sessions, x.handle = h) → (s.sec.serviceHandle ≠ some h ∨ s.sys.dev ≠ .service) → Ran (.sessionClose r h) s fun t =>
      (∀ x ∈ t.sec.sessions, x.handle ≠ h) ∧ (∀ x ∈ s.sec.sessions, x.handle ≠ h → x.handle ∈ t.sec.sessions.map fun y => y.handle) ∧ Answered t (reqId s r 0x02 (O.SESSION_CLOSE.key 0)) (.ok []) ∧ t.sys = s.sys ∧ t.nv = s.nv ∧ t.isl = s.isl ∧ t.coll = s.coll) ∧
  (∀ (s : State) (r : Req) (h : Byte), writeRuns s r O.SESSION_CLOSE 0 h.toNat → (∃ x ∈ s.sec.sessions, x.handle = h) → s.sec.serviceHandle = some h → s.sys.dev = .service → s.sup.readyPhase = .idle → s.ctrlBit 0 = false → s.dict.blockW = none → Ran (.sessionClose r h) s fun t =>
      (∀ x ∈ t.sec.sessions, x.handle ≠ h) ∧ t.sec.serviceHandle = none ∧ t.sys.dev = .standby ∧ Answered t (reqId s r 0x02 (O.SESSION_CLOSE.key 0)) (.ok []) ∧ t.nv = s.nv ∧ t.pins = s.pins) ∧
  (∀ (s : State) (r : Req) (h : Byte), writeRuns s r O.SESSION_CLOSE 0 h.toNat → (∀ x ∈ s.sec.sessions, x.handle ≠ h) → Ran (.sessionClose r h) s fun t => Answered t (reqId s r 0x02 (O.SESSION_CLOSE.key 0)) (.abort 0x15) ∧ requestFrame s t) ∧
  (∀ (s : State), s.sec.serviceHandle = none → Ran .sessionIdleTimeout s fun t =>
      (∀ x ∈ s.sec.sessions, x ∈ t.sec.sessions ↔ s.now < x.last + s.getN O.SESSION_IDLE * 1000000) ∧ (∀ x ∈ t.sec.sessions, x ∈ s.sec.sessions) ∧ t = { s with sec := { s.sec with sessions := t.sec.sessions } }) ∧
  (∀ (s : State), (∀ x ∈ s.sec.locked, x.2 + 60000000 ≤ s.now) → soleCond s .authLockout 0 → Ran .authLockoutEnd s fun t => t.sec.locked = [] ∧ Left t .authLockout 0 ∧ t.sec.sessions = s.sec.sessions ∧ t.vals = s.vals ∧ t.sys = s.sys) ∧
  (∀ (s : State) (x : Port × Nat), x ∈ s.sec.locked → s.now < x.2 + 60000000 → Ran .authLockoutEnd s fun t => x ∈ t.sec.locked ∧ (∀ y ∈ t.sec.locked, y ∈ s.sec.locked ∧ s.now < y.2 + 60000000) ∧ t.coll = s.coll ∧ t = { s with sec := { s.sec with locked := t.sec.locked } }) ∧
  (∀ (s : State), (FaultCode.trngFail, 0) ∉ s.coll.conds → Ran .trngHealthFail s fun t => t.sec = { s.sec with trngBad := true } ∧ Reported s t .trngFail 0 ∧ reportFrame { s with sec := t.sec } t)

/-- LC_REQUEST makes a listed change at its level and in its states, resets the die and, into RETIRED, destroys the keys; every other is refused. OEM_KEY_REVOKE revokes a slot while another stays valid. FW_CONFIRM raises the rollback counter in STANDBY, unless the recovery slot runs or is older. FW_PREFERRED needs a VALID slot and is queued. A slot being verified becomes VALID or INVALID. A parameter half being verified becomes VALID with its set or INVALID with its result; PARAM_ACTIVATE makes a VALID half active in STANDBY and READY. In FIELD the TAP offers BYPASS and IDCODE only; EXTEST needs STANDBY with the island supplies off. (14_security.md Life-cycle states, 14_security.md Key material, 14_security.md Secure boot, 14_security.md Parameter sets, 14_security.md Debug port, 11_memory_selftest.md Persistent objects) -/
def Obligations.LifeCycleFirmwareAndParameters : Prop :=
  (∀ (s : State) (r : Req) (v : Word) (n : Lvl), writeRuns s r O.LC_REQUEST 0 v.toNat → lcLevel s.otp.lc (v.toNat - 0x4C430000) = some n → n.num ≤ (s.levelReq r).num → (s.sys.dev = .standby ∨ s.sys.dev = .service) → v.toNat ≠ 0x4C430003 → (v.toNat = 0x4C430004 → s.sys.dev = .service) →
    Ran (.lcRequest r v) s fun t =>
      t.otp.lc = v.toNat - 0x4C430000 ∧ t.otp.oem = s.otp.oem ∧ t.otp.rollback = s.otp.rollback ∧ t.otp.destroyed = (s.otp.destroyed || v.toNat == 0x4C430004) ∧ (v.toNat = 0x4C430004 → t.otp.identity = false) ∧
      t.sys.dev = .boot ∧ bit (t.get O.RESET_CAUSE) 6 = true ∧ t.sec.sessions = [] ∧ Answered t (reqId s r 0x02 (O.LC_REQUEST.key 0)) (.ok []) ∧ t.nv.persist = s.nv.persist ∧ t.pending = s.pending ∧ t.now = s.now) ∧
  (∀ (s : State) (r : Req) (v : Word) (k : FwSlot), writeRuns s r O.LC_REQUEST 0 v.toNat → s.otp.lc = 1 → v.toNat = 0x4C430003 → 2 ≤ (s.levelReq r).num → (s.sys.dev = .standby ∨ s.sys.dev = .service) → 0 < s.otp.oemCount → s.sec.running = some k → (s.nv.sec.slot k).keyIndex = 0 →
    Ran (.lcRequest r v) s fun t => t.otp = { s.otp with lc := 3 } ∧ t.sys.dev = .boot ∧ bit (t.get O.RESET_CAUSE) 6 = true ∧ Answered t (reqId s r 0x02 (O.LC_REQUEST.key 0)) (.ok [])) ∧
  (∀ (s : State) (r : Req) (v : Word), writeRuns s r O.LC_REQUEST 0 v.toNat → (lcLevel s.otp.lc (v.toNat - 0x4C430000) = none ∨ s.sys.dev ≠ .standby ∧ s.sys.dev ≠ .service ∧ (s.levelReq r) = .vnd ∨ v.toNat = 0x4C430003 ∧ s.otp.oemCount = 0 ∧ (s.levelReq r) = .vnd) → Ran (.lcRequest r v) s fun t =>
      Answered t (reqId s r 0x02 (O.LC_REQUEST.key 0)) (.abort 0x16) ∧ requestFrame s t ∧ t.otp = s.otp) ∧
  (∀ (s : State) (r : Req) (v : Word) (n : Lvl), writeRuns s r O.LC_REQUEST 0 v.toNat → lcLevel s.otp.lc (v.toNat - 0x4C430000) = some n → (s.levelReq r).num < n.num → Ran (.lcRequest r v) s fun t => Answered t (reqId s r 0x02 (O.LC_REQUEST.key 0)) (.abort 0x12) ∧ requestFrame s t) ∧
  (∀ (s : State) (r : Req) (k : Byte) (j : Fin 4), writeRuns s r O.OEM_KEY_REVOKE 0 k.toNat → j.val ≠ k.toNat → s.otp.oemValid j.val = true → k.toNat < s.otp.oem.length → Ran (.oemKeyRevoke r k) s fun t =>
      (t.otp.oem.getD k.toNat ⟨0, []⟩).state = 2 ∧ (∀ i : Fin 4, i.val ≠ k.toNat → t.otp.oem.getD i.val ⟨0, []⟩ = s.otp.oem.getD i.val ⟨0, []⟩) ∧ t.otp = { s.otp with oem := t.otp.oem } ∧ Answered t (reqId s r 0x02 (O.OEM_KEY_REVOKE.key 0)) (.ok []) ∧
      requestFrame { s with nv := t.nv } t) ∧
  (∀ (s : State) (r : Req) (k : Byte), writeRuns s r O.OEM_KEY_REVOKE 0 k.toNat → (∀ i : Fin 4, i.val ≠ k.toNat → s.otp.oemValid i.val = false) → Ran (.oemKeyRevoke r k) s fun t => Answered t (reqId s r 0x02 (O.OEM_KEY_REVOKE.key 0)) (.abort 0x16) ∧ requestFrame s t) ∧
  (∀ (s : State) (r : Req) (k : FwSlot), writeRuns s r O.FW_CONFIRM 0 1 → s.sys.dev = .standby → s.sec.running = some k → k ≠ .recovery → s.otp.rollback < (s.nv.sec.slot k).rollback → (s.nv.sec.slot k).rollback ≤ s.nv.sec.slotR.rollback → Ran (.fwConfirm r) s fun t =>
      t.otp = { s.otp with rollback := (s.nv.sec.slot k).rollback } ∧ Answered t (reqId s r 0x02 (O.FW_CONFIRM.key 0)) (.ok []) ∧ requestFrame { s with nv := t.nv } t) ∧
  (∀ (s : State) (r : Req) (k : FwSlot), writeRuns s r O.FW_CONFIRM 0 1 → s.sys.dev = .standby → s.sec.running = some k → k ≠ .recovery → (s.nv.sec.slot k).rollback ≤ s.otp.rollback → Ran (.fwConfirm r) s fun t => Answered t (reqId s r 0x02 (O.FW_CONFIRM.key 0)) (.ok []) ∧ requestFrame s t) ∧
  (∀ (s : State) (r : Req), writeRuns s r O.FW_CONFIRM 0 1 → (s.sys.dev ≠ .standby ∨ s.sec.running = some .recovery ∨ s.sec.running = some .a ∧ s.otp.rollback < s.nv.sec.slotA.rollback ∧ s.nv.sec.slotR.rollback < s.nv.sec.slotA.rollback) → Ran (.fwConfirm r) s fun t =>
      Answered t (reqId s r 0x02 (O.FW_CONFIRM.key 0)) (.abort 0x16) ∧ requestFrame s t) ∧
  (∀ (s : State) (r : Req) (v : Byte), writeRuns s r O.FW_PREFERRED 0 v.toNat → (s.nv.sec.slot (if v = 1 then .b else .a)).state = 3 → s.spent (O.FW_PREFERRED.key 0) = false → Ran (.fwPreferred r v) s fun t =>
      t.dict.persist = s.dict.persist ++ [⟨O.FW_PREFERRED.key 0, v.toNat, some (reqId s r 0x02 (O.FW_PREFERRED.key 0)), false, s.now⟩] ∧ t.out = s.out ∧ t.nv = s.nv ∧ requestFrame { s with dict := { s.dict with persist := t.dict.persist } } t) ∧
  (∀ (s : State) (r : Req) (v : Byte), writeRuns s r O.FW_PREFERRED 0 v.toNat → (s.nv.sec.slot (if v = 1 then .b else .a)).state ≠ 3 → Ran (.fwPreferred r v) s fun t => Answered t (reqId s r 0x02 (O.FW_PREFERRED.key 0)) (.abort 0x16) ∧ requestFrame s t) ∧
  (∀ (s : State) (k : FwSlot) (f : FwSeen), (s.nv.sec.slot k).state ≠ 2 → Ran (.fwSlotVerifyDone k f) s fun t => t = s) ∧
  (∀ (s : State) (k : FwSlot) (f : FwSeen), (s.nv.sec.slot k).state = 2 → Ran (.fwSlotVerifyDone k f) s fun t =>
      ((t.nv.sec.slot k).state = 3 ↔ f.formatOk = true ∧ s.otp.fwKey f.keyIndex = true ∧ s.otp.rollback ≤ f.rollback ∧ f.sigOk = true ∧ f.digestsOk = true) ∧ ((t.nv.sec.slot k).state = 3 ∨ (t.nv.sec.slot k).state = 4) ∧
      (t.nv.sec.slot k).version = f.version ∧ (t.nv.sec.slot k).rollback = f.rollback ∧ (∀ j : FwSlot, j ∈ [FwSlot.a, .b, .recovery] → j ≠ k → t.nv.sec.slot j = s.nv.sec.slot j) ∧ t.otp = s.otp ∧ t = { s with nv := t.nv }) ∧
  (∀ (s : State) (h : Bool) (p : ParamSet), (s.nv.sec.half h).state ≠ 2 → Ran (.paramVerifyDone h p) s fun t => t = s) ∧
  (∀ (s : State) (h : Bool) (p : ParamSet), (s.nv.sec.half h).state = 2 → s.paramResult p = 0 → Ran (.paramVerifyDone h p) s fun t =>
      t.nv.sec.half h = { s.nv.sec.half h with state := 3, set := some p } ∧ t.nv.sec.half (!h) = s.nv.sec.half (!h) ∧ t.get O.PARAM_RESULT = 0 ∧ t = { s with vals := t.vals, nv := t.nv } ∧ onlyVals [O.PARAM_RESULT.key 0] s t) ∧
  (∀ (s : State) (h : Bool) (p : ParamSet), (s.nv.sec.half h).state = 2 → (p.nvOk = false ∨ p.headerOk = false ∨ s.otp.oemCount = 0) → Ran (.paramVerifyDone h p) s fun t =>
      (t.nv.sec.half h).state = 4 ∧ (t.nv.sec.half h).set = none ∧ t.get O.PARAM_RESULT ≠ 0 ∧ (p.nvOk = false → t.get O.PARAM_RESULT = 7) ∧ (p.nvOk = true → p.headerOk = false → t.get O.PARAM_RESULT = 1) ∧ t.nv.sec.half (!h) = s.nv.sec.half (!h)) ∧
  (∀ (s : State) (r : Req) (h : Bool), writeRuns s r O.PARAM_ACTIVATE 0 1 → (s.sys.dev = .standby ∨ s.sys.dev = .ready) → s.nv.sec.activeHalf = some (!h) → (s.nv.sec.half h).state = 3 → (s.nv.sec.half (!h)).state = 5 → Ran (.paramActivate r) s fun t =>
      (t.nv.sec.half h).state = 5 ∧ (t.nv.sec.half (!h)).state = 3 ∧ t.nv.sec.activeHalf = some h ∧ (t.nv.sec.half h).set = (s.nv.sec.half h).set ∧ Answered t (reqId s r 0x02 (O.PARAM_ACTIVATE.key 0)) (.ok []) ∧ requestFrame { s with nv := t.nv } t) ∧
  (∀ (s : State) (r : Req), writeRuns s r O.PARAM_ACTIVATE 0 1 → (s.sys.dev ≠ .standby ∧ s.sys.dev ≠ .ready ∨ s.nv.sec.half0.state ≠ 3 ∧ s.nv.sec.half1.state ≠ 3) → Ran (.paramActivate r) s fun t => Answered t (reqId s r 0x02 (O.PARAM_ACTIVATE.key 0)) (.abort 0x16) ∧ requestFrame s t ∧ t.nv = s.nv) ∧
  (∀ (s : State) (i : TapInstr), (s.otp.lc ≠ 3 → i = .extest → s.sys.dev = .standby ∧ (∀ x ∈ s.isl, x.supplyOn = false)) → (s.otp.lc = 3 → i = .bypass ∨ i = .idcode) → Ran (.tapInstruction i) s fun t => t = { s with sec := { s.sec with tap := i } }) ∧
  (∀ (s : State) (i : TapInstr), i ≠ .bypass → i ≠ .idcode → (s.otp.lc = 3 ∨ i = .extest ∧ s.sys.dev ≠ .standby) → Ran (.tapInstruction i) s fun t => t = { s with sec := { s.sec with tap := .bypass } })
end

