-- ==== Sys2Proof/Laws/State.lean ====
section
/-! SUPPORT. What each plain update of the state leaves as it was, one lemma per field, and what it writes. -/

namespace Sys2Proof.Machine

@[simp] theorem State.set_pending (s : State) (o : Obj) (v : Int) (p : Nat) : (s.set o v p).pending = s.pending := rfl
@[simp] theorem State.set_now (s : State) (o : Obj) (v : Int) (p : Nat) : (s.set o v p).now = s.now := rfl
@[simp] theorem State.set_freeIx (s : State) (o : Obj) (v : Int) (p : Nat) : (s.set o v p).freeIx = s.freeIx := rfl
@[simp] theorem State.set_opTime (s : State) (o : Obj) (v : Int) (p : Nat) : (s.set o v p).opTime = s.opTime := rfl
@[simp] theorem State.set_staged (s : State) (o : Obj) (v : Int) (p : Nat) : (s.set o v p).staged = s.staged := rfl
@[simp] theorem State.set_pins (s : State) (o : Obj) (v : Int) (p : Nat) : (s.set o v p).pins = s.pins := rfl
@[simp] theorem State.set_sup (s : State) (o : Obj) (v : Int) (p : Nat) : (s.set o v p).sup = s.sup := rfl
@[simp] theorem State.set_sys (s : State) (o : Obj) (v : Int) (p : Nat) : (s.set o v p).sys = s.sys := rfl
@[simp] theorem State.set_coll (s : State) (o : Obj) (v : Int) (p : Nat) : (s.set o v p).coll = s.coll := rfl
@[simp] theorem State.set_log (s : State) (o : Obj) (v : Int) (p : Nat) : (s.set o v p).log = s.log := rfl
@[simp] theorem State.set_hlm (s : State) (o : Obj) (v : Int) (p : Nat) : (s.set o v p).hlm = s.hlm := rfl
@[simp] theorem State.set_clamps (s : State) (o : Obj) (v : Int) (p : Nat) : (s.set o v p).clamps = s.clamps := rfl
@[simp] theorem State.set_disch (s : State) (o : Obj) (v : Int) (p : Nat) : (s.set o v p).disch = s.disch := rfl
@[simp] theorem State.set_isl (s : State) (o : Obj) (v : Int) (p : Nat) : (s.set o v p).isl = s.isl := rfl
@[simp] theorem State.set_dict (s : State) (o : Obj) (v : Int) (p : Nat) : (s.set o v p).dict = s.dict := rfl
@[simp] theorem State.set_chg (s : State) (o : Obj) (v : Int) (p : Nat) : (s.set o v p).chg = s.chg := rfl
@[simp] theorem State.set_cmdT (s : State) (o : Obj) (v : Int) (p : Nat) : (s.set o v p).cmdT = s.cmdT := rfl
@[simp] theorem State.set_fl (s : State) (o : Obj) (v : Int) (p : Nat) : (s.set o v p).fl = s.fl := rfl
@[simp] theorem State.set_sense (s : State) (o : Obj) (v : Int) (p : Nat) : (s.set o v p).sense = s.sense := rfl
@[simp] theorem State.set_pos (s : State) (o : Obj) (v : Int) (p : Nat) : (s.set o v p).pos = s.pos := rfl
@[simp] theorem State.set_si (s : State) (o : Obj) (v : Int) (p : Nat) : (s.set o v p).si = s.si := rfl
@[simp] theorem State.set_sec (s : State) (o : Obj) (v : Int) (p : Nat) : (s.set o v p).sec = s.sec := rfl
@[simp] theorem State.set_nv (s : State) (o : Obj) (v : Int) (p : Nat) : (s.set o v p).nv = s.nv := rfl
@[simp] theorem State.set_mem (s : State) (o : Obj) (v : Int) (p : Nat) : (s.set o v p).mem = s.mem := rfl
@[simp] theorem State.set_net (s : State) (o : Obj) (v : Int) (p : Nat) : (s.set o v p).net = s.net := rfl
@[simp] theorem State.set_out (s : State) (o : Obj) (v : Int) (p : Nat) : (s.set o v p).out = s.out := rfl

@[simp] theorem State.bump_pending (s : State) (o : Obj) (p : Nat) : (s.bump o p).pending = s.pending := rfl
@[simp] theorem State.bump_now (s : State) (o : Obj) (p : Nat) : (s.bump o p).now = s.now := rfl
@[simp] theorem State.bump_freeIx (s : State) (o : Obj) (p : Nat) : (s.bump o p).freeIx = s.freeIx := rfl
@[simp] theorem State.bump_opTime (s : State) (o : Obj) (p : Nat) : (s.bump o p).opTime = s.opTime := rfl
@[simp] theorem State.bump_staged (s : State) (o : Obj) (p : Nat) : (s.bump o p).staged = s.staged := rfl
@[simp] theorem State.bump_pins (s : State) (o : Obj) (p : Nat) : (s.bump o p).pins = s.pins := rfl
@[simp] theorem State.bump_sup (s : State) (o : Obj) (p : Nat) : (s.bump o p).sup = s.sup := rfl
@[simp] theorem State.bump_sys (s : State) (o : Obj) (p : Nat) : (s.bump o p).sys = s.sys := rfl
@[simp] theorem State.bump_coll (s : State) (o : Obj) (p : Nat) : (s.bump o p).coll = s.coll := rfl
@[simp] theorem State.bump_log (s : State) (o : Obj) (p : Nat) : (s.bump o p).log = s.log := rfl
@[simp] theorem State.bump_hlm (s : State) (o : Obj) (p : Nat) : (s.bump o p).hlm = s.hlm := rfl
@[simp] theorem State.bump_clamps (s : State) (o : Obj) (p : Nat) : (s.bump o p).clamps = s.clamps := rfl
@[simp] theorem State.bump_disch (s : State) (o : Obj) (p : Nat) : (s.bump o p).disch = s.disch := rfl
@[simp] theorem State.bump_isl (s : State) (o : Obj) (p : Nat) : (s.bump o p).isl = s.isl := rfl
@[simp] theorem State.bump_dict (s : State) (o : Obj) (p : Nat) : (s.bump o p).dict = s.dict := rfl
@[simp] theorem State.bump_chg (s : State) (o : Obj) (p : Nat) : (s.bump o p).chg = s.chg := rfl
@[simp] theorem State.bump_cmdT (s : State) (o : Obj) (p : Nat) : (s.bump o p).cmdT = s.cmdT := rfl
@[simp] theorem State.bump_fl (s : State) (o : Obj) (p : Nat) : (s.bump o p).fl = s.fl := rfl
@[simp] theorem State.bump_sense (s : State) (o : Obj) (p : Nat) : (s.bump o p).sense = s.sense := rfl
@[simp] theorem State.bump_pos (s : State) (o : Obj) (p : Nat) : (s.bump o p).pos = s.pos := rfl
@[simp] theorem State.bump_si (s : State) (o : Obj) (p : Nat) : (s.bump o p).si = s.si := rfl
@[simp] theorem State.bump_sec (s : State) (o : Obj) (p : Nat) : (s.bump o p).sec = s.sec := rfl
@[simp] theorem State.bump_nv (s : State) (o : Obj) (p : Nat) : (s.bump o p).nv = s.nv := rfl
@[simp] theorem State.bump_mem (s : State) (o : Obj) (p : Nat) : (s.bump o p).mem = s.mem := rfl
@[simp] theorem State.bump_net (s : State) (o : Obj) (p : Nat) : (s.bump o p).net = s.net := rfl
@[simp] theorem State.bump_out (s : State) (o : Obj) (p : Nat) : (s.bump o p).out = s.out := rfl

@[simp] theorem State.draw_pending (s : State) : (s.draw).pending = s.pending := rfl
@[simp] theorem State.draw_now (s : State) : (s.draw).now = s.now := rfl
@[simp] theorem State.draw_opTime (s : State) : (s.draw).opTime = s.opTime := rfl
@[simp] theorem State.draw_vals (s : State) : (s.draw).vals = s.vals := rfl
@[simp] theorem State.draw_staged (s : State) : (s.draw).staged = s.staged := rfl
@[simp] theorem State.draw_pins (s : State) : (s.draw).pins = s.pins := rfl
@[simp] theorem State.draw_sup (s : State) : (s.draw).sup = s.sup := rfl
@[simp] theorem State.draw_sys (s : State) : (s.draw).sys = s.sys := rfl
@[simp] theorem State.draw_coll (s : State) : (s.draw).coll = s.coll := rfl
@[simp] theorem State.draw_log (s : State) : (s.draw).log = s.log := rfl
@[simp] theorem State.draw_hlm (s : State) : (s.draw).hlm = s.hlm := rfl
@[simp] theorem State.draw_clamps (s : State) : (s.draw).clamps = s.clamps := rfl
@[simp] theorem State.draw_disch (s : State) : (s.draw).disch = s.disch := rfl
@[simp] theorem State.draw_isl (s : State) : (s.draw).isl = s.isl := rfl
@[simp] theorem State.draw_dict (s : State) : (s.draw).dict = s.dict := rfl
@[simp] theorem State.draw_chg (s : State) : (s.draw).chg = s.chg := rfl
@[simp] theorem State.draw_cmdT (s : State) : (s.draw).cmdT = s.cmdT := rfl
@[simp] theorem State.draw_fl (s : State) : (s.draw).fl = s.fl := rfl
@[simp] theorem State.draw_sense (s : State) : (s.draw).sense = s.sense := rfl
@[simp] theorem State.draw_pos (s : State) : (s.draw).pos = s.pos := rfl
@[simp] theorem State.draw_si (s : State) : (s.draw).si = s.si := rfl
@[simp] theorem State.draw_sec (s : State) : (s.draw).sec = s.sec := rfl
@[simp] theorem State.draw_nv (s : State) : (s.draw).nv = s.nv := rfl
@[simp] theorem State.draw_mem (s : State) : (s.draw).mem = s.mem := rfl
@[simp] theorem State.draw_net (s : State) : (s.draw).net = s.net := rfl
@[simp] theorem State.draw_out (s : State) : (s.draw).out = s.out := rfl

@[simp] theorem State.send_pending (s : State) (x : List Sent) : (s.send x).pending = s.pending := rfl
@[simp] theorem State.send_now (s : State) (x : List Sent) : (s.send x).now = s.now := rfl
@[simp] theorem State.send_freeIx (s : State) (x : List Sent) : (s.send x).freeIx = s.freeIx := rfl
@[simp] theorem State.send_opTime (s : State) (x : List Sent) : (s.send x).opTime = s.opTime := rfl
@[simp] theorem State.send_vals (s : State) (x : List Sent) : (s.send x).vals = s.vals := rfl
@[simp] theorem State.send_staged (s : State) (x : List Sent) : (s.send x).staged = s.staged := rfl
@[simp] theorem State.send_pins (s : State) (x : List Sent) : (s.send x).pins = s.pins := rfl
@[simp] theorem State.send_sup (s : State) (x : List Sent) : (s.send x).sup = s.sup := rfl
@[simp] theorem State.send_sys (s : State) (x : List Sent) : (s.send x).sys = s.sys := rfl
@[simp] theorem State.send_coll (s : State) (x : List Sent) : (s.send x).coll = s.coll := rfl
@[simp] theorem State.send_log (s : State) (x : List Sent) : (s.send x).log = s.log := rfl
@[simp] theorem State.send_hlm (s : State) (x : List Sent) : (s.send x).hlm = s.hlm := rfl
@[simp] theorem State.send_clamps (s : State) (x : List Sent) : (s.send x).clamps = s.clamps := rfl
@[simp] theorem State.send_disch (s : State) (x : List Sent) : (s.send x).disch = s.disch := rfl
@[simp] theorem State.send_isl (s : State) (x : List Sent) : (s.send x).isl = s.isl := rfl
@[simp] theorem State.send_dict (s : State) (x : List Sent) : (s.send x).dict = s.dict := rfl
@[simp] theorem State.send_chg (s : State) (x : List Sent) : (s.send x).chg = s.chg := rfl
@[simp] theorem State.send_cmdT (s : State) (x : List Sent) : (s.send x).cmdT = s.cmdT := rfl
@[simp] theorem State.send_fl (s : State) (x : List Sent) : (s.send x).fl = s.fl := rfl
@[simp] theorem State.send_sense (s : State) (x : List Sent) : (s.send x).sense = s.sense := rfl
@[simp] theorem State.send_pos (s : State) (x : List Sent) : (s.send x).pos = s.pos := rfl
@[simp] theorem State.send_si (s : State) (x : List Sent) : (s.send x).si = s.si := rfl
@[simp] theorem State.send_sec (s : State) (x : List Sent) : (s.send x).sec = s.sec := rfl
@[simp] theorem State.send_nv (s : State) (x : List Sent) : (s.send x).nv = s.nv := rfl
@[simp] theorem State.send_mem (s : State) (x : List Sent) : (s.send x).mem = s.mem := rfl
@[simp] theorem State.send_net (s : State) (x : List Sent) : (s.send x).net = s.net := rfl

@[simp] theorem State.updIsl_pending (s : State) (n : IslIx) (f : Island → Island) : (s.updIsl n f).pending = s.pending := rfl
@[simp] theorem State.updIsl_now (s : State) (n : IslIx) (f : Island → Island) : (s.updIsl n f).now = s.now := rfl
@[simp] theorem State.updIsl_freeIx (s : State) (n : IslIx) (f : Island → Island) : (s.updIsl n f).freeIx = s.freeIx := rfl
@[simp] theorem State.updIsl_opTime (s : State) (n : IslIx) (f : Island → Island) : (s.updIsl n f).opTime = s.opTime := rfl
@[simp] theorem State.updIsl_vals (s : State) (n : IslIx) (f : Island → Island) : (s.updIsl n f).vals = s.vals := rfl
@[simp] theorem State.updIsl_staged (s : State) (n : IslIx) (f : Island → Island) : (s.updIsl n f).staged = s.staged := rfl
@[simp] theorem State.updIsl_pins (s : State) (n : IslIx) (f : Island → Island) : (s.updIsl n f).pins = s.pins := rfl
@[simp] theorem State.updIsl_sup (s : State) (n : IslIx) (f : Island → Island) : (s.updIsl n f).sup = s.sup := rfl
@[simp] theorem State.updIsl_sys (s : State) (n : IslIx) (f : Island → Island) : (s.updIsl n f).sys = s.sys := rfl
@[simp] theorem State.updIsl_coll (s : State) (n : IslIx) (f : Island → Island) : (s.updIsl n f).coll = s.coll := rfl
@[simp] theorem State.updIsl_log (s : State) (n : IslIx) (f : Island → Island) : (s.updIsl n f).log = s.log := rfl
@[simp] theorem State.updIsl_hlm (s : State) (n : IslIx) (f : Island → Island) : (s.updIsl n f).hlm = s.hlm := rfl
@[simp] theorem State.updIsl_clamps (s : State) (n : IslIx) (f : Island → Island) : (s.updIsl n f).clamps = s.clamps := rfl
@[simp] theorem State.updIsl_disch (s : State) (n : IslIx) (f : Island → Island) : (s.updIsl n f).disch = s.disch := rfl
@[simp] theorem State.updIsl_dict (s : State) (n : IslIx) (f : Island → Island) : (s.updIsl n f).dict = s.dict := rfl
@[simp] theorem State.updIsl_chg (s : State) (n : IslIx) (f : Island → Island) : (s.updIsl n f).chg = s.chg := rfl
@[simp] theorem State.updIsl_cmdT (s : State) (n : IslIx) (f : Island → Island) : (s.updIsl n f).cmdT = s.cmdT := rfl
@[simp] theorem State.updIsl_fl (s : State) (n : IslIx) (f : Island → Island) : (s.updIsl n f).fl = s.fl := rfl
@[simp] theorem State.updIsl_sense (s : State) (n : IslIx) (f : Island → Island) : (s.updIsl n f).sense = s.sense := rfl
@[simp] theorem State.updIsl_pos (s : State) (n : IslIx) (f : Island → Island) : (s.updIsl n f).pos = s.pos := rfl
@[simp] theorem State.updIsl_si (s : State) (n : IslIx) (f : Island → Island) : (s.updIsl n f).si = s.si := rfl
@[simp] theorem State.updIsl_sec (s : State) (n : IslIx) (f : Island → Island) : (s.updIsl n f).sec = s.sec := rfl
@[simp] theorem State.updIsl_nv (s : State) (n : IslIx) (f : Island → Island) : (s.updIsl n f).nv = s.nv := rfl
@[simp] theorem State.updIsl_mem (s : State) (n : IslIx) (f : Island → Island) : (s.updIsl n f).mem = s.mem := rfl
@[simp] theorem State.updIsl_net (s : State) (n : IslIx) (f : Island → Island) : (s.updIsl n f).net = s.net := rfl
@[simp] theorem State.updIsl_out (s : State) (n : IslIx) (f : Island → Island) : (s.updIsl n f).out = s.out := rfl

@[simp] theorem State.stage_pending (s : State) (o : Obj) (p : Nat) (v : Int) : (s.stage o p v).pending = s.pending := rfl
@[simp] theorem State.stage_now (s : State) (o : Obj) (p : Nat) (v : Int) : (s.stage o p v).now = s.now := rfl
@[simp] theorem State.stage_freeIx (s : State) (o : Obj) (p : Nat) (v : Int) : (s.stage o p v).freeIx = s.freeIx := rfl
@[simp] theorem State.stage_opTime (s : State) (o : Obj) (p : Nat) (v : Int) : (s.stage o p v).opTime = s.opTime := rfl
@[simp] theorem State.stage_vals (s : State) (o : Obj) (p : Nat) (v : Int) : (s.stage o p v).vals = s.vals := rfl
@[simp] theorem State.stage_pins (s : State) (o : Obj) (p : Nat) (v : Int) : (s.stage o p v).pins = s.pins := rfl
@[simp] theorem State.stage_sup (s : State) (o : Obj) (p : Nat) (v : Int) : (s.stage o p v).sup = s.sup := rfl
@[simp] theorem State.stage_sys (s : State) (o : Obj) (p : Nat) (v : Int) : (s.stage o p v).sys = s.sys := rfl
@[simp] theorem State.stage_coll (s : State) (o : Obj) (p : Nat) (v : Int) : (s.stage o p v).coll = s.coll := rfl
@[simp] theorem State.stage_log (s : State) (o : Obj) (p : Nat) (v : Int) : (s.stage o p v).log = s.log := rfl
@[simp] theorem State.stage_hlm (s : State) (o : Obj) (p : Nat) (v : Int) : (s.stage o p v).hlm = s.hlm := rfl
@[simp] theorem State.stage_clamps (s : State) (o : Obj) (p : Nat) (v : Int) : (s.stage o p v).clamps = s.clamps := rfl
@[simp] theorem State.stage_disch (s : State) (o : Obj) (p : Nat) (v : Int) : (s.stage o p v).disch = s.disch := rfl
@[simp] theorem State.stage_isl (s : State) (o : Obj) (p : Nat) (v : Int) : (s.stage o p v).isl = s.isl := rfl
@[simp] theorem State.stage_dict (s : State) (o : Obj) (p : Nat) (v : Int) : (s.stage o p v).dict = s.dict := rfl
@[simp] theorem State.stage_chg (s : State) (o : Obj) (p : Nat) (v : Int) : (s.stage o p v).chg = s.chg := rfl
@[simp] theorem State.stage_cmdT (s : State) (o : Obj) (p : Nat) (v : Int) : (s.stage o p v).cmdT = s.cmdT := rfl
@[simp] theorem State.stage_fl (s : State) (o : Obj) (p : Nat) (v : Int) : (s.stage o p v).fl = s.fl := rfl
@[simp] theorem State.stage_sense (s : State) (o : Obj) (p : Nat) (v : Int) : (s.stage o p v).sense = s.sense := rfl
@[simp] theorem State.stage_pos (s : State) (o : Obj) (p : Nat) (v : Int) : (s.stage o p v).pos = s.pos := rfl
@[simp] theorem State.stage_si (s : State) (o : Obj) (p : Nat) (v : Int) : (s.stage o p v).si = s.si := rfl
@[simp] theorem State.stage_sec (s : State) (o : Obj) (p : Nat) (v : Int) : (s.stage o p v).sec = s.sec := rfl
@[simp] theorem State.stage_nv (s : State) (o : Obj) (p : Nat) (v : Int) : (s.stage o p v).nv = s.nv := rfl
@[simp] theorem State.stage_mem (s : State) (o : Obj) (p : Nat) (v : Int) : (s.stage o p v).mem = s.mem := rfl
@[simp] theorem State.stage_net (s : State) (o : Obj) (p : Nat) (v : Int) : (s.stage o p v).net = s.net := rfl
@[simp] theorem State.stage_out (s : State) (o : Obj) (p : Nat) (v : Int) : (s.stage o p v).out = s.out := rfl

@[simp] theorem State.updDma_pending (s : State) (c : Nat) (f : DmaChan → DmaChan) : (s.updDma c f).pending = s.pending := rfl
@[simp] theorem State.updDma_now (s : State) (c : Nat) (f : DmaChan → DmaChan) : (s.updDma c f).now = s.now := rfl
@[simp] theorem State.updDma_freeIx (s : State) (c : Nat) (f : DmaChan → DmaChan) : (s.updDma c f).freeIx = s.freeIx := rfl
@[simp] theorem State.updDma_opTime (s : State) (c : Nat) (f : DmaChan → DmaChan) : (s.updDma c f).opTime = s.opTime := rfl
@[simp] theorem State.updDma_vals (s : State) (c : Nat) (f : DmaChan → DmaChan) : (s.updDma c f).vals = s.vals := rfl
@[simp] theorem State.updDma_staged (s : State) (c : Nat) (f : DmaChan → DmaChan) : (s.updDma c f).staged = s.staged := rfl
@[simp] theorem State.updDma_pins (s : State) (c : Nat) (f : DmaChan → DmaChan) : (s.updDma c f).pins = s.pins := rfl
@[simp] theorem State.updDma_sup (s : State) (c : Nat) (f : DmaChan → DmaChan) : (s.updDma c f).sup = s.sup := rfl
@[simp] theorem State.updDma_sys (s : State) (c : Nat) (f : DmaChan → DmaChan) : (s.updDma c f).sys = s.sys := rfl
@[simp] theorem State.updDma_coll (s : State) (c : Nat) (f : DmaChan → DmaChan) : (s.updDma c f).coll = s.coll := rfl
@[simp] theorem State.updDma_log (s : State) (c : Nat) (f : DmaChan → DmaChan) : (s.updDma c f).log = s.log := rfl
@[simp] theorem State.updDma_hlm (s : State) (c : Nat) (f : DmaChan → DmaChan) : (s.updDma c f).hlm = s.hlm := rfl
@[simp] theorem State.updDma_clamps (s : State) (c : Nat) (f : DmaChan → DmaChan) : (s.updDma c f).clamps = s.clamps := rfl
@[simp] theorem State.updDma_disch (s : State) (c : Nat) (f : DmaChan → DmaChan) : (s.updDma c f).disch = s.disch := rfl
@[simp] theorem State.updDma_isl (s : State) (c : Nat) (f : DmaChan → DmaChan) : (s.updDma c f).isl = s.isl := rfl
@[simp] theorem State.updDma_dict (s : State) (c : Nat) (f : DmaChan → DmaChan) : (s.updDma c f).dict = s.dict := rfl
@[simp] theorem State.updDma_chg (s : State) (c : Nat) (f : DmaChan → DmaChan) : (s.updDma c f).chg = s.chg := rfl
@[simp] theorem State.updDma_cmdT (s : State) (c : Nat) (f : DmaChan → DmaChan) : (s.updDma c f).cmdT = s.cmdT := rfl
@[simp] theorem State.updDma_fl (s : State) (c : Nat) (f : DmaChan → DmaChan) : (s.updDma c f).fl = s.fl := rfl
@[simp] theorem State.updDma_sense (s : State) (c : Nat) (f : DmaChan → DmaChan) : (s.updDma c f).sense = s.sense := rfl
@[simp] theorem State.updDma_pos (s : State) (c : Nat) (f : DmaChan → DmaChan) : (s.updDma c f).pos = s.pos := rfl
@[simp] theorem State.updDma_si (s : State) (c : Nat) (f : DmaChan → DmaChan) : (s.updDma c f).si = s.si := rfl
@[simp] theorem State.updDma_sec (s : State) (c : Nat) (f : DmaChan → DmaChan) : (s.updDma c f).sec = s.sec := rfl
@[simp] theorem State.updDma_nv (s : State) (c : Nat) (f : DmaChan → DmaChan) : (s.updDma c f).nv = s.nv := rfl
@[simp] theorem State.updDma_net (s : State) (c : Nat) (f : DmaChan → DmaChan) : (s.updDma c f).net = s.net := rfl
@[simp] theorem State.updDma_out (s : State) (c : Nat) (f : DmaChan → DmaChan) : (s.updDma c f).out = s.out := rfl

@[simp] theorem State.updCan_pending (s : State) (c : Nat) (f : CanChan → CanChan) : (s.updCan c f).pending = s.pending := rfl
@[simp] theorem State.updCan_now (s : State) (c : Nat) (f : CanChan → CanChan) : (s.updCan c f).now = s.now := rfl
@[simp] theorem State.updCan_freeIx (s : State) (c : Nat) (f : CanChan → CanChan) : (s.updCan c f).freeIx = s.freeIx := rfl
@[simp] theorem State.updCan_opTime (s : State) (c : Nat) (f : CanChan → CanChan) : (s.updCan c f).opTime = s.opTime := rfl
@[simp] theorem State.updCan_vals (s : State) (c : Nat) (f : CanChan → CanChan) : (s.updCan c f).vals = s.vals := rfl
@[simp] theorem State.updCan_staged (s : State) (c : Nat) (f : CanChan → CanChan) : (s.updCan c f).staged = s.staged := rfl
@[simp] theorem State.updCan_pins (s : State) (c : Nat) (f : CanChan → CanChan) : (s.updCan c f).pins = s.pins := rfl
@[simp] theorem State.updCan_sup (s : State) (c : Nat) (f : CanChan → CanChan) : (s.updCan c f).sup = s.sup := rfl
@[simp] theorem State.updCan_sys (s : State) (c : Nat) (f : CanChan → CanChan) : (s.updCan c f).sys = s.sys := rfl
@[simp] theorem State.updCan_coll (s : State) (c : Nat) (f : CanChan → CanChan) : (s.updCan c f).coll = s.coll := rfl
@[simp] theorem State.updCan_log (s : State) (c : Nat) (f : CanChan → CanChan) : (s.updCan c f).log = s.log := rfl
@[simp] theorem State.updCan_hlm (s : State) (c : Nat) (f : CanChan → CanChan) : (s.updCan c f).hlm = s.hlm := rfl
@[simp] theorem State.updCan_clamps (s : State) (c : Nat) (f : CanChan → CanChan) : (s.updCan c f).clamps = s.clamps := rfl
@[simp] theorem State.updCan_disch (s : State) (c : Nat) (f : CanChan → CanChan) : (s.updCan c f).disch = s.disch := rfl
@[simp] theorem State.updCan_isl (s : State) (c : Nat) (f : CanChan → CanChan) : (s.updCan c f).isl = s.isl := rfl
@[simp] theorem State.updCan_dict (s : State) (c : Nat) (f : CanChan → CanChan) : (s.updCan c f).dict = s.dict := rfl
@[simp] theorem State.updCan_chg (s : State) (c : Nat) (f : CanChan → CanChan) : (s.updCan c f).chg = s.chg := rfl
@[simp] theorem State.updCan_cmdT (s : State) (c : Nat) (f : CanChan → CanChan) : (s.updCan c f).cmdT = s.cmdT := rfl
@[simp] theorem State.updCan_fl (s : State) (c : Nat) (f : CanChan → CanChan) : (s.updCan c f).fl = s.fl := rfl
@[simp] theorem State.updCan_sense (s : State) (c : Nat) (f : CanChan → CanChan) : (s.updCan c f).sense = s.sense := rfl
@[simp] theorem State.updCan_pos (s : State) (c : Nat) (f : CanChan → CanChan) : (s.updCan c f).pos = s.pos := rfl
@[simp] theorem State.updCan_si (s : State) (c : Nat) (f : CanChan → CanChan) : (s.updCan c f).si = s.si := rfl
@[simp] theorem State.updCan_sec (s : State) (c : Nat) (f : CanChan → CanChan) : (s.updCan c f).sec = s.sec := rfl
@[simp] theorem State.updCan_nv (s : State) (c : Nat) (f : CanChan → CanChan) : (s.updCan c f).nv = s.nv := rfl
@[simp] theorem State.updCan_mem (s : State) (c : Nat) (f : CanChan → CanChan) : (s.updCan c f).mem = s.mem := rfl
@[simp] theorem State.updCan_out (s : State) (c : Nat) (f : CanChan → CanChan) : (s.updCan c f).out = s.out := rfl

@[simp] theorem State.updPeer_pending (s : State) (n : Nat) (f : SpanPeer → SpanPeer) : (s.updPeer n f).pending = s.pending := rfl
@[simp] theorem State.updPeer_now (s : State) (n : Nat) (f : SpanPeer → SpanPeer) : (s.updPeer n f).now = s.now := rfl
@[simp] theorem State.updPeer_freeIx (s : State) (n : Nat) (f : SpanPeer → SpanPeer) : (s.updPeer n f).freeIx = s.freeIx := rfl
@[simp] theorem State.updPeer_opTime (s : State) (n : Nat) (f : SpanPeer → SpanPeer) : (s.updPeer n f).opTime = s.opTime := rfl
@[simp] theorem State.updPeer_vals (s : State) (n : Nat) (f : SpanPeer → SpanPeer) : (s.updPeer n f).vals = s.vals := rfl
@[simp] theorem State.updPeer_staged (s : State) (n : Nat) (f : SpanPeer → SpanPeer) : (s.updPeer n f).staged = s.staged := rfl
@[simp] theorem State.updPeer_pins (s : State) (n : Nat) (f : SpanPeer → SpanPeer) : (s.updPeer n f).pins = s.pins := rfl
@[simp] theorem State.updPeer_sup (s : State) (n : Nat) (f : SpanPeer → SpanPeer) : (s.updPeer n f).sup = s.sup := rfl
@[simp] theorem State.updPeer_sys (s : State) (n : Nat) (f : SpanPeer → SpanPeer) : (s.updPeer n f).sys = s.sys := rfl
@[simp] theorem State.updPeer_coll (s : State) (n : Nat) (f : SpanPeer → SpanPeer) : (s.updPeer n f).coll = s.coll := rfl
@[simp] theorem State.updPeer_log (s : State) (n : Nat) (f : SpanPeer → SpanPeer) : (s.updPeer n f).log = s.log := rfl
@[simp] theorem State.updPeer_hlm (s : State) (n : Nat) (f : SpanPeer → SpanPeer) : (s.updPeer n f).hlm = s.hlm := rfl
@[simp] theorem State.updPeer_clamps (s : State) (n : Nat) (f : SpanPeer → SpanPeer) : (s.updPeer n f).clamps = s.clamps := rfl
@[simp] theorem State.updPeer_disch (s : State) (n : Nat) (f : SpanPeer → SpanPeer) : (s.updPeer n f).disch = s.disch := rfl
@[simp] theorem State.updPeer_isl (s : State) (n : Nat) (f : SpanPeer → SpanPeer) : (s.updPeer n f).isl = s.isl := rfl
@[simp] theorem State.updPeer_dict (s : State) (n : Nat) (f : SpanPeer → SpanPeer) : (s.updPeer n f).dict = s.dict := rfl
@[simp] theorem State.updPeer_chg (s : State) (n : Nat) (f : SpanPeer → SpanPeer) : (s.updPeer n f).chg = s.chg := rfl
@[simp] theorem State.updPeer_cmdT (s : State) (n : Nat) (f : SpanPeer → SpanPeer) : (s.updPeer n f).cmdT = s.cmdT := rfl
@[simp] theorem State.updPeer_fl (s : State) (n : Nat) (f : SpanPeer → SpanPeer) : (s.updPeer n f).fl = s.fl := rfl
@[simp] theorem State.updPeer_sense (s : State) (n : Nat) (f : SpanPeer → SpanPeer) : (s.updPeer n f).sense = s.sense := rfl
@[simp] theorem State.updPeer_pos (s : State) (n : Nat) (f : SpanPeer → SpanPeer) : (s.updPeer n f).pos = s.pos := rfl
@[simp] theorem State.updPeer_si (s : State) (n : Nat) (f : SpanPeer → SpanPeer) : (s.updPeer n f).si = s.si := rfl
@[simp] theorem State.updPeer_sec (s : State) (n : Nat) (f : SpanPeer → SpanPeer) : (s.updPeer n f).sec = s.sec := rfl
@[simp] theorem State.updPeer_nv (s : State) (n : Nat) (f : SpanPeer → SpanPeer) : (s.updPeer n f).nv = s.nv := rfl
@[simp] theorem State.updPeer_mem (s : State) (n : Nat) (f : SpanPeer → SpanPeer) : (s.updPeer n f).mem = s.mem := rfl
@[simp] theorem State.updPeer_out (s : State) (n : Nat) (f : SpanPeer → SpanPeer) : (s.updPeer n f).out = s.out := rfl

@[simp] theorem State.setQ_pending (s : State) (o : Obj) (x : Rat) (p : Nat) : (s.setQ o x p).pending = s.pending := by unfold State.setQ; split <;> rfl
@[simp] theorem State.setQ_now (s : State) (o : Obj) (x : Rat) (p : Nat) : (s.setQ o x p).now = s.now := by unfold State.setQ; split <;> rfl
@[simp] theorem State.setQ_freeIx (s : State) (o : Obj) (x : Rat) (p : Nat) : (s.setQ o x p).freeIx = s.freeIx := by unfold State.setQ; split <;> rfl
@[simp] theorem State.setQ_opTime (s : State) (o : Obj) (x : Rat) (p : Nat) : (s.setQ o x p).opTime = s.opTime := by unfold State.setQ; split <;> rfl
@[simp] theorem State.setQ_staged (s : State) (o : Obj) (x : Rat) (p : Nat) : (s.setQ o x p).staged = s.staged := by unfold State.setQ; split <;> rfl
@[simp] theorem State.setQ_pins (s : State) (o : Obj) (x : Rat) (p : Nat) : (s.setQ o x p).pins = s.pins := by unfold State.setQ; split <;> rfl
@[simp] theorem State.setQ_sup (s : State) (o : Obj) (x : Rat) (p : Nat) : (s.setQ o x p).sup = s.sup := by unfold State.setQ; split <;> rfl
@[simp] theorem State.setQ_sys (s : State) (o : Obj) (x : Rat) (p : Nat) : (s.setQ o x p).sys = s.sys := by unfold State.setQ; split <;> rfl
@[simp] theorem State.setQ_coll (s : State) (o : Obj) (x : Rat) (p : Nat) : (s.setQ o x p).coll = s.coll := by unfold State.setQ; split <;> rfl
@[simp] theorem State.setQ_log (s : State) (o : Obj) (x : Rat) (p : Nat) : (s.setQ o x p).log = s.log := by unfold State.setQ; split <;> rfl
@[simp] theorem State.setQ_hlm (s : State) (o : Obj) (x : Rat) (p : Nat) : (s.setQ o x p).hlm = s.hlm := by unfold State.setQ; split <;> rfl
@[simp] theorem State.setQ_clamps (s : State) (o : Obj) (x : Rat) (p : Nat) : (s.setQ o x p).clamps = s.clamps := by unfold State.setQ; split <;> rfl
@[simp] theorem State.setQ_disch (s : State) (o : Obj) (x : Rat) (p : Nat) : (s.setQ o x p).disch = s.disch := by unfold State.setQ; split <;> rfl
@[simp] theorem State.setQ_isl (s : State) (o : Obj) (x : Rat) (p : Nat) : (s.setQ o x p).isl = s.isl := by unfold State.setQ; split <;> rfl
@[simp] theorem State.setQ_dict (s : State) (o : Obj) (x : Rat) (p : Nat) : (s.setQ o x p).dict = s.dict := by unfold State.setQ; split <;> rfl
@[simp] theorem State.setQ_chg (s : State) (o : Obj) (x : Rat) (p : Nat) : (s.setQ o x p).chg = s.chg := by unfold State.setQ; split <;> rfl
@[simp] theorem State.setQ_cmdT (s : State) (o : Obj) (x : Rat) (p : Nat) : (s.setQ o x p).cmdT = s.cmdT := by unfold State.setQ; split <;> rfl
@[simp] theorem State.setQ_fl (s : State) (o : Obj) (x : Rat) (p : Nat) : (s.setQ o x p).fl = s.fl := by unfold State.setQ; split <;> rfl
@[simp] theorem State.setQ_sense (s : State) (o : Obj) (x : Rat) (p : Nat) : (s.setQ o x p).sense = s.sense := by unfold State.setQ; split <;> rfl
@[simp] theorem State.setQ_pos (s : State) (o : Obj) (x : Rat) (p : Nat) : (s.setQ o x p).pos = s.pos := by unfold State.setQ; split <;> rfl
@[simp] theorem State.setQ_si (s : State) (o : Obj) (x : Rat) (p : Nat) : (s.setQ o x p).si = s.si := by unfold State.setQ; split <;> rfl
@[simp] theorem State.setQ_sec (s : State) (o : Obj) (x : Rat) (p : Nat) : (s.setQ o x p).sec = s.sec := by unfold State.setQ; split <;> rfl
@[simp] theorem State.setQ_nv (s : State) (o : Obj) (x : Rat) (p : Nat) : (s.setQ o x p).nv = s.nv := by unfold State.setQ; split <;> rfl
@[simp] theorem State.setQ_mem (s : State) (o : Obj) (x : Rat) (p : Nat) : (s.setQ o x p).mem = s.mem := by unfold State.setQ; split <;> rfl
@[simp] theorem State.setQ_net (s : State) (o : Obj) (x : Rat) (p : Nat) : (s.setQ o x p).net = s.net := by unfold State.setQ; split <;> rfl
@[simp] theorem State.setQ_out (s : State) (o : Obj) (x : Rat) (p : Nat) : (s.setQ o x p).out = s.out := by unfold State.setQ; split <;> rfl

@[simp] theorem State.draw_freeIx (s : State) : s.draw.freeIx = s.freeIx + 1 := rfl
@[simp] theorem State.send_out (s : State) (x : List Sent) : (s.send x).out = x := rfl
@[simp] theorem State.updIsl_isl (s : State) (n : IslIx) (f : Island → Island) : (s.updIsl n f).isl = s.isl.modify n.val f := rfl

end Sys2Proof.Machine
end

