-- ==== Sys2Proof/Laws/Store.lean ====
section
/-! SUPPORT. Reading an object after a write: the same place gives the value written, every other key is as before; writes keep the keys rising. -/

namespace Sys2Proof.Machine

theorem Store.find_put_same (st : Store) (k : Nat) (v : Int) : (st.put k v).find? k = some v := by
  induction st with
  | nil => simp [Store.put, Store.find?]
  | cons e t ih =>
    obtain ⟨a, x⟩ := e
    simp only [Store.put]
    split
    · simp [Store.find?]
    · split
      · simp [Store.find?]
      · rename_i h
        have : (k == a) = false := by simpa using h
        simpa [Store.find?, List.lookup, this] using ih

theorem Store.find_put_other (st : Store) (k j : Nat) (v : Int) (h : j ≠ k) : (st.put k v).find? j = st.find? j := by
  have hk : (j == k) = false := by simpa using h
  induction st with
  | nil => simp [Store.put, Store.find?, List.lookup, hk]
  | cons e t ih =>
    obtain ⟨a, x⟩ := e
    simp only [Store.put]
    split
    · simp [Store.find?, List.lookup, hk]
    · split
      · rename_i h2
        subst h2
        simp [Store.find?, List.lookup, hk]
      · by_cases hj : j = a
        · subst hj; simp [Store.find?, List.lookup]
        · have : (j == a) = false := by simpa using hj
          simpa [Store.find?, List.lookup, this] using ih

theorem Store.find_drop_same (st : Store) (k : Nat) : (st.drop k).find? k = none := by
  induction st with
  | nil => rfl
  | cons e t ih =>
    obtain ⟨a, x⟩ := e
    by_cases h : a = k
    · subst h; simpa [Store.drop, Store.find?, List.filter] using ih
    · have h1 : (a != k) = true := by simpa using h
      have h2 : (k == a) = false := by simpa using fun e => h e.symm
      simpa [Store.drop, Store.find?, List.filter, h1, List.lookup, h2] using ih

theorem Store.find_drop_other (st : Store) (k j : Nat) (h : j ≠ k) : (st.drop k).find? j = st.find? j := by
  induction st with
  | nil => rfl
  | cons e t ih =>
    obtain ⟨a, x⟩ := e
    by_cases h1 : a = k
    · subst h1
      have h2 : (j == a) = false := by simpa using h
      simpa [Store.drop, Store.find?, List.filter, List.lookup, h2] using ih
    · have h1' : (a != k) = true := by simpa using h1
      by_cases hj : j = a
      · subst hj; simp [Store.drop, Store.find?, List.filter, h1', List.lookup]
      · have h2 : (j == a) = false := by simpa using hj
        simpa [Store.drop, Store.find?, List.filter, h1', List.lookup, h2] using ih

theorem putObj_find_other (st : Store) (o : Obj) (v : Int) (p j : Nat) (h : j ≠ o.key p) : (putObj st o v p).find? j = st.find? j := by
  unfold putObj
  split
  · exact Store.find_drop_other _ _ _ h
  · exact Store.find_put_other _ _ _ _ h

@[simp] theorem State.get_set_same (s : State) (o : Obj) (v : Int) (p : Nat) : (s.set o v p).get o p = v := by
  unfold State.get State.set putObj
  simp only
  split
  · rename_i h; rw [Store.find_drop_same, h]; rfl
  · rw [Store.find_put_same]; rfl

theorem State.set_find_other (s : State) (o : Obj) (v : Int) (p j : Nat) (h : j ≠ o.key p) : (s.set o v p).vals.find? j = s.vals.find? j :=
  putObj_find_other _ _ _ _ _ h

theorem State.get_set_other (s : State) (o o' : Obj) (v : Int) (p p' : Nat) (h : o'.key p' ≠ o.key p) :
    (s.set o v p).get o' p' = s.get o' p' := by
  unfold State.get
  rw [State.set_find_other _ _ _ _ _ h]

/-- An object read from a state whose values are those of another. -/
theorem State.get_congr {s t : State} (h : t.vals = s.vals) (o : Obj) (p : Nat) : t.get o p = s.get o p := by
  unfold State.get; rw [h]

/-- Writing an object makes its getter the value, whatever stands in the state besides. -/
theorem State.getN_set_same (s : State) (o : Obj) (v : Int) (p : Nat) : (s.set o v p).getN o p = v.toNat := by
  simp [State.getN]

theorem State.get_bump_same (s : State) (o : Obj) (p : Nat) : (s.bump o p).get o p = countNext (8 * o.ty.bytes) (s.getN o p) := by
  simp [State.bump]

theorem State.get_bump_other (s : State) (o o' : Obj) (p p' : Nat) (h : o'.key p' ≠ o.key p) : (s.bump o p).get o' p' = s.get o' p' :=
  State.get_set_other _ _ _ _ _ _ h

/-! ### Rising keys -/

/-- Keys above a bound, strictly rising: what a store's list of keys is. -/
theorem rising_cons (a : Nat) (l : List Nat) : Safety.rising (a :: l) = true ↔ (∀ x ∈ l, a < x) ∧ Safety.rising l = true := by
  induction l generalizing a with
  | nil => simp [Safety.rising]
  | cons b t ih =>
    simp only [Safety.rising, Bool.and_eq_true, decide_eq_true_eq]
    constructor
    · rintro ⟨h1, h2⟩
      refine ⟨?_, h2⟩
      intro x hx
      rcases List.mem_cons.mp hx with rfl | hx
      · exact h1
      · exact Nat.lt_trans h1 (((ih b).mp h2).1 x hx)
    · rintro ⟨h1, h2⟩
      exact ⟨h1 b (by simp), h2⟩

theorem Store.put_keys (st : Store) (k : Nat) (v : Int) : ∀ x ∈ (st.put k v).map Prod.fst, x = k ∨ x ∈ st.map Prod.fst := by
  induction st with
  | nil => simp [Store.put]
  | cons e t ih =>
    obtain ⟨a, y⟩ := e
    simp only [Store.put]
    intro x hx
    split at hx
    · simpa using hx
    · split at hx
      · rename_i h; subst h; simp only [List.map_cons, List.mem_cons] at hx ⊢; rcases hx with h | h
        · exact .inl h
        · exact .inr (.inr h)
      · simp only [List.map_cons, List.mem_cons] at hx ⊢
        rcases hx with h | h
        · exact .inr (.inl h)
        · rcases ih x h with h | h
          · exact .inl h
          · exact .inr (.inr h)

/-- Writing a key keeps the keys rising. -/
theorem Store.put_rising (st : Store) (k : Nat) (v : Int) (h : Safety.rising (st.map Prod.fst) = true) : Safety.rising ((st.put k v).map Prod.fst) = true := by
  induction st with
  | nil => rfl
  | cons e t ih =>
    obtain ⟨a, x⟩ := e
    simp only [List.map_cons] at h
    obtain ⟨h1, h2⟩ := (rising_cons a _).mp h
    simp only [Store.put]
    split
    · rename_i hk
      simp only [List.map_cons]
      refine (rising_cons k _).mpr ⟨?_, h⟩
      intro y hy
      rcases List.mem_cons.mp hy with rfl | hy
      · exact hk
      · exact Nat.lt_trans hk (h1 y hy)
    · split
      · rename_i hk; subst hk
        simp only [List.map_cons]; exact h
      · simp only [List.map_cons]
        refine (rising_cons a _).mpr ⟨?_, ih h2⟩
        intro y hy
        rcases Store.put_keys t k v y hy with rfl | hy
        · omega
        · exact h1 y hy

/-- Leaving entries out keeps the keys rising. -/
theorem Store.filter_rising (st : Store) (p : Nat × Int → Bool) (h : Safety.rising (st.map Prod.fst) = true) :
    Safety.rising ((st.filter p).map Prod.fst) = true := by
  induction st with
  | nil => rfl
  | cons e t ih =>
    simp only [List.map_cons] at h
    obtain ⟨h1, h2⟩ := (rising_cons e.1 _).mp h
    simp only [List.filter]
    split
    · simp only [List.map_cons]
      refine (rising_cons e.1 _).mpr ⟨?_, ih h2⟩
      intro y hy
      obtain ⟨z, hz, rfl⟩ := List.mem_map.mp hy
      exact h1 _ (List.mem_map.mpr ⟨z, (List.mem_filter.mp hz).1, rfl⟩)
    · exact ih h2

theorem Store.drop_rising (st : Store) (k : Nat) (h : Safety.rising (st.map Prod.fst) = true) : Safety.rising ((st.drop k).map Prod.fst) = true :=
  Store.filter_rising st _ h

theorem putObj_rising (st : Store) (o : Obj) (v : Int) (p : Nat) (h : Safety.rising (st.map Prod.fst) = true) :
    Safety.rising ((putObj st o v p).map Prod.fst) = true := by
  unfold putObj
  split
  · exact Store.drop_rising _ _ h
  · exact Store.put_rising _ _ _ h

/-- Writing an object keeps the canonical form of the state. -/
theorem State.set_sound (s : State) (o : Obj) (v : Int) (p : Nat) (h : Safety.sound s) : Safety.sound (s.set o v p) :=
  ⟨putObj_rising _ _ _ _ h.1, h.2⟩

/-! ### Keys of places -/

/-- The place found for a key is the place of that key. -/
theorem Obj.place_key {o : Obj} {key p : Nat} (h : o.place? key = some p) : o.key p = key := by
  unfold Obj.place? at h
  dsimp only at h
  split at h
  · rename_i hc
    obtain ⟨h1, h2, h3, h4, h5⟩ := hc
    cases h
    have hs : 0 < o.subs := by omega
    have hlt : key % 256 - o.sub < o.subs := by omega
    unfold Obj.key
    rw [Nat.mul_comm _ o.subs, Nat.mul_add_div hs, Nat.mul_add_mod, Nat.div_eq_of_lt hlt, Nat.mod_eq_of_lt hlt]
    have hd : o.stride * ((key / 256 - o.idx) / o.stride) = key / 256 - o.idx := Nat.mul_div_cancel' (Nat.dvd_of_mod_eq_zero h2)
    rw [Nat.add_zero, hd]
    omega
  · cases h

theorem findIn_key {l : List Obj} {key p : Nat} {o : Obj} (h : findIn l key = some (o, p)) : o.key p = key := by
  induction l with
  | nil => cases h
  | cons a t ih =>
    simp only [findIn] at h
    split at h
    · rename_i q hq; cases h; exact Obj.place_key hq
    · exact ih h

/-- The object and place that a key names are that key's. -/
theorem findObj_key {key p : Nat} {o : Obj} (h : findObj key = some (o, p)) : o.key p = key := by
  unfold findObj at h
  split at h
  · cases h
  · exact findIn_key h

end Sys2Proof.Machine
end

