-- ==== Sys2Proof/Laws/Service.lean ====
section
/-! SUPPORT. A request that is taken in runs its body, once and for all commands; what a reply touches and that it is sent. -/

namespace Sys2Proof.Machine
open Sys2Proof.Safety

theorem onlyVals_refl (ks : List Nat) (s : State) : onlyVals ks s s := fun _ _ => rfl

theorem onlyVals_trans {ks : List Nat} {s t u : State} (h1 : onlyVals ks s t) (h2 : onlyVals ks t u) : onlyVals ks s u :=
  fun k hk => (h2 k hk).trans (h1 k hk)

theorem onlyVals_mono {ks ls : List Nat} {s t : State} (h : onlyVals ks s t) (hs : ∀ k ∈ ks, k ∈ ls) : onlyVals ls s t :=
  fun k hk => h k fun hm => hk (hs k hm)

/-- One more object of the list written. -/
theorem onlyVals_set {ks : List Nat} {s t : State} {o : Obj} {v : Int} {p : Nat} (h : onlyVals ks s t) (hk : o.key p ∈ ks) : onlyVals ks s (t.set o v p) := by
  intro k hn
  rw [State.set_find_other _ _ _ _ _ (fun e => by subst e; exact hn hk)]
  exact h k hn

theorem onlyVals_congr {ks : List Nat} {s t u : State} (h : onlyVals ks s t) (hv : u.vals = t.vals) : onlyVals ks s u :=
  fun k hk => by rw [hv]; exact h k hk

theorem State.ownNode_congr {s t : State} (h1 : t.get O.SPAN_ROLE = s.get O.SPAN_ROLE) (h2 : t.get O.SPAN_NODE = s.get O.SPAN_NODE) :
    t.ownNode = s.ownNode := by
  unfold State.ownNode State.getN; rw [h1, h2]

theorem State.ownNode_bump_accepted (s : State) : (s.bump O.REQ_ACCEPTED).ownNode = s.ownNode :=
  State.ownNode_congr (State.get_bump_other _ _ _ _ _ (by decide)) (State.get_bump_other _ _ _ _ _ (by decide))

/-- Admission of a request that meets `takesIn`. -/
theorem State.admit_taken {s : State} {r : Req} {id : ReqId} (hp : id.bufs = s.bufsFor r.size)
    (hu : s.dict.poolUsed + s.bufsFor r.size ≤ s.poolSize) (hb : notHeldBack s r.port = true) (hn : r.node.val = s.ownNode)
    (hl : r.lenOk = true) (hq : s.queueFull r id = false) (hv : (s.levelOf r.port r.session).isSome = true) (body : ReqId → State → State) :
    s.takeRequest r id false body = body id (taken s r id) := by
  obtain ⟨lv, hlv⟩ := Option.isSome_iff_exists.mp hv
  unfold State.takeRequest taken
  have hheld : (match s.dict.busyHold with | some p => (portBase p) != (portBase r.port) | none => false) = false := by
    unfold notHeldBack at hb
    cases hh : s.dict.busyHold with
    | none => rfl
    | some p => rw [hh] at hb; simp only at hb ⊢; simpa [bne] using hb
  have hnot : ¬ (s.poolSize < s.dict.poolUsed + id.bufs ∨
      (match s.dict.busyHold with | some p => (portBase p) != (portBase r.port) | none => false) = true ∨ s.queueFull r id = true) := by
    rw [hheld, hp, hq]; simp; exact hu
  have key : ∀ u : State, u.vals = s.vals → u.sec = s.sec → 
      (if r.node.val ≠ (u.bump O.REQ_ACCEPTED).ownNode then
        if (u.bump O.REQ_ACCEPTED).get O.SPAN_ROLE ≠ 1 ∨ r.size > 64 then (u.bump O.REQ_ACCEPTED).refuse id abortCmd
        else if (u.bump O.REQ_ACCEPTED).get O.NODE_STATE (r.node.val - 1) ≠ 2 then (u.bump O.REQ_ACCEPTED).refuse id abortState
        else (u.bump O.REQ_ACCEPTED).relayTo r.node id
      else if (!r.lenOk) = true then (u.bump O.REQ_ACCEPTED).refuse id abortCmd
      else if false = true then body id (u.bump O.REQ_ACCEPTED)
      else match (u.bump O.REQ_ACCEPTED).levelOf r.port r.session with
        | none => (u.bump O.REQ_ACCEPTED).refuse id abortSession
        | some _ => body id ((u.bump O.REQ_ACCEPTED).touch r.port r.session)) =
      body id ((u.bump O.REQ_ACCEPTED).touch r.port r.session) := by
    intro u hv1 hs1
    have h1 : (u.bump O.REQ_ACCEPTED).ownNode = s.ownNode := by
      rw [State.ownNode_bump_accepted]
      exact State.ownNode_congr (State.get_congr hv1 _ _) (State.get_congr hv1 _ _)
    have h2 : (u.bump O.REQ_ACCEPTED).levelOf r.port r.session = some lv := by
      rw [← hlv]; unfold State.levelOf; simp [hs1]
    rw [h1, h2]
    simp [hn, hl]
  refine (if_neg hnot).trans ?_
  dsimp only
  split
  · exact key _ rfl rfl
  · exact key _ rfl rfl

/-- A request that meets `takesIn` runs its body in the state `taken`. -/
theorem State.service_taken {s : State} {r : Req} {cmd key : Nat} (h : takesIn s r cmd key = true) (body : ReqId → State → State) :
    s.service r cmd key body = body (reqId s r cmd key) (taken s r (reqId s r cmd key)) := by
  simp only [takesIn, Bool.and_eq_true, decide_eq_true_eq, Bool.not_eq_true'] at h
  obtain ⟨⟨⟨⟨⟨⟨⟨⟨⟨hs, hp⟩, hz⟩, hr⟩, hu⟩, hb⟩, hn⟩, hl⟩, hq⟩, hv⟩ := h
  have had := State.admit_taken (s := s) (r := r) (id := reqId s r cmd key) rfl hu hb hn hl hq hv body
  unfold State.service
  simp only [hs, hp, Bool.and_true, Bool.not_true, Bool.false_eq_true, if_false, Nat.not_lt.mpr hz]
  unfold repeated at hr
  rw [show (reqId s r cmd key).port = r.port from rfl] at hr
  unfold reqId at hr had ⊢
  split
  · rename_i l hl1
    rw [hl1] at hr
    simp only [decide_eq_false_iff_not] at hr
    rw [if_neg hr]
    exact had
  · exact had

/-! ### The state in which a body runs -/

theorem taken_eq (s : State) (r : Req) (id : ReqId) :
    taken s r id = { s with vals := (s.bump O.REQ_ACCEPTED).vals, dict := { s.dict with last := (taken s r id).dict.last, busyHold := (taken s r id).dict.busyHold },
                            sec := { s.sec with sessions := (taken s r id).sec.sessions } } := by
  unfold taken; dsimp only; split <;> rfl

@[simp] theorem taken_vals (s : State) (r : Req) (id : ReqId) : (taken s r id).vals = (s.bump O.REQ_ACCEPTED).vals := by rw [taken_eq]
@[simp] theorem taken_persist (s : State) (r : Req) (id : ReqId) : (taken s r id).dict.persist = s.dict.persist := by rw [taken_eq]

/-- An object other than the request counter reads as it did. -/
theorem taken_get (s : State) (r : Req) (id : ReqId) (o : Obj) (p : Nat) (h : o.key p ≠ O.REQ_ACCEPTED.key 0) :
    (taken s r id).get o p = s.get o p := by
  rw [State.get_congr (taken_vals s r id)]; exact State.get_bump_other _ _ _ _ _ h

theorem taken_levelOf (s : State) (r : Req) (id : ReqId) (p : Port) (h : Byte) : (taken s r id).levelOf p h = s.levelOf p h := by
  have hs : (taken s r id).sec.sessions =
      s.sec.sessions.map fun (x : Session) => if x.handle == r.session && x.port == r.port then { x with last := s.now } else x := by
    unfold taken; dsimp only; split <;> rfl
  unfold State.levelOf
  rw [hs]
  have hf : (fun (x : Session) => x.handle == h && x.port == p) ∘ (fun (x : Session) => if x.handle == r.session && x.port == r.port then { x with last := s.now } else x)
      = fun (x : Session) => x.handle == h && x.port == p := by
    funext x; simp only [Function.comp]; split <;> rfl
  rw [List.find?_map, hf, Option.map_map]
  split
  · rfl
  · congr 1; funext x; simp only [Function.comp]; split <;> rfl

theorem taken_sourceOk (s : State) (r : Req) (id : ReqId) (p : Port) : (taken s r id).sourceOk p = s.sourceOk p := by
  unfold State.sourceOk State.cmdSource State.getN
  rw [taken_get _ _ _ _ _ (by decide), taken_get _ _ _ _ _ (by decide), taken_get _ _ _ _ _ (by decide)]

theorem taken_checkAccess (s : State) (r : Req) (id : ReqId) (p : Port) (l : Lvl) (o : Obj) :
    (taken s r id).checkAccess p l o = s.checkAccess p l o := by
  unfold State.checkAccess; rw [taken_sourceOk]

theorem taken_checkWrite (s : State) (r r' : Req) (id : ReqId) (o : Obj) (v : Int) :
    (taken s r id).checkWrite r' o v = s.checkWrite r' o v := by
  unfold State.checkWrite; rw [taken_levelOf, taken_checkAccess]

/-- A write that meets `writeRuns` has its effect in the state `taken`. -/
theorem State.writeReq_runs {s : State} {r : Req} {o : Obj} {p : Nat} {v : Int} (h : writeRuns s r o p v) (act : ReqId → State → State) :
    s.writeReq r o p v act = act (reqId s r 0x02 (o.key p)) (taken s r (reqId s r 0x02 (o.key p))) := by
  obtain ⟨ht, hc⟩ := h
  unfold State.writeReq
  rw [State.service_taken ht, taken_checkWrite, hc]

/-! ### Replies -/

theorem State.canKick_eq (s : State) (c : Nat) :
    s.canKick c = { s with net := { s.net with can := (s.canKick c).net.can }, out := (s.canKick c).out } := by
  unfold State.canKick; dsimp only; split
  · rfl
  · split <;> rfl

theorem State.canKick_sent (s : State) (c : Nat) {x : Sent} (h : x ∈ s.out) : x ∈ (s.canKick c).out := by
  unfold State.canKick; dsimp only; split
  · exact h
  · split
    · exact h
    · exact List.mem_append_left _ h

/-- A reply changes the queues of its port, the pool and what is sent. -/
theorem State.transmit_eq (s : State) (id : ReqId) (r : Reply) :
    s.transmit id r = { s with dict := { s.dict with poolUsed := (s.transmit id r).dict.poolUsed },
                               net := { s.net with can := (s.transmit id r).net.can, spiQ := (s.transmit id r).net.spiQ, peers := (s.transmit id r).net.peers },
                               out := (s.transmit id r).out } := by
  unfold State.transmit; dsimp only; split
  · split
    · rw [State.canKick_eq]; rfl
    · rfl
  · rfl
  · rfl
  · rfl

/-- A reply is sent. -/
theorem State.transmit_sent (s : State) (id : ReqId) (r : Reply) : Sent.reply id r ∈ (s.transmit id r).out := by
  unfold State.transmit; dsimp only; split
  · split
    · exact State.canKick_sent _ _ (by simp [State.send, State.updCan])
    · simp [State.send, State.updCan]
  · simp [State.send]
  · simp [State.send]
  · simp [State.spanSend, State.spanBoth, State.updPeer, State.send]

theorem State.reply_eq (s : State) (id : ReqId) (r : Reply) :
    s.reply id r = { s with dict := { s.dict with last := (s.reply id r).dict.last, poolUsed := (s.reply id r).dict.poolUsed },
                            net := { s.net with can := (s.reply id r).net.can, spiQ := (s.reply id r).net.spiQ, peers := (s.reply id r).net.peers },
                            out := (s.reply id r).out } := by
  unfold State.reply; dsimp only; rw [State.transmit_eq]

theorem State.reply_sent (s : State) (id : ReqId) (r : Reply) : Sent.reply id r ∈ (s.reply id r).out := State.transmit_sent _ _ _

@[simp] theorem State.reply_vals (s : State) (id : ReqId) (r : Reply) : (s.reply id r).vals = s.vals := by rw [State.reply_eq]
@[simp] theorem State.done_vals (s : State) (id : ReqId) : (s.done id).vals = s.vals := State.reply_vals _ _ _
theorem State.done_sent (s : State) (id : ReqId) : Sent.reply id (.ok []) ∈ (s.done id).out := State.reply_sent _ _ _

end Sys2Proof.Machine
end

