-- ==== Sys2Proof/Laws/Report.lean ====
section
/-! SUPPORT. Records and reports: what they touch, and what a report of a C1 or C2 fault leaves in the lists. -/

namespace Sys2Proof.Machine
open Sys2Proof.Safety

/-- A record touches the log and the trigger of the trace. -/
theorem State.record_eq (s : State) (a b c d : Nat) :
    s.record a b c d = { s with log := (s.record a b c d).log,
                                fl := { s.fl with trace := { s.fl.trace with trig := (s.record a b c d).fl.trace.trig } } } := by
  unfold State.record; dsimp only; split <;> rfl

@[simp] theorem State.record_vals (s : State) (a b c d : Nat) : (s.record a b c d).vals = s.vals := by rw [State.record_eq]
@[simp] theorem State.record_coll (s : State) (a b c d : Nat) : (s.record a b c d).coll = s.coll := by rw [State.record_eq]
@[simp] theorem State.record_isl (s : State) (a b c d : Nat) : (s.record a b c d).isl = s.isl := by rw [State.record_eq]
@[simp] theorem State.record_sys (s : State) (a b c d : Nat) : (s.record a b c d).sys = s.sys := by rw [State.record_eq]
@[simp] theorem State.record_hlm (s : State) (a b c d : Nat) : (s.record a b c d).hlm = s.hlm := by rw [State.record_eq]
@[simp] theorem State.record_disch (s : State) (a b c d : Nat) : (s.record a b c d).disch = s.disch := by rw [State.record_eq]
@[simp] theorem State.record_sup (s : State) (a b c d : Nat) : (s.record a b c d).sup = s.sup := by rw [State.record_eq]
@[simp] theorem State.record_pins (s : State) (a b c d : Nat) : (s.record a b c d).pins = s.pins := by rw [State.record_eq]
@[simp] theorem State.record_get (s : State) (a b c d : Nat) (o : Obj) (p : Nat) : (s.record a b c d).get o p = s.get o p := State.get_congr (State.record_vals _ _ _ _ _) _ _

/-- The record appended last. -/
theorem State.record_seq (s : State) (a b c d : Nat) : (s.record a b c d).log.seq = s.log.seq + 1 := by
  unfold State.record; dsimp only; split <;> rfl

theorem mem_reportAdd (f : FaultCode) (l : List FaultCode) : f ∈ reportAdd f l ∨ f.cls = 1 ∧ 32 ≤ l.length := by
  unfold reportAdd
  split
  · exact .inl ‹_›
  · split
    · simp
    · split
      · simp
      · split
        · exact .inr ⟨‹_›, by omega⟩
        · simp

theorem State.note_frame (s : State) (f : FaultCode) (d : Nat) : reportFrame s (s.note f d) := by
  unfold reportFrame State.note
  dsimp only
  split
  · rfl
  · split
    · rfl
    · split
      all_goals rw [State.record_eq]

/-- A report changes no object but the count of suppressed records. -/
theorem State.note_vals (s : State) (f : FaultCode) (d : Nat) : onlyVals [O.LOG_SUPPRESSED.key 0] s (s.note f d) := by
  intro k hk
  have hk' : k ≠ O.LOG_SUPPRESSED.key 0 := by simpa using hk
  unfold State.note; dsimp only
  split
  · rfl
  · split
    · exact State.set_find_other _ _ _ _ _ hk'
    · simp only [State.record_vals]

theorem State.note_get (s : State) (f : FaultCode) (d : Nat) (o : Obj) (p : Nat) (h : o.key p ≠ O.LOG_SUPPRESSED.key 0) :
    (s.note f d).get o p = s.get o p := by
  unfold State.get; rw [State.note_vals s f d _ (by simpa using h)]

/-- A condition not yet listed is reported. -/
theorem State.note_reported (s : State) (f : FaultCode) (d : Nat) (h : (f, d) ∉ s.coll.conds) : Reported s (s.note f d) f d := by
  unfold Reported State.note
  rw [if_neg h]
  dsimp only
  split
  · simp [mem_reportAdd]
  · split <;> simp [mem_reportAdd]

theorem State.unnote_frame (s : State) (f : FaultCode) (d : Nat) : reportFrame s (s.unnote f d) := by
  unfold reportFrame State.unnote
  dsimp only
  split
  · split
    · rfl
    · rw [State.record_eq]
  · rfl

@[simp] theorem State.unnote_vals (s : State) (f : FaultCode) (d : Nat) : (s.unnote f d).vals = s.vals := by
  unfold State.unnote; dsimp only
  split
  · split
    · rfl
    · simp only [State.record_vals]
  · rfl

theorem State.unnote_left (s : State) (f : FaultCode) (d : Nat) (h : soleCond s f d) : Left (s.unnote f d) f d := by
  obtain ⟨hc, -, hn, hr⟩ := h
  have hone : (s.coll.conds.erase (f, d)).any (fun x => x.1 == f) = false := by
    have h1 : ((s.coll.conds.erase (f, d)).filter fun x => x.1 == f).length = 0 := by
      have hp := (List.perm_cons_erase hc).filter (fun x => x.1 == f)
      have := hp.length_eq
      simp only [List.filter_cons, beq_self_eq_true, if_true, List.length_cons] at this
      omega
    rw [List.any_eq_false]
    intro x hx hxf
    have := List.length_eq_zero_iff.mp h1
    have hm : x ∈ (s.coll.conds.erase (f, d)).filter fun x => x.1 == f := List.mem_filter.mpr ⟨hx, by simpa using hxf⟩
    rw [this] at hm
    exact absurd hm (by simp)
  unfold Left State.unnote
  dsimp only
  rw [if_pos hc, if_neg (by rw [hone]; decide)]
  simp only [State.record_coll]
  constructor
  · intro hm
    have := List.any_eq_false.mp hone _ hm
    simp at this
  · intro hm
    have h2 := List.count_erase_self (a := f) (l := s.coll.reported)
    have h3 : 0 < (s.coll.reported.erase f).count f := List.count_pos_iff.mpr hm
    omega

end Sys2Proof.Machine
end

