-- ==== Sys2Proof/Laws/Faults.lean ====
section
/-! SUPPORT. A first fault of class C3 or C4: what it leaves in the collector, the Helmet and the device state, and what it does not touch. -/

namespace Sys2Proof.Machine
open Sys2Proof.Safety

/-- The parts that posting a fault never touches. -/
def State.aside (s : State) := (s.pending, s.now, s.opTime, s.pins, s.clamps, s.si, s.mem, s.net, s.out)

/-- The slots of the collector. -/
def State.collSlots (s : State) := (s.coll.active, s.coll.pend, s.coll.overflow)

theorem faultFrame_iff (s t : State) : faultFrame s t ↔ t.aside = s.aside := by
  simp [faultFrame, State.aside]

@[simp] theorem State.set_aside (s : State) (o : Obj) (v : Int) (p : Nat) : (s.set o v p).aside = s.aside := rfl
@[simp] theorem State.set_collSlots (s : State) (o : Obj) (v : Int) (p : Nat) : (s.set o v p).collSlots = s.collSlots := rfl
@[simp] theorem State.draw_aside (s : State) : s.draw.aside = s.aside := rfl
@[simp] theorem State.draw_collSlots (s : State) : s.draw.collSlots = s.collSlots := rfl
@[simp] theorem State.setQ_aside (s : State) (o : Obj) (x : Rat) (p : Nat) : (s.setQ o x p).aside = s.aside := by unfold State.setQ; split <;> rfl
@[simp] theorem State.setQ_collSlots (s : State) (o : Obj) (x : Rat) (p : Nat) : (s.setQ o x p).collSlots = s.collSlots := by unfold State.setQ; split <;> rfl
@[simp] theorem State.record_aside (s : State) (a b c d : Nat) : (s.record a b c d).aside = s.aside := by rw [State.record_eq]; rfl
@[simp] theorem State.record_collSlots (s : State) (a b c d : Nat) : (s.record a b c d).collSlots = s.collSlots := by rw [State.record_eq]; rfl
@[simp] theorem State.note_aside (s : State) (f : FaultCode) (d : Nat) : (s.note f d).aside = s.aside := by
  rw [show s.note f d = _ from State.note_frame s f d]; rfl
@[simp] theorem State.unnote_aside (s : State) (f : FaultCode) (d : Nat) : (s.unnote f d).aside = s.aside := by
  rw [show s.unnote f d = _ from State.unnote_frame s f d]; rfl
@[simp] theorem State.note_sys (s : State) (f : FaultCode) (d : Nat) : (s.note f d).sys = s.sys := by
  rw [show s.note f d = _ from State.note_frame s f d]
@[simp] theorem State.unnote_sys (s : State) (f : FaultCode) (d : Nat) : (s.unnote f d).sys = s.sys := by
  rw [show s.unnote f d = _ from State.unnote_frame s f d]
@[simp] theorem State.note_hlm (s : State) (f : FaultCode) (d : Nat) : (s.note f d).hlm = s.hlm := by
  rw [show s.note f d = _ from State.note_frame s f d]
@[simp] theorem State.unnote_hlm (s : State) (f : FaultCode) (d : Nat) : (s.unnote f d).hlm = s.hlm := by
  rw [show s.unnote f d = _ from State.unnote_frame s f d]
@[simp] theorem State.note_collSlots (s : State) (f : FaultCode) (d : Nat) : (s.note f d).collSlots = s.collSlots := by
  unfold State.note State.collSlots; dsimp only; split
  · rfl
  · split
    · rfl
    · split <;> simp
@[simp] theorem State.unnote_collSlots (s : State) (f : FaultCode) (d : Nat) : (s.unnote f d).collSlots = s.collSlots := by
  unfold State.unnote State.collSlots; dsimp only; split
  · split
    · rfl
    · simp
  · rfl

/-- A report adds conditions and drops none. -/
theorem State.note_conds (s : State) (f : FaultCode) (d : Nat) {x : FaultCode × Nat} (h : x ∈ s.coll.conds) : x ∈ (s.note f d).coll.conds := by
  unfold State.note; dsimp only; split
  · exact h
  · split
    · simp [h]
    · split <;> simp [h]

/-- The end of a condition drops no other. -/
theorem State.unnote_conds (s : State) (f : FaultCode) (d : Nat) {x : FaultCode × Nat} (hx : x ≠ (f, d)) (h : x ∈ s.coll.conds) :
    x ∈ (s.unnote f d).coll.conds := by
  have := (List.mem_erase_of_ne hx).mpr h
  unfold State.unnote; dsimp only; split
  · split
    · exact this
    · simpa using this
  · exact h

/-- Folding steps that keep a projection keeps it. -/
theorem foldl_keeps {α β : Type} (g : State → β) (f : State → α → State) (h : ∀ s x, g (f s x) = g s) (l : List α) (s : State) :
    g (l.foldl f s) = g s := by
  induction l generalizing s with
  | nil => rfl
  | cons a l ih => rw [List.foldl_cons, ih, h]

theorem foldl_keeps_prop {α : Type} (P : State → Prop) (f : State → α → State) (h : ∀ s x, P s → P (f s x)) (l : List α) (s : State) (hs : P s) :
    P (l.foldl f s) := by
  induction l generalizing s with
  | nil => exact hs
  | cons a l ih => rw [List.foldl_cons]; exact ih _ (h _ _ hs)

/-! ### The Helmet's evaluation and preload -/

/-- An evaluation touches the Helmet's own state and object values. -/
theorem State.hlmEval_eq (s : State) : s.hlmEval = { s with vals := s.hlmEval.vals, hlm := s.hlmEval.hlm } := by
  have hf : ∀ (g : State → Nat → State) (l : List Nat) (u : State), (∀ v m, g v m = { v with vals := (g v m).vals }) →
      l.foldl g u = { u with vals := (l.foldl g u).vals } := by
    intro g l
    induction l with
    | nil => intro u _; rfl
    | cons a l ih =>
      intro u hg
      rw [List.foldl_cons, ih _ hg, hg u a]
  unfold State.hlmEval
  split
  · rfl
  · dsimp only
    rw [hf _ _ _ (fun v m => by simp only [State.setQ]; repeat' split <;> rfl)]

@[simp] theorem State.hlmEval_aside (s : State) : s.hlmEval.aside = s.aside := by rw [State.hlmEval_eq]; rfl
@[simp] theorem State.hlmEval_coll (s : State) : s.hlmEval.coll = s.coll := by rw [State.hlmEval_eq]
@[simp] theorem State.hlmEval_sys (s : State) : s.hlmEval.sys = s.sys := by rw [State.hlmEval_eq]
@[simp] theorem State.hlmEval_disch (s : State) : s.hlmEval.disch = s.disch := by rw [State.hlmEval_eq]

/-- What an evaluation leaves of the Helmet's other state. -/
theorem State.hlmEval_catch (s : State) : s.hlmEval.hlm.catchPermit = s.hlm.catchPermit := by
  unfold State.hlmEval
  split
  · rfl
  · dsimp only
    exact foldl_keeps (fun u => u.hlm.catchPermit) _ (fun u m => by simp) _ _

theorem State.writePreload_keeps {β : Type} (g : State → β) (hu : ∀ s n, g (State.unnote s .islPreloadStale n) = g s)
    (hi : ∀ (s : State) c l, g { s with hlm := { s.hlm with preCount := c }, isl := l } = g s) (s : State) : g s.writePreload = g s := by
  unfold State.writePreload
  split
  · rfl
  · dsimp only
    rw [foldl_keeps g _ (fun u n => hu u n)]
    exact hi _ _ _

@[simp] theorem State.writePreload_aside (s : State) : s.writePreload.aside = s.aside := State.writePreload_keeps _ (by simp) (fun _ _ _ => rfl) s
@[simp] theorem State.writePreload_collSlots (s : State) : s.writePreload.collSlots = s.collSlots := State.writePreload_keeps _ (by simp) (fun _ _ _ => rfl) s
@[simp] theorem State.writePreload_sys (s : State) : s.writePreload.sys = s.sys := State.writePreload_keeps (fun s => s.sys) (by simp) (fun _ _ _ => rfl) s
@[simp] theorem State.writePreload_catch (s : State) : s.writePreload.hlm.catchPermit = s.hlm.catchPermit :=
  State.writePreload_keeps (fun s => s.hlm.catchPermit) (by simp) (fun _ _ _ => rfl) s

theorem State.writePreload_conds (s : State) {x : FaultCode × Nat} (hx : x.1 ≠ .islPreloadStale) (h : x ∈ s.coll.conds) : x ∈ s.writePreload.coll.conds := by
  unfold State.writePreload
  split
  · exact h
  · dsimp only
    exact foldl_keeps_prop (fun u => x ∈ u.coll.conds) _ (fun u n hu => State.unnote_conds u _ _ (by intro he; exact hx (by rw [he])) hu) _ _ h

/-! ### The token and the permit -/

@[simp] theorem State.tokenStop_aside (s : State) : s.tokenStop.aside = s.aside := by unfold State.tokenStop; split <;> rfl
@[simp] theorem State.tokenStop_coll (s : State) : s.tokenStop.coll = s.coll := by unfold State.tokenStop; split <;> rfl
@[simp] theorem State.tokenStop_hlm (s : State) : s.tokenStop.hlm = s.hlm := by unfold State.tokenStop; split <;> rfl
@[simp] theorem State.tokenStop_dev (s : State) : s.tokenStop.sys.dev = s.sys.dev := by unfold State.tokenStop; split <;> rfl
@[simp] theorem State.gauntlet_aside (s : State) : s.gauntlet.aside = s.aside := by
  unfold State.gauntlet; dsimp only; rw [State.tokenStop_aside]; rfl
@[simp] theorem State.gauntlet_coll (s : State) : s.gauntlet.coll = s.coll := by simp [State.gauntlet, State.refreshIsl]
@[simp] theorem State.gauntlet_dev (s : State) : s.gauntlet.sys.dev = s.sys.dev := by simp [State.gauntlet, State.refreshIsl]

/-- With a fault held and no catch in progress the permit is withdrawn and the token stopped. -/
theorem State.gauntlet_safe (s : State) (h : s.coll.any = true) (hc : s.hlm.catchPermit = false) :
    s.gauntlet.hlm.permit = false ∧ s.gauntlet.sys.tokenOn = false := by
  have hp : s.permitWanted = false := by simp [State.permitWanted, State.catching, h, hc]
  constructor
  · simp [State.gauntlet, State.refreshIsl, hp]
  · simp [State.gauntlet, State.refreshIsl, State.tokenStop, State.tokenAllowed, State.catching, h, hc]

/-! ### Entering a safe state -/

@[simp] theorem State.abortCount_aside (s : State) (h : Byte) : (s.abortCount h).aside = s.aside := by
  unfold State.abortCount; rw [State.note_aside]; rfl
@[simp] theorem State.abortCount_collSlots (s : State) (h : Byte) : (s.abortCount h).collSlots = s.collSlots := by
  unfold State.abortCount; rw [State.note_collSlots]; rfl
@[simp] theorem State.abortCount_sys (s : State) (h : Byte) : (s.abortCount h).sys = s.sys := by unfold State.abortCount; rw [State.note_sys]; rfl
@[simp] theorem State.abortCount_hlm (s : State) (h : Byte) : (s.abortCount h).hlm = s.hlm := by unfold State.abortCount; rw [State.note_hlm]; rfl
theorem State.abortCount_conds (s : State) (h : Byte) {x : FaultCode × Nat} (hx : x ∈ s.coll.conds) : x ∈ (s.abortCount h).coll.conds :=
  State.note_conds _ _ _ hx

/-- The end of a write transfer keeps what setting an object, counting it and an NV update keep. -/
theorem State.abortW_keeps {β : Type} (g : State → β) (h1 : ∀ (s : State) n d, g { s with nv := n, dict := d } = g s)
    (h2 : ∀ (s : State) o v p, g (s.set o v p) = g s) (h3 : ∀ (s : State) h, g (s.abortCount h) = g s) (s : State) : g s.abortW = g s := by
  unfold State.abortW
  split
  · rfl
  · dsimp only
    rw [h3, foldl_keeps g _ (fun u b => by split <;> simp [h2])]
    exact h1 _ _ _

@[simp] theorem State.abortW_aside (s : State) : s.abortW.aside = s.aside := State.abortW_keeps _ (fun _ _ _ => rfl) (by simp) (by simp) s
@[simp] theorem State.abortW_collSlots (s : State) : s.abortW.collSlots = s.collSlots := State.abortW_keeps _ (fun _ _ _ => rfl) (by simp) (by simp) s
@[simp] theorem State.abortW_sys (s : State) : s.abortW.sys = s.sys := State.abortW_keeps (fun s => s.sys) (fun _ _ _ => rfl) (by simp) (by simp) s
@[simp] theorem State.abortW_hlm (s : State) : s.abortW.hlm = s.hlm := State.abortW_keeps (fun s => s.hlm) (fun _ _ _ => rfl) (by simp) (by simp) s
theorem State.abortW_conds (s : State) {x : FaultCode × Nat} (hx : x ∈ s.coll.conds) : x ∈ s.abortW.coll.conds := by
  unfold State.abortW
  split
  · exact hx
  · dsimp only
    refine State.abortCount_conds _ _ ?_
    exact foldl_keeps_prop (fun u => x ∈ u.coll.conds) _ (fun u b hu => by split <;> simpa using hu) _ _ hx

@[simp] theorem State.abortBy_aside (s : State) (d : DevState) : (s.abortBy d).aside = s.aside := by
  unfold State.abortBy; split <;> (try split) <;> simp
@[simp] theorem State.abortBy_collSlots (s : State) (d : DevState) : (s.abortBy d).collSlots = s.collSlots := by
  unfold State.abortBy; split <;> (try split) <;> simp
@[simp] theorem State.abortBy_sys (s : State) (d : DevState) : (s.abortBy d).sys = s.sys := by
  unfold State.abortBy; split <;> (try split) <;> simp
@[simp] theorem State.abortBy_hlm (s : State) (d : DevState) : (s.abortBy d).hlm = s.hlm := by
  unfold State.abortBy; split <;> (try split) <;> simp
theorem State.abortBy_conds (s : State) (d : DevState) {x : FaultCode × Nat} (hx : x ∈ s.coll.conds) : x ∈ (s.abortBy d).coll.conds := by
  unfold State.abortBy; split
  · split
    · exact State.abortW_conds _ hx
    · exact hx
  · exact hx

/-- A change of the device state keeps what its record, the end of a transfer, a draw and an object write keep. -/
theorem State.toDev_keeps {β : Type} (g : State → β) (h1 : ∀ (s : State) y a b c d, g ({ s with sys := y }.record a b c d) = g s)
    (h2 : ∀ (s : State) d, g (s.abortBy d) = g s) (h3 : ∀ (s : State) o v p, g (s.draw.set o v p) = g s) (s : State) (d : DevState) :
    g (s.toDev d) = g s := by
  unfold State.toDev
  split
  · rfl
  · dsimp only
    split
    · rw [h3, h2, h1]
    · rw [h2, h1]

@[simp] theorem State.toDev_aside (s : State) (d : DevState) : (s.toDev d).aside = s.aside :=
  State.toDev_keeps _ (fun _ _ _ _ _ _ => by rw [State.record_aside]; rfl) (by simp) (by simp) s d
@[simp] theorem State.toDev_collSlots (s : State) (d : DevState) : (s.toDev d).collSlots = s.collSlots :=
  State.toDev_keeps _ (fun _ _ _ _ _ _ => by rw [State.record_collSlots]; rfl) (by simp) (by simp) s d
@[simp] theorem State.toDev_hlm (s : State) (d : DevState) : (s.toDev d).hlm = s.hlm :=
  State.toDev_keeps (fun s => s.hlm) (fun _ _ _ _ _ _ => by simp) (by simp) (by simp) s d
theorem State.toDev_conds (s : State) (d : DevState) {x : FaultCode × Nat} (hx : x ∈ s.coll.conds) : x ∈ (s.toDev d).coll.conds := by
  unfold State.toDev
  split
  · exact hx
  · dsimp only
    split
    · simp only [State.set_coll, State.draw_coll]
      exact State.abortBy_conds _ _ (by simpa using hx)
    · exact State.abortBy_conds _ _ (by simpa using hx)

/-- The state asked for is reached. -/
theorem State.toDev_dev (s : State) (d : DevState) : (s.toDev d).sys.dev = d := by
  unfold State.toDev
  split
  · assumption
  · dsimp only
    split <;> simp

@[simp] theorem State.blockCharger_aside (s : State) : s.blockCharger.aside = s.aside := by
  unfold State.blockCharger; split
  · rw [State.setQ_aside]; rfl
  · rfl
@[simp] theorem State.blockCharger_coll (s : State) : s.blockCharger.coll = s.coll := by unfold State.blockCharger; split <;> simp
@[simp] theorem State.blockCharger_hlm (s : State) : s.blockCharger.hlm = s.hlm := by unfold State.blockCharger; split <;> simp
@[simp] theorem State.blockCharger_sys (s : State) : s.blockCharger.sys = s.sys := by unfold State.blockCharger; split <;> simp

/-- A discharge that goes on within a safe state: only the discharge and DISCH_STATE change. -/
theorem State.dischOnClamp_eq (s : State) (left : Bool) :
    s.dischOnClamp left = { s with disch := (s.dischOnClamp left).disch, vals := (s.dischOnClamp left).vals } := by
  unfold State.dischOnClamp; dsimp only; split <;> rfl
@[simp] theorem State.dischOnClamp_coll (s : State) (b : Bool) : (s.dischOnClamp b).coll = s.coll := by rw [State.dischOnClamp_eq]
@[simp] theorem State.dischOnClamp_hlm (s : State) (b : Bool) : (s.dischOnClamp b).hlm = s.hlm := by rw [State.dischOnClamp_eq]
@[simp] theorem State.dischOnClamp_aside (s : State) (b : Bool) : (s.dischOnClamp b).aside = s.aside := by rw [State.dischOnClamp_eq]; rfl

/-- Entry into SAFE_HOLD or FAULT_LATCHED: the state is reached, the faults held and the lands, SRAM and networks are as before. -/
theorem State.enterSafe_spec (s : State) (d : DevState) (hd : d = .safeHold ∨ d = .faultLatched) :
    (s.enterSafe d).sys.dev = d ∧ (s.enterSafe d).collSlots = s.collSlots ∧ (s.enterSafe d).hlm = s.hlm ∧ (s.enterSafe d).aside = s.aside ∧
    ∀ x, x ∈ s.coll.conds → x ∈ (s.enterSafe d).coll.conds := by
  have hdb : ∀ u : State, u.sys.dev = d → u.dischBegin.sys.dev = d ∧ u.dischBegin.collSlots = u.collSlots ∧ u.dischBegin.hlm = u.hlm ∧
      u.dischBegin.aside = u.aside ∧ u.dischBegin.coll = u.coll := by
    intro u hu
    unfold State.dischBegin
    split
    · exact ⟨hu, rfl, rfl, rfl, rfl⟩
    · dsimp only
      rw [if_pos (by rw [hu]; exact hd)]
      exact ⟨hu, rfl, rfl, rfl, rfl⟩
  unfold State.enterSafe
  dsimp only
  generalize hb : (if s.sys.dev == DevState.safeHold || s.sys.dev == DevState.faultLatched then s.sys.back else
    match s.sys.dev with | .standby | .service => DevState.standby | .ready => .ready | .run => .run | _ => s.sys.back) = back
  have h0 : ∀ u : State, u.coll = s.coll → u.hlm = s.hlm → u.aside = s.aside → 
      (u.blockCharger.toDev d).sys.dev = d ∧ (u.blockCharger.toDev d).collSlots = s.collSlots ∧ (u.blockCharger.toDev d).hlm = s.hlm ∧
        (u.blockCharger.toDev d).aside = s.aside ∧ ∀ x, x ∈ s.coll.conds → x ∈ (u.blockCharger.toDev d).coll.conds := by
    intro u hc hh ha
    refine ⟨State.toDev_dev _ _, ?_, by simp [hh], by simp [ha], ?_⟩
    · rw [State.toDev_collSlots]; simp [State.collSlots, hc]
    · intro x hx; exact State.toDev_conds _ _ (by simpa [hc] using hx)
  have fin : ∀ w : State, (w.sys.dev = d ∧ w.collSlots = s.collSlots ∧ w.hlm = s.hlm ∧ w.aside = s.aside ∧ ∀ x, x ∈ s.coll.conds → x ∈ w.coll.conds) →
      ∀ v : State, v = (if w.disch.wanted = true then State.dischBegin { w with disch := { w.disch with wanted := false } } else w) →
      v.sys.dev = d ∧ v.collSlots = s.collSlots ∧ v.hlm = s.hlm ∧ v.aside = s.aside ∧ ∀ x, x ∈ s.coll.conds → x ∈ v.coll.conds := by
    intro w hw v hv
    subst hv
    split
    · obtain ⟨a, b, c, e, f⟩ := hdb { w with disch := { w.disch with wanted := false } } hw.1
      exact ⟨a, b.trans hw.2.1, c.trans hw.2.2.1, e.trans hw.2.2.2.1, fun x hx => by rw [f]; exact hw.2.2.2.2 x hx⟩
    · exact hw
  refine fin _ ?_ _ rfl
  split
  · split <;> refine h0 _ ?_ ?_ ?_ <;> first | rfl | (simp; done) | (rw [State.dischOnClamp_aside]; rfl)
  · split <;> refine h0 _ ?_ ?_ ?_ <;> first | rfl | (simp; done) | (rw [State.dischOnClamp_aside]; rfl)

/-! ### Posting -/

@[simp] theorem State.bump_aside (s : State) (o : Obj) (p : Nat) : (s.bump o p).aside = s.aside := rfl
@[simp] theorem State.bump_collSlots (s : State) (o : Obj) (p : Nat) : (s.bump o p).collSlots = s.collSlots := rfl

theorem State.any_of_active {s : State} {x : Slot} (h : s.coll.active = some x) : s.coll.any = true := by
  simp [Coll.any, Coll.held, h]

/-- A first fault of class C3 or C4, from the state in which the slot has just been filled. -/
theorem State.settle_first {s : State} {f : FaultCode} {cls d : Nat} {dev : DevState} (ha : s.coll.active = some ⟨f, cls, d⟩) (hp : s.coll.pend = none)
    (hm : (f, d) ∈ s.coll.conds) (hc : s.hlm.catchPermit = false)
    (hd : s.settleDev = (s.enterSafe dev).gauntlet) (hs : dev = .safeHold ∨ dev = .faultLatched) :
    FailedSafe s.settleDev f cls d dev ∧ s.settleDev.aside = s.aside := by
  obtain ⟨h1, h2, h3, h4, h5⟩ := State.enterSafe_spec s dev hs
  simp only [State.collSlots, Prod.mk.injEq] at h2
  have hg := State.gauntlet_safe (s.enterSafe dev) (State.any_of_active (h2.1.trans ha)) (by rw [h3]; exact hc)
  rw [hd]
  refine ⟨⟨?_, ?_, ?_, hg.1, hg.2, ?_⟩, ?_⟩
  · simpa using h2.1.trans ha
  · simpa using h2.2.1.trans hp
  · simpa using h5 _ hm
  · simpa using h1
  · simpa using h4

/-- What every posting of a first fault goes through before its record. -/
theorem State.raise_first {s : State} {f : FaultCode} {cls d : Nat} {dev : DevState} (h : firstFault s f) (hn : f ≠ .islPreloadStale)
    (hs : dev = .safeHold ∨ dev = .faultLatched)
    (hd : ∀ u : State, u.coll.active = some ⟨f, cls, d⟩ → u.coll.pend = none → u.coll.overflow = false → u.sys.dev.running = true →
      u.settleDev = (u.enterSafe dev).gauntlet) :
    FailedSafe (s.raise cls f d) f cls d dev ∧ faultFrame s (s.raise cls f d) := by
  obtain ⟨⟨ha, hp, ho⟩, hr, hdev⟩ := h
  have hh : s.coll.holds f = false := by simp [Coll.holds, Coll.held, ha, hp, ho]
  unfold State.raise
  dsimp only
  rw [if_neg (by rw [hh]; decide)]
  have hesc : (cls == 3 && decide (3 ≤ s.recentRaises f)) = false := by
    have : ¬ 3 ≤ s.recentRaises f := by omega
    simp [this]
  simp only [hesc, Bool.false_eq_true, if_false, Coll.place, ha, hp, Bool.or_false]
  generalize hu : ({ s with coll := _, hlm := { s.hlm with catchPermit := false } } : State) = u
  have e1 : u.coll.active = some ⟨f, cls, d⟩ := by rw [← hu]
  have e2 : u.coll.pend = none := by rw [← hu]
  have e3 : u.coll.overflow = false := by rw [← hu]; exact ho
  have e4 : (f, d) ∈ u.coll.conds := by
    rw [← hu]; dsimp only; split
    · assumption
    · simp
  have e5 : u.hlm.catchPermit = false := by rw [← hu]
  have e6 : u.sys = s.sys := by rw [← hu]
  have e7 : u.aside = s.aside := by rw [← hu]; rfl
  have hw := State.writePreload_collSlots u.hlmEval
  simp only [State.collSlots, Prod.mk.injEq, State.hlmEval_coll] at hw
  have hcond : (f, d) ∈ (u.hlmEval.writePreload).tokenStop.coll.conds := by
    simp only [State.tokenStop_coll]
    exact State.writePreload_conds _ hn (by simpa using e4)
  have hrun : (u.hlmEval.writePreload).tokenStop.sys.dev.running = true := by
    simp only [State.tokenStop_dev, State.writePreload_sys, State.hlmEval_sys, e6]; exact hdev
  have hact : (u.hlmEval.writePreload).tokenStop.coll.active = some ⟨f, cls, d⟩ := by simp only [State.tokenStop_coll]; exact hw.1.trans e1
  have hpen : (u.hlmEval.writePreload).tokenStop.coll.pend = none := by simp only [State.tokenStop_coll]; exact hw.2.1.trans e2
  have hovf : (u.hlmEval.writePreload).tokenStop.coll.overflow = false := by simp only [State.tokenStop_coll]; exact hw.2.2.trans e3
  have hcat : (u.hlmEval.writePreload).tokenStop.hlm.catchPermit = false := by
    simp only [State.tokenStop_hlm, State.writePreload_catch, State.hlmEval_catch, e5]
  obtain ⟨hF, hA⟩ := State.settle_first hact hpen hcond hcat (hd _ hact hpen hovf hrun) hs
  have key : ∀ v : State, FailedSafe v f cls d dev → ∀ a b c e, FailedSafe (v.record a b c e) f cls d dev := by
    intro v hv a b c e; simpa [FailedSafe] using hv
  refine ⟨?_, (faultFrame_iff _ _).mpr ?_⟩
  · exact key _ hF _ _ _ _
  · simp [hA, e7]

/-- A first C3 fault leads to SAFE_HOLD. -/
theorem State.raise_first3 {s : State} {f : FaultCode} {d : Nat} (h : firstFault s f) (ho : outlasts f = false) (hn : f ≠ .islPreloadStale) :
    HeldC3 s (s.raise 3 f d) f d := by
  refine State.raise_first h hn (.inl rfl) ?_
  intro u ha hp hv hr
  have h1 : u.hasLatch = false := by simp [State.hasLatch, Coll.held, ha, hp, hv, ho]
  have h2 : u.hasC3 = true := by simp [State.hasC3, Coll.held, ha, hp]
  simp [State.settleDev, hr, h1, h2]

/-- A first C4 fault that no rule keeps in STANDBY leads to FAULT_LATCHED. -/
theorem State.raise_first4 {s : State} {f : FaultCode} {d : Nat} (h : firstFault s f) (hq : f ≠ .islVerifyFail ∧ f ≠ .sramFail ∧ f ≠ .stFailHold)
    (hn : f ≠ .islPreloadStale) : HeldC4 s (s.raise 4 f d) f d := by
  refine State.raise_first h hn (.inr rfl) ?_
  intro u ha hp hv hr
  have h1 : u.hasLatch = true := by simp [State.hasLatch, Coll.held, ha, hp, hv, State.quietLatch, hq]
  simp [State.settleDev, hr, h1]

end Sys2Proof.Machine
end

