-- ==== Sys2Proof/Laws/Resets.lean ====
section
/-! SUPPORT. A reset of the control die, and what bringing the islands up to date leaves of each. -/

namespace Sys2Proof.Machine
open Sys2Proof.Safety

/-! ### Bits -/

theorem bit_setBit_same (v : Int) (i : Nat) (b : Bool) : bit (setBit v i b) i = b := by
  unfold bit setBit
  generalize v.toNat = n
  have hp : 0 < 2 ^ i := Nat.two_pow_pos i
  have hq : n >>> i = n / 2 ^ i := Nat.shiftRight_eq_div_pow n i
  have hn := Nat.div_add_mod n (2 ^ i)
  have hr : n % 2 ^ i < 2 ^ i := Nat.mod_lt _ hp
  have hk : n / 2 ^ i % 2 ≤ n / 2 ^ i := Nat.mod_le _ _
  have hc : n - (n / 2 ^ i % 2) * 2 ^ i = 2 ^ i * (n / 2 ^ i - n / 2 ^ i % 2) + n % 2 ^ i := by
    rw [Nat.mul_sub, Nat.mul_comm (n / 2 ^ i % 2)]
    have : 2 ^ i * (n / 2 ^ i % 2) ≤ 2 ^ i * (n / 2 ^ i) := Nat.mul_le_mul_left _ hk
    omega
  have h0 : (n / 2 ^ i - n / 2 ^ i % 2) % 2 = 0 := by omega
  dsimp only
  rw [hq]
  cases b
  · simp only [Bool.false_eq_true, if_false, Int.toNat_natCast, Nat.shiftRight_eq_div_pow, hc, Nat.mul_add_div hp, Nat.div_eq_of_lt hr, Nat.add_zero, h0]
    rfl
  · have hz : ((n - (n / 2 ^ i % 2) * 2 ^ i : Nat) : Int) + 2 ^ i = ((2 ^ i * (n / 2 ^ i - n / 2 ^ i % 2 + 1) + n % 2 ^ i : Nat) : Int) := by
      rw [hc, Nat.mul_add]; push_cast; omega
    simp only [if_true, hz, Int.toNat_natCast, Nat.shiftRight_eq_div_pow, Nat.mul_add_div hp, Nat.div_eq_of_lt hr, Nat.add_zero]
    have : (n / 2 ^ i - n / 2 ^ i % 2 + 1) % 2 = 1 := by omega
    rw [this]; rfl

/-! ### Bringing the islands up to date -/

/-- A field of an island that neither its permit nor settling touches. -/
theorem State.refreshIsl_keeps {β : Type} (g : Island → β) (h1 : ∀ a b i, g (Island.setPermit a b i) = g i)
    (h2 : ∀ l w d i, g (Island.settle l w d i) = g i) (s : State) (n : IslIx) : g (s.refreshIsl.island n) = g (s.island n) := by
  unfold State.refreshIsl State.island
  simp only [List.getD_eq_getElem?_getD, List.getElem?_mapIdx]
  cases s.isl[n.val]? with
  | none => rfl
  | some i => simp [h1, h2]

theorem Island.settle_supplyOn (l : Levels) (w : Bool) (d : Nat → Bool) (i : Island) : (i.settle l w d).supplyOn = i.supplyOn := by
  unfold Island.settle
  split
  · rfl
  · split
    · rfl
    · dsimp only
      split
      · split
        · rfl
        · split
          · rfl
          · unfold Island.assertClaim; split <;> rfl
        · rfl
      · rfl

@[simp] theorem State.refreshIsl_supplyOn (s : State) (n : IslIx) : (s.refreshIsl.island n).supplyOn = (s.island n).supplyOn :=
  State.refreshIsl_keeps (fun i => i.supplyOn) (fun _ _ _ => rfl) Island.settle_supplyOn s n

/-! ### Resets -/

/-- Object values that a filter on keys keeps. -/
theorem Store.find_filter (st : Store) (p : Nat → Bool) (k : Nat) (h : p k = true) : Store.find? (st.filter fun e => p e.1) k = st.find? k := by
  induction st with
  | nil => rfl
  | cons e t ih =>
    obtain ⟨a, x⟩ := e
    by_cases hk : k = a
    · subst hk; simp [List.filter, h, Store.find?]
    · have h1 : (k == a) = false := by simpa using hk
      cases hp : p a
      · simpa [List.filter, hp, Store.find?, List.lookup, h1] using ih
      · simpa [List.filter, hp, Store.find?, List.lookup, h1] using ih

theorem Store.find_filter_out (st : Store) (p : Nat → Bool) (k : Nat) (h : p k = false) : Store.find? (st.filter fun e => p e.1) k = none := by
  induction st with
  | nil => rfl
  | cons e t ih =>
    obtain ⟨a, x⟩ := e
    cases hp : p a
    · simpa [List.filter, hp] using ih
    · have hk : k ≠ a := by intro e; subst e; rw [h] at hp; cases hp
      have h1 : (k == a) = false := by simpa using hk
      simpa [List.filter, hp, Store.find?, List.lookup, h1] using ih

/-- The control die enters BOOT: what it sets and what it leaves. -/
theorem State.enterBoot_eq (s : State) :
    s.enterBoot = { s with vals := s.enterBoot.vals, log := s.enterBoot.log, coll := s.enterBoot.coll,
                           fl := { s.fl with trace := { s.fl.trace with trig := s.enterBoot.fl.trace.trig } },
                           sup := { s.sup with attempting := true, attemptFailed := none, startAt := s.now } } := by
  unfold State.enterBoot
  dsimp only
  split
  · rw [show ∀ (u : State) f d, u.note f d = _ from fun u f d => State.note_frame u f d, State.record_eq]; rfl
  · rw [State.record_eq]; rfl

theorem State.enterBoot_get (s : State) (o : Obj) (p : Nat) (h1 : o.key p ≠ O.THERM_MODE_ACTIVE.key 0) (h2 : o.key p ≠ O.START_COUNT.key 0)
    (h3 : o.key p ≠ O.SPAN_ROLE.key 0) (h4 : o.key p ≠ O.LOG_SUPPRESSED.key 0) : s.enterBoot.get o p = s.get o p := by
  unfold State.enterBoot
  dsimp only
  have key : ∀ (v : Int) (u : State), u.vals = ((s.set O.THERM_MODE_ACTIVE (s.durable O.THERM_MODE)).bump O.START_COUNT).vals →
      (u.set O.SPAN_ROLE v).get o p = s.get o p := by
    intro v u hu
    rw [State.get_set_other _ _ _ _ _ _ h3, State.get_congr hu, State.get_bump_other _ _ _ _ _ h2, State.get_set_other _ _ _ _ _ _ h1]
  split
  · rw [State.note_get _ _ _ _ _ h4]; exact key _ _ (by simp)
  · exact key _ _ (by simp)

@[simp] theorem State.abortW_isl (s : State) : s.abortW.isl = s.isl :=
  State.abortW_keeps (fun s => s.isl) (fun _ _ _ => rfl) (fun _ _ _ _ => rfl) (fun s h => by
    unfold State.abortCount; rw [show ∀ (u : State) f d, u.note f d = _ from fun u f d => State.note_frame u f d]; rfl) s

@[simp] theorem State.abortR_isl (s : State) : s.abortR.isl = s.isl := by
  unfold State.abortR; split
  · rfl
  · unfold State.abortCount; rw [show ∀ (u : State) f d, u.note f d = _ from fun u f d => State.note_frame u f d]; rfl
@[simp] theorem State.abortR_aside (s : State) : s.abortR.aside = s.aside := by unfold State.abortR; split <;> simp <;> rfl

@[simp] theorem State.abortCount_nv (s : State) (h : Byte) : (s.abortCount h).nv = s.nv := by
  unfold State.abortCount; rw [show ∀ (u : State) f d, u.note f d = _ from fun u f d => State.note_frame u f d]; rfl
@[simp] theorem State.abortR_nv (s : State) : s.abortR.nv = s.nv := by unfold State.abortR; split <;> simp
theorem State.abortW_nv (s : State) : s.abortW.nv.persist = s.nv.persist ∧ s.abortW.nv.sec.otp = s.nv.sec.otp := by
  unfold State.abortW; split
  · exact ⟨rfl, rfl⟩
  · dsimp only
    have h : ∀ u : State, ((List.range 2).foldl (fun (s : State) b => if (s.nv.banks.getD b ⟨0, none, 0, []⟩).state = 4 then s.set O.BANK_STATE 4 b else s) u).nv = u.nv :=
      fun u => foldl_keeps (fun s => s.nv) _ (fun v b => by split <;> rfl) _ u
    rw [State.abortCount_nv, h]
    exact ⟨rfl, rfl⟩

/-- What the clearing of the control die leaves, before BOOT is entered. -/
theorem State.dieCleared_spec (s : State) (ext : Bool) :
    let u := (s.dieCleared ext).refreshIsl
    u.sys.dev = .boot ∧ u.get O.RESET_CAUSE = s.get O.RESET_CAUSE ∧ (∀ n : IslIx, (u.island n).supplyOn = (s.island n).supplyOn) ∧
    u.hlm.permit = false ∧ u.sys.tokenOn = false ∧ u.staged = [] ∧ u.sec = State.resetSecurity ∧ u.dict = State.resetDict ∧ u.net = State.resetNet ∧
    u.mem = State.resetMemory ∧ u.pos = State.resetPosition ∧ u.chg = State.resetCharger ∧ u.pins.vddioHiZ = true ∧ u.nv = s.nv.afterReset ∧
    u.pending = s.pending ∧ u.now = s.now := by
  refine ⟨rfl, ?_, ?_, rfl, rfl, rfl, rfl, rfl, rfl, rfl, rfl, rfl, rfl, rfl, rfl, rfl⟩
  · unfold State.get
    congr 1
    exact Store.find_filter s.vals keptKey (O.RESET_CAUSE.key 0) (by decide)
  · intro n
    rw [State.refreshIsl_supplyOn]
    rfl

/-- A reset of the control die. -/
theorem State.dieReset_spec (s : State) (cause : Nat) (ext : Bool) : DieReset s (s.dieReset cause ext) cause := by
  have ha : (s.abortW.abortR.pending = s.pending) ∧ s.abortW.abortR.now = s.now := by
    have := State.abortR_aside s.abortW
    rw [State.abortW_aside] at this
    simp only [State.aside, Prod.mk.injEq] at this
    exact ⟨this.1, this.2.1⟩
  have hn := State.abortW_nv s
  have hm : s.abortW.abortR.nv = s.abortW.nv := State.abortR_nv _
  have hl : s.abortW.abortR.isl = s.isl := by simp
  obtain ⟨d1, d2, d3, d4, d5, d6, d7, d8, d9, d10, d11, d12, d13, d14, d15, d16⟩ :=
    State.dieCleared_spec (s.abortW.abortR.set O.RESET_CAUSE (setBit (s.abortW.abortR.get O.RESET_CAUSE) cause true)) ext
  unfold State.dieReset
  dsimp only
  generalize ((s.abortW.abortR.set O.RESET_CAUSE (setBit (s.abortW.abortR.get O.RESET_CAUSE) cause true)).dieCleared ext).refreshIsl = u at *
  have e2 : bit (u.get O.RESET_CAUSE) cause = true := by rw [d2, State.get_set_same, bit_setBit_same]
  have e3 : ∀ n : IslIx, (u.island n).supplyOn = (s.island n).supplyOn := by
    intro n; rw [d3 n]; unfold State.island; rw [State.set_isl, hl]
  have e14 : u.nv.persist = s.nv.persist ∧ u.nv.sec.otp = s.nv.sec.otp := by
    rw [d14, State.set_nv, hm]; exact hn
  have e15 : u.pending = s.pending := d15.trans ha.1
  have e16 : u.now = s.now := d16.trans ha.2
  split
  · have hb : bit (u.enterBoot.get O.RESET_CAUSE) cause = true := by
      rw [State.enterBoot_get _ _ _ (by decide) (by decide) (by decide) (by decide)]; exact e2
    rw [State.enterBoot_eq] at hb ⊢
    exact ⟨d1, hb, e3, d4, d5, d6, d7, d8, d9, d10, d11, d12, d13, e14.1, e14.2, e15, e16⟩
  · exact ⟨d1, e2, e3, d4, d5, d6, d7, d8, d9, d10, d11, d12, d13, e14.1, e14.2, e15, e16⟩

/-! ### A fault that resets the control die -/

@[simp] theorem State.note_isl (s : State) (f : FaultCode) (d : Nat) : (s.note f d).isl = s.isl := by
  rw [show s.note f d = _ from State.note_frame s f d]
@[simp] theorem State.unnote_isl (s : State) (f : FaultCode) (d : Nat) : (s.unnote f d).isl = s.isl := by
  rw [show s.unnote f d = _ from State.unnote_frame s f d]
@[simp] theorem State.note_nv (s : State) (f : FaultCode) (d : Nat) : (s.note f d).nv = s.nv := by
  rw [show s.note f d = _ from State.note_frame s f d]
@[simp] theorem State.unnote_nv (s : State) (f : FaultCode) (d : Nat) : (s.unnote f d).nv = s.nv := by
  rw [show s.unnote f d = _ from State.unnote_frame s f d]
@[simp] theorem State.record_nv (s : State) (a b c d : Nat) : (s.record a b c d).nv = s.nv := by rw [State.record_eq]
@[simp] theorem State.hlmEval_isl (s : State) : s.hlmEval.isl = s.isl := by rw [State.hlmEval_eq]
@[simp] theorem State.hlmEval_nv (s : State) : s.hlmEval.nv = s.nv := by rw [State.hlmEval_eq]
@[simp] theorem State.tokenStop_isl (s : State) : s.tokenStop.isl = s.isl := by unfold State.tokenStop; split <;> rfl
@[simp] theorem State.tokenStop_nv (s : State) : s.tokenStop.nv = s.nv := by unfold State.tokenStop; split <;> rfl
@[simp] theorem State.writePreload_nv (s : State) : s.writePreload.nv = s.nv := State.writePreload_keeps (fun s => s.nv) (by simp) (fun _ _ _ => rfl) s
@[simp] theorem State.gauntlet_nv (s : State) : s.gauntlet.nv = s.nv := by simp [State.gauntlet, State.refreshIsl]

@[simp] theorem State.writePreload_supplyOn (s : State) (n : IslIx) : (s.writePreload.island n).supplyOn = (s.island n).supplyOn := by
  have hf : ∀ u : State, ((List.range 12).foldl (fun s n => s.unnote .islPreloadStale n) u).isl = u.isl :=
    fun u => foldl_keeps (fun s => s.isl) _ (by simp) _ u
  unfold State.writePreload
  split
  · rfl
  · dsimp only
    unfold State.island
    rw [hf]
    simp only [List.getD_eq_getElem?_getD, List.getElem?_map]
    cases s.isl[n.val]? with
    | none => rfl
    | some i => simp only [Option.map_some, Option.getD_some]; split <;> rfl

@[simp] theorem State.gauntlet_supplyOn (s : State) (n : IslIx) : (s.gauntlet.island n).supplyOn = (s.island n).supplyOn := by
  unfold State.gauntlet; dsimp only
  rw [show ∀ u : State, u.tokenStop.island n = u.island n from fun u => by simp [State.island]]
  rw [State.refreshIsl_supplyOn]; rfl

/-- A fault of class C5 that does not outlast the reset, found with nothing held, keeps the islands' supplies and the NV content. -/
theorem State.raise_calm5 {s : State} {f : FaultCode} {d : Nat} (h : calm s) (ho : outlasts f = false) :
    (∀ n : IslIx, ((s.raise 5 f d).island n).supplyOn = (s.island n).supplyOn) ∧ (s.raise 5 f d).nv = s.nv ∧ (s.raise 5 f d).aside = s.aside := by
  obtain ⟨⟨ha, hp, hv⟩, hsh, hfl⟩ := h
  have hh : s.coll.holds f = false := by simp [Coll.holds, Coll.held, ha, hp, hv]
  unfold State.raise
  dsimp only
  rw [if_neg (by rw [hh]; decide)]
  simp only [show (5 == 3) = false from rfl, Bool.false_and, Bool.false_eq_true, if_false, Coll.place, ha, hp, Bool.or_false]
  generalize hu : ({ s with coll := _, hlm := { s.hlm with catchPermit := false } } : State) = u
  have e1 : u.coll.active = some ⟨f, 5, d⟩ := by rw [← hu]
  have e2 : u.coll.pend = none := by rw [← hu]
  have e3 : u.coll.overflow = false := by rw [← hu]; exact hv
  have e4 : u.isl = s.isl := by rw [← hu]
  have e5 : u.nv = s.nv := by rw [← hu]
  have e6 : u.sys = s.sys := by rw [← hu]
  have e7 : u.aside = s.aside := by rw [← hu]; rfl
  have hw := State.writePreload_collSlots u.hlmEval
  simp only [State.collSlots, Prod.mk.injEq, State.hlmEval_coll, e1, e2, e3] at hw
  have hs : (u.hlmEval.writePreload).tokenStop.settleDev = (u.hlmEval.writePreload).tokenStop.gauntlet := by
    have g1 : (u.hlmEval.writePreload).tokenStop.hasLatch = false := by
      simp [State.hasLatch, Coll.held, hw, ho]
    have g2 : (u.hlmEval.writePreload).tokenStop.hasC3 = false := by
      simp [State.hasC3, Coll.held, hw]
    have g3 : (u.hlmEval.writePreload).tokenStop.sys.dev = s.sys.dev := by simp [e6]
    unfold State.settleDev
    rw [g1, g2, g3]
    simp [hsh, hfl]
  have hi : ∀ (v : State) (n : IslIx) a b c e, ((v.record a b c e).island n) = v.island n := fun v n a b c e => by simp [State.island]
  refine ⟨?_, ?_, ?_⟩
  · intro n
    rw [hi, hs, State.gauntlet_supplyOn, show (State.tokenStop (State.writePreload (State.hlmEval u))).island n = (State.writePreload (State.hlmEval u)).island n from by simp [State.island],
      State.writePreload_supplyOn]
    simp [State.island, e4]
  · simp [hs, e5]
  · simp [hs, e7]

/-- A fault whose reaction is a reset of the control die, found with nothing held. -/
theorem State.resetFault_spec {s : State} {f : FaultCode} {d cause : Nat} (h : calm s) (ho : outlasts f = false) :
    DieReset s (s.resetFault f d cause) cause := by
  obtain ⟨h1, h2, h3⟩ := State.raise_calm5 (d := d) h ho
  simp only [State.aside, Prod.mk.injEq] at h3
  obtain ⟨d1, d2, d3, d4, d5, d6, d7, d8, d9, d10, d11, d12, d13, d14, d15, d16, d17⟩ := State.dieReset_spec (s.raise 5 f d) cause false
  unfold State.resetFault
  exact ⟨d1, d2, fun n => (d3 n).trans (h1 n), d4, d5, d6, d7, d8, d9, d10, d11, d12, d13, d14.trans (by rw [h2]), d15.trans (by rw [h2]),
    d16.trans h3.1, d17.trans h3.2.1⟩

end Sys2Proof.Machine
end

