-- ==== Sys2Proof/Laws/Leave.lean ====
section
/-! SUPPORT. A sole C3 fault that leaves: the collector is empty and SAFE_HOLD has ended. -/

namespace Sys2Proof.Machine
open Sys2Proof.Safety

/-- The slots, and whether a condition is listed. -/
def State.listed (x : FaultCode × Nat) (s : State) := (s.collSlots, decide (x ∈ s.coll.conds))

theorem State.listed_congr {s t : State} (x : FaultCode × Nat) (h : t.coll = s.coll) : t.listed x = s.listed x := by
  simp [State.listed, State.collSlots, h]

theorem State.note_listed (s : State) {x : FaultCode × Nat} {f : FaultCode} {d : Nat} (h : f ≠ x.1) : (s.note f d).listed x = s.listed x := by
  have hc : (x ∈ (s.note f d).coll.conds) = (x ∈ s.coll.conds) := by
    have hne : x ≠ (f, d) := fun e => h (by rw [e])
    unfold State.note; dsimp only; split
    · rfl
    · split
      · simp [hne]
      · split <;> simp [hne]
  unfold State.listed
  rw [State.note_collSlots]
  simp only [hc]

section
variable (x : FaultCode × Nat)
@[simp] theorem State.set_listed (s : State) (o : Obj) (v : Int) (p : Nat) : (s.set o v p).listed x = s.listed x := rfl
@[simp] theorem State.setQ_listed (s : State) (o : Obj) (v : Rat) (p : Nat) : (s.setQ o v p).listed x = s.listed x := State.listed_congr x (by simp)
@[simp] theorem State.draw_listed (s : State) : s.draw.listed x = s.listed x := rfl
@[simp] theorem State.record_listed (s : State) (a b c d : Nat) : (s.record a b c d).listed x = s.listed x := State.listed_congr x (by simp)
@[simp] theorem State.gauntlet_listed (s : State) : s.gauntlet.listed x = s.listed x := State.listed_congr x (by simp)
@[simp] theorem State.blockCharger_listed (s : State) : s.blockCharger.listed x = s.listed x := State.listed_congr x (by simp)
@[simp] theorem State.islandsOff_listed (s : State) : s.islandsOff.listed x = s.listed x := rfl

variable {x} (hx : x.1.cls = 3)
include hx

theorem State.abortCount_listed (s : State) (h : Byte) : (s.abortCount h).listed x = s.listed x := by
  unfold State.abortCount
  rw [State.note_listed _ (fun e => by rw [← e] at hx; exact absurd hx (by decide))]; rfl

theorem State.abortW_listed (s : State) : s.abortW.listed x = s.listed x :=
  State.abortW_keeps _ (fun _ _ _ => rfl) (fun _ _ _ _ => rfl) (State.abortCount_listed hx) s

theorem State.abortBy_listed (s : State) (d : DevState) : (s.abortBy d).listed x = s.listed x := by
  unfold State.abortBy; split
  · split
    · exact State.abortW_listed hx s
    · rfl
  · rfl

theorem State.toDev_listed (s : State) (d : DevState) : (s.toDev d).listed x = s.listed x :=
  State.toDev_keeps _ (fun _ _ _ _ _ _ => by rw [State.record_listed]; rfl) (State.abortBy_listed hx) (fun _ _ _ _ => rfl) s d

theorem State.noteC2_listed (s : State) {f : FaultCode} {d : Nat} (hf : f.cls ≠ 3) : (s.note f d).listed x = s.listed x :=
  State.note_listed s (fun e => by rw [e] at hf; exact hf hx)

theorem State.ilineModes_listed (s : State) (i : Nat) : (s.ilineModes i).listed x = s.listed x := by
  unfold State.ilineModes
  dsimp only
  repeat' split
  all_goals simp [State.noteC2_listed hx _ (show FaultCode.snsIlineLost.cls ≠ 3 by decide)]

theorem State.ilineLoss_listed (s : State) (i : Nat) : (s.ilineLoss i).listed x = s.listed x := by
  unfold State.ilineLoss
  split
  · rfl
  · dsimp only
    split
    · split
      · rw [State.gauntlet_listed, State.toDev_listed hx, State.blockCharger_listed, State.noteC2_listed hx _ (by decide)]; rfl
      · rw [State.noteC2_listed hx _ (by decide)]; rfl
    · rw [State.ilineModes_listed hx]; rfl

theorem State.ilineOffsets_listed (s : State) : s.ilineOffsets.listed x = s.listed x := by
  unfold State.ilineOffsets
  refine foldl_keeps (State.listed x) _ (fun u i => ?_) _ s
  dsimp only
  split
  · rfl
  · split
    · rw [State.ilineLoss_listed hx]; rfl
    · rfl

theorem State.startReady_listed (s : State) : s.startReady.listed x = s.listed x := by
  have h1 : ∀ u : State, u.scopeCheck.listed x = u.listed x := by
    intro u; unfold State.scopeCheck; split
    · split
      · rfl
      · exact (State.noteC2_listed hx (f := .paramScope) u.rwDefaults (by decide)).trans rfl
    · rfl
  have h2 : ∀ u : State, u.holdMeter.listed x = u.listed x := by
    intro u; unfold State.holdMeter; split
    · exact foldl_keeps (State.listed x) _ (fun v i => by simp) _ u
    · rfl
  unfold State.startReady
  dsimp only
  refine Eq.trans (State.listed_congr x (s := (s.set O.CONFIG_ACTIVE (s.get O.CONFIG)).scopeCheck.holdMeter.ilineOffsets) rfl) ?_
  rw [State.ilineOffsets_listed hx, h2, h1, State.set_listed]

theorem State.backToStandby_listed (s : State) : s.backToStandby.listed x = s.listed x := by
  unfold State.backToStandby
  rw [State.toDev_listed hx]
  split <;> rfl

theorem State.readyOrStandby_listed (s : State) : s.readyOrStandby.listed x = s.listed x := by
  unfold State.readyOrStandby
  split
  · exact State.toDev_listed hx _ _
  · exact State.backToStandby_listed hx s

theorem State.resume_listed (s : State) : s.resume.listed x = s.listed x := by
  unfold State.resume
  repeat' split
  all_goals first | exact State.readyOrStandby_listed hx s | exact State.backToStandby_listed hx s | exact (State.toDev_listed hx _ _).trans rfl

theorem State.levelActs_listed (s : State) : s.levelActs.listed x = s.listed x := by
  have h : ∀ u : State, (if u.sys.dev ≠ .standby ∨ u.sup.readyPhase ≠ .idle ∨ u.sup.entering.isSome then u
    else if u.ctrlBit 4 then (if u.sec.serviceHandle.isSome then ((u.islandsOff).toDev .service).gauntlet else u)
    else if u.ctrlBit 0 ∧ u.readyAllowed then u.startReady else u).listed x = u.listed x := by
    intro u
    split
    · rfl
    · split
      · split
        · rw [State.gauntlet_listed, State.toDev_listed hx, State.islandsOff_listed]
        · rfl
      · split
        · exact State.startReady_listed hx u
        · rfl
  unfold State.levelActs
  dsimp only
  split
  · rw [h, State.gauntlet_listed, State.toDev_listed hx, State.islandsOff_listed]
  · exact h s
end

/-! ### The device state after SAFE_HOLD -/

@[simp] theorem State.ilineModes_dev (s : State) (i : Nat) : (s.ilineModes i).sys = s.sys := by
  unfold State.ilineModes; dsimp only
  repeat' split
  all_goals simp

theorem State.ilineLoss_dev (s : State) (i : Nat) (h : s.sys.dev ≠ .safeHold) : (s.ilineLoss i).sys.dev ≠ .safeHold := by
  unfold State.ilineLoss
  split
  · exact h
  · dsimp only
    split
    · split
      · rw [State.gauntlet_dev, State.toDev_dev]; decide
      · simpa using h
    · simpa using h

theorem State.startReady_dev (s : State) (h : s.sys.dev ≠ .safeHold) : s.startReady.sys.dev ≠ .safeHold := by
  have h1 : ∀ u : State, u.sys.dev ≠ .safeHold → u.ilineOffsets.sys.dev ≠ .safeHold := by
    intro u hu
    unfold State.ilineOffsets
    refine foldl_keeps_prop (fun v => v.sys.dev ≠ .safeHold) _ (fun v i hv => ?_) _ u hu
    dsimp only
    split
    · exact hv
    · split
      · exact State.ilineLoss_dev _ _ hv
      · exact hv
  have h2 : ∀ u : State, u.holdMeter.sys = u.sys := by
    intro u; unfold State.holdMeter; split
    · exact foldl_keeps (fun v => v.sys) _ (fun v i => by simp) _ u
    · rfl
  have h3 : ∀ u : State, u.scopeCheck.sys = u.sys := by
    intro u; unfold State.scopeCheck; split
    · split
      · rfl
      · exact (State.note_sys u.rwDefaults .paramScope 0).trans rfl
    · rfl
  unfold State.startReady
  dsimp only
  exact h1 _ (by rw [h2, h3]; exact h)

theorem State.backToStandby_dev (s : State) : s.backToStandby.sys.dev = .standby := State.toDev_dev _ _

theorem State.readyOrStandby_dev (s : State) : s.readyOrStandby.sys.dev ≠ .safeHold := by
  unfold State.readyOrStandby
  split
  · rw [State.toDev_dev]; decide
  · rw [State.backToStandby_dev]; decide

theorem State.resume_dev (s : State) : s.resume.sys.dev ≠ .safeHold := by
  unfold State.resume
  repeat' split
  all_goals first | exact State.readyOrStandby_dev s | (rw [State.backToStandby_dev]; decide) | (rw [State.toDev_dev]; decide)

theorem State.levelActs_dev (s : State) (h : s.sys.dev ≠ .safeHold) : s.levelActs.sys.dev ≠ .safeHold := by
  have h1 : ∀ u : State, u.sys.dev ≠ .safeHold → (if u.sys.dev ≠ .standby ∨ u.sup.readyPhase ≠ .idle ∨ u.sup.entering.isSome then u
    else if u.ctrlBit 4 then (if u.sec.serviceHandle.isSome then ((u.islandsOff).toDev .service).gauntlet else u)
    else if u.ctrlBit 0 ∧ u.readyAllowed then u.startReady else u).sys.dev ≠ .safeHold := by
    intro u hu
    split
    · exact hu
    · split
      · split
        · rw [State.gauntlet_dev, State.toDev_dev]; decide
        · exact hu
      · split
        · exact State.startReady_dev u hu
        · exact hu
  unfold State.levelActs
  dsimp only
  split
  · exact h1 _ (by rw [State.gauntlet_dev, State.toDev_dev]; decide)
  · exact h1 s h

/-- The device state settles with the collector empty. -/
theorem State.settleDev_empty {s : State} {x : FaultCode × Nat} (hx : x.1.cls = 3) (h : emptyColl s) (hd : s.disch.held = false) :
    s.settleDev.listed x = s.listed x ∧ s.settleDev.sys.dev ≠ .safeHold := by
  obtain ⟨ha, hp, ho⟩ := h
  have h1 : s.hasLatch = false := by simp [State.hasLatch, Coll.held, ha, hp, ho]
  have h2 : s.hasC3 = false := by simp [State.hasC3, Coll.held, ha, hp]
  unfold State.settleDev
  rw [h1, h2, hd]
  simp only [Bool.false_eq_true, if_false]
  split
  · rename_i hr
    refine ⟨State.gauntlet_listed _ _, ?_⟩
    rw [State.gauntlet_dev]; intro e; rw [e] at hr; exact absurd hr (by decide)
  · split
    · exact ⟨by rw [State.gauntlet_listed, State.levelActs_listed hx, State.resume_listed hx],
        by rw [State.gauntlet_dev]; exact State.levelActs_dev _ (State.resume_dev s)⟩
    · rename_i hn
      split
      · refine ⟨by rw [State.gauntlet_listed, State.levelActs_listed hx, State.readyOrStandby_listed hx], ?_⟩
        rw [State.gauntlet_dev]
        exact State.levelActs_dev _ (State.readyOrStandby_dev s)
      · exact ⟨State.gauntlet_listed _ _, by rw [State.gauntlet_dev]; exact hn⟩

/-- The one C3 fault held, with one condition, leaves. -/
theorem State.leave_sole {s : State} {f : FaultCode} {d : Nat} (h : soleC3 s f d) (hf : f.cls = 3) : FaultOver (s.leave f d) f d := by
  obtain ⟨ha, hp, ho, hc, hdis⟩ := h
  have hm : (f, d) ∈ s.coll.conds := by
    have : (f, d) ∈ s.coll.conds.filter (fun x => x.1 == f) := by rw [hc]; simp
    exact (List.mem_filter.mp this).1
  have herase : ∀ y ∈ s.coll.conds.erase (f, d), y.1 ≠ f := by
    intro y hy hyf
    have hperm := (List.perm_cons_erase hm).filter (fun x => x.1 == f)
    rw [hc] at hperm
    have hl := hperm.length_eq
    simp only [List.filter_cons, beq_self_eq_true, if_true, List.length_cons, List.length_nil] at hl
    have h0 : (s.coll.conds.erase (f, d)).filter (fun x => x.1 == f) = [] := List.length_eq_zero_iff.mp (by omega)
    have : y ∈ (s.coll.conds.erase (f, d)).filter (fun x => x.1 == f) := List.mem_filter.mpr ⟨hy, by simpa using hyf⟩
    rw [h0] at this; exact absurd this (by simp)
  have hany : (s.coll.conds.erase (f, d)).any (fun x => x.1 == f) = false := by
    rw [List.any_eq_false]; intro y hy; simpa using herase y hy
  have hnm : (f, d) ∉ s.coll.conds.erase (f, d) := fun hy => herase _ hy rfl
  unfold State.leave
  dsimp only
  rw [if_neg (by omega), if_pos hm, if_neg (by rw [hany]; decide), if_pos (by simp [Coll.held, ha, hp])]
  have fin : ∀ u : State, emptyColl u → u.disch.held = false → (f, d) ∉ u.coll.conds → FaultOver (u.settleDev.record 2 3 f.num d) f d := by
    intro u hu hdu hc
    obtain ⟨h1, h2⟩ := State.settleDev_empty (x := (f, d)) hf hu hdu
    simp only [State.listed, State.collSlots, Prod.mk.injEq, decide_eq_decide] at h1
    refine ⟨?_, ?_, ?_⟩
    · simp [emptyColl, h1.1.1, h1.1.2.1, h1.1.2.2, hu]
    · simpa using fun e => hc (h1.2.mp e)
    · simpa using h2
  have hclear : ∀ c : Coll, c.active = some ⟨f, 3, d⟩ → c.pend = none →
      (c.clear (fun x => x.code == f && x.cls == 3)) = { c with active := none, pend := none } := by
    intro c h1 h2; simp [Coll.clear, h1, h2, Option.filter]
  have hcl := hclear { s.coll with conds := s.coll.conds.erase (f, d) } ha hp
  rw [hcl]
  split
  · exact fin _ ⟨rfl, rfl, ho⟩ hdis hnm
  · exact fin _ ⟨rfl, rfl, ho⟩ hdis hnm

end Sys2Proof.Machine
end

