-- ==== Sys2Proof/Laws/Islands.lean ====
section
/-! SUPPORT. Reading an island after one is changed, and what settling leaves of it. -/

namespace Sys2Proof.Machine
open Sys2Proof.Safety

/-- An island that differs from the default one is listed. -/
theorem State.island_lt {s : State} {n : IslIx} (h : s.island n ≠ State.resetIsland) : n.val < s.isl.length := by
  by_cases hn : n.val < s.isl.length
  · exact hn
  · exact absurd (by simp [State.island, List.getD_eq_getElem?_getD, List.getElem?_eq_none (Nat.le_of_not_lt hn)]) h

theorem State.live_lt {s : State} {n : IslIx} (h : (s.island n).live = true) : n.val < s.isl.length :=
  State.island_lt fun e => by rw [e] at h; exact absurd h (by decide)

theorem State.island_upd {s : State} {n : IslIx} (h : n.val < s.isl.length) (f : Island → Island) : (s.updIsl n f).island n = f (s.island n) := by
  simp [State.island, State.updIsl, List.getD_eq_getElem?_getD, List.getElem?_eq_getElem h]

theorem State.island_upd_other (s : State) {n m : IslIx} (h : m ≠ n) (f : Island → Island) : (s.updIsl n f).island m = s.island m := by
  have : n.val ≠ m.val := fun e => h (Fin.ext e.symm)
  simp [State.island, State.updIsl, List.getD_eq_getElem?_getD, this]

@[simp] theorem State.upd_length (s : State) (n : IslIx) (f : Island → Island) : (s.updIsl n f).isl.length = s.isl.length := by simp [State.updIsl]

/-- A change of one island is a frame of that island. -/
theorem islFrame_upd (s : State) (n : IslIx) (f : Island → Island) : islFrame n s (s.updIsl n f) :=
  ⟨rfl, fun _ hm => State.island_upd_other s hm f⟩

theorem islFrame_trans {n : IslIx} {s t u : State} (h1 : islFrame n s t) (h2 : islFrame n t u) : islFrame n s u := by
  obtain ⟨a, b⟩ := h1
  obtain ⟨c, d⟩ := h2
  refine ⟨?_, fun m hm => (d m hm).trans (b m hm)⟩
  rw [c]; conv => lhs; rw [a]

theorem islFrame_onIsl (s : State) (n : IslIx) (f : Island → Island) : islFrame n s (s.onIsl n f) :=
  islFrame_trans (islFrame_upd s n f) (islFrame_upd _ n _)

/-- The island after a change that is settled. -/
theorem State.island_onIsl {s : State} {n : IslIx} (h : n.val < s.isl.length) (f : Island → Island) :
    (s.onIsl n f).island n = (f (s.island n)).settle ((s.updIsl n f).levels n) n.low (s.declared n) := by
  unfold State.onIsl State.settleIsl
  rw [State.island_upd (by simpa using h), State.island_upd h]
  rfl

/-- The rule of R38 leaves alone a change after which the island applies no safe state. -/
theorem State.siblingRule_skip {s : State} {n : IslIx} {was : Bool} (h : (s.island n).safeApplied = false) : s.siblingRule n was = s := by
  unfold State.siblingRule; rw [if_neg (by simp [h])]

/-- Settling an island on which the edge channel decides off. -/
theorem Island.settle_off {i : Island} (l : Levels) (w : Bool) (d : Nat → Bool) (hl : i.live = true) (hv : i.verified = true) (hr : i.row = 6)
    (hc : i.cmd = false) : i.settle l w d = ({ i with safeApplied := false } : Island).allOff l false := by
  unfold Island.settle
  rw [if_neg (by simp [hl]), if_neg (by simp [hv])]
  dsimp only
  rw [hr]
  have : ({ i with safeApplied := false } : Island).target w = false := by
    unfold Island.target
    rw [show ({ i with safeApplied := false } : Island).row = 6 from hr]
    exact hc
  rw [show ((6 == 3 || 6 == 4 || 6 == 5) = false) from rfl, if_neg (by rw [this]; decide)]
  rfl

/-- Settling an island on which the edge channel decides on and whose claim is neither idle nor granted. -/
theorem Island.settle_wait {i : Island} (l : Levels) (w : Bool) (d : Nat → Bool) (hl : i.live = true) (hv : i.verified = true) (hr : i.row = 6)
    (hc : i.cmd = true) (hi : i.claim ≠ .idle) (hg : i.claim ≠ .granted) : i.settle l w d = { i with safeApplied := false } := by
  unfold Island.settle
  rw [if_neg (by simp [hl]), if_neg (by simp [hv])]
  dsimp only
  rw [hr]
  have : ({ i with safeApplied := false } : Island).target w = true := by
    unfold Island.target
    rw [show ({ i with safeApplied := false } : Island).row = 6 from hr]
    exact hc
  rw [show ((6 == 3 || 6 == 4 || 6 == 5) = false) from rfl, if_pos this]
  cases h : i.claim <;> first | rfl | exact absurd h hi | exact absurd h hg

/-! Plain changes of an island, field by field. -/

@[simp] theorem Island.symbol_live (i : Island) : i.symbol.live = i.live := rfl
@[simp] theorem Island.symbol_row (i : Island) : i.symbol.row = i.row := rfl
@[simp] theorem Island.symbol_verified (i : Island) : i.symbol.verified = i.verified := rfl
@[simp] theorem Island.symbol_claim (i : Island) : i.symbol.claim = i.claim := rfl
@[simp] theorem Island.symbol_barred (i : Island) : i.symbol.barred = i.barred := rfl
@[simp] theorem Island.symbol_cmd (i : Island) : i.symbol.cmd = i.cmd := rfl
@[simp] theorem Island.symbol_permit (i : Island) : i.symbol.permit = i.permit := rfl
@[simp] theorem Island.symbol_token (i : Island) : i.symbol.token = i.token := rfl
@[simp] theorem Island.symbol_safeApplied (i : Island) : i.symbol.safeApplied = i.safeApplied := rfl
@[simp] theorem Island.symbol_partners (i : Island) : i.symbol.partners = i.partners := rfl
@[simp] theorem Island.cutProbes_live (i : Island) : i.cutProbes.live = i.live := rfl
@[simp] theorem Island.cutProbes_row (i : Island) : i.cutProbes.row = i.row := rfl
@[simp] theorem Island.cutProbes_verified (i : Island) : i.cutProbes.verified = i.verified := rfl
@[simp] theorem Island.cutProbes_claim (i : Island) : i.cutProbes.claim = i.claim := rfl
@[simp] theorem Island.cutProbes_barred (i : Island) : i.cutProbes.barred = i.barred := rfl
@[simp] theorem Island.cutProbes_cmd (i : Island) : i.cutProbes.cmd = i.cmd := rfl
@[simp] theorem Island.cutProbes_permit (i : Island) : i.cutProbes.permit = i.permit := rfl
@[simp] theorem Island.cutProbes_token (i : Island) : i.cutProbes.token = i.token := rfl
@[simp] theorem Island.cutProbes_safeApplied (i : Island) : i.cutProbes.safeApplied = i.safeApplied := rfl
@[simp] theorem Island.cutProbes_partners (i : Island) : i.cutProbes.partners = i.partners := rfl
@[simp] theorem Island.gates_live (g : List Int) (i : Island) : (i.gates g).live = i.live := rfl
@[simp] theorem Island.gates_row (g : List Int) (i : Island) : (i.gates g).row = i.row := rfl
@[simp] theorem Island.gates_verified (g : List Int) (i : Island) : (i.gates g).verified = i.verified := rfl
@[simp] theorem Island.gates_claim (g : List Int) (i : Island) : (i.gates g).claim = i.claim := rfl
@[simp] theorem Island.gates_barred (g : List Int) (i : Island) : (i.gates g).barred = i.barred := rfl
@[simp] theorem Island.gates_cmd (g : List Int) (i : Island) : (i.gates g).cmd = i.cmd := rfl
@[simp] theorem Island.gates_permit (g : List Int) (i : Island) : (i.gates g).permit = i.permit := rfl
@[simp] theorem Island.gates_token (g : List Int) (i : Island) : (i.gates g).token = i.token := rfl
@[simp] theorem Island.gates_safeApplied (g : List Int) (i : Island) : (i.gates g).safeApplied = i.safeApplied := rfl
@[simp] theorem Island.gates_partners (g : List Int) (i : Island) : (i.gates g).partners = i.partners := rfl

/-- No output is on after all have been turned off. -/
theorem Island.allOff_off (l : Levels) (soft : Bool) (i : Island) : ∀ o ∈ (i.allOff l soft).outs, o.phase.isOn = false := by
  intro o ho
  simp only [Island.allOff, List.mem_map] at ho
  obtain ⟨p, _, rfl⟩ := ho
  unfold Out.turnOff
  split
  · unfold offPhase; dsimp only
    split
    · rfl
    · split <;> rfl
  · rename_i hp
    split
    · unfold offPhase; dsimp only
      split
      · rfl
      · split <;> rfl
    · simpa using hp

end Sys2Proof.Machine
end

