-- ==== Sys2Proof/Laws/Memory.lean ====
section
/-! SUPPORT. The SRAM: a read after a write to the same address gives the byte written, every other address reads as before, and every operation keeps the canonical form. -/

namespace Sys2Proof.Machine

theorem cellsFrom_weaken {lo lo' : Nat} (h : lo' ≤ lo) (m : List Host.Cell) (hm : cellsFrom lo m = true) : cellsFrom lo' m = true := by
  cases m with
  | nil => rfl
  | cons e t =>
    simp only [cellsFrom, Bool.and_eq_true, decide_eq_true_eq] at hm ⊢
    exact ⟨⟨⟨by omega, hm.1.1.2⟩, hm.1.2⟩, hm.2⟩

/-- An address below every entry is not listed. -/
theorem memGet_below {lo a : Nat} (h : a < lo) (m : List Host.Cell) (hm : cellsFrom lo m = true) : memGet m a = 0 := by
  induction m generalizing lo with
  | nil => rfl
  | cons e t ih =>
    simp only [cellsFrom, Bool.and_eq_true, decide_eq_true_eq] at hm
    have h1 : lo ≤ e.1 := hm.1.1.1
    have h2 : a ≠ e.1 := by omega
    simp only [memGet, h2, if_false]
    exact ih (lo := e.1 + 1) (by omega) hm.2

/-- Writing an address of the SRAM keeps the canonical form. -/
theorem memPut_wf {lo a : Nat} (b : Byte) (m : List Host.Cell) (hm : cellsFrom lo m = true) (h1 : lo ≤ a) (h2 : a < sramSize) :
    cellsFrom lo (memPut m a b) = true := by
  induction m generalizing lo with
  | nil =>
    simp only [memPut]
    split
    · rfl
    · rename_i hb; have hb' : (b != 0) = true := by simpa using hb
      simp only [cellsFrom, h1, h2, hb', decide_true, Bool.and_self]
  | cons e t ih =>
    obtain ⟨k, v⟩ := e
    simp only [cellsFrom, Bool.and_eq_true, decide_eq_true_eq] at hm
    obtain ⟨⟨⟨g1, g2⟩, g3⟩, g4⟩ := hm
    simp only [memPut]
    split
    · split
      · simp only [cellsFrom, g1, g2, g3, g4, decide_true, Bool.and_self]
      · rename_i hk hb
        have hb' : (b != 0) = true := by simpa using hb
        simp only [cellsFrom, h1, h2, g2, g3, g4, hb', Nat.succ_le_of_lt hk, decide_true, Bool.and_self]
    · split
      · split
        · exact cellsFrom_weaken (by omega) _ g4
        · rename_i hb; have hb' : (b != 0) = true := by simpa using hb
          simp only [cellsFrom, g1, g2, g4, hb', decide_true, Bool.and_self]
      · simp only [cellsFrom, g1, g2, g3, ih g4 (by omega), decide_true, Bool.and_self]

/-- The byte written is the byte read. -/
theorem memGet_put_same {lo a : Nat} (b : Byte) (m : List Host.Cell) (hm : cellsFrom lo m = true) : memGet (memPut m a b) a = b := by
  induction m generalizing lo with
  | nil =>
    simp only [memPut]
    split
    · rename_i hb; simp [memGet, hb]
    · simp [memGet]
  | cons e t ih =>
    obtain ⟨k, v⟩ := e
    have g4 : cellsFrom (k + 1) t = true := by
      simp only [cellsFrom, Bool.and_eq_true] at hm; exact hm.2
    simp only [memPut]
    split
    · rename_i hk
      split
      · rename_i hb
        simp only [memGet, Nat.ne_of_lt hk, if_false]
        rw [hb]; exact memGet_below (by omega) t g4
      · simp [memGet]
    · split
      · rename_i hk; subst hk
        split
        · rename_i hb; rw [hb]; exact memGet_below (by omega) t g4
        · simp [memGet]
      · rename_i hk; simp only [memGet, hk, if_false]; exact ih g4

/-- Every other address reads as before. -/
theorem memGet_put_other {lo a j : Nat} (b : Byte) (m : List Host.Cell) (hm : cellsFrom lo m = true) (h : j ≠ a) :
    memGet (memPut m a b) j = memGet m j := by
  induction m generalizing lo with
  | nil =>
    simp only [memPut]
    split <;> simp [memGet, h]
  | cons e t ih =>
    obtain ⟨k, v⟩ := e
    have g4 : cellsFrom (k + 1) t = true := by
      simp only [cellsFrom, Bool.and_eq_true] at hm; exact hm.2
    simp only [memPut]
    split
    · split
      · rfl
      · simp [memGet, h]
    · split
      · rename_i hk; subst hk
        split <;> simp [memGet, h]
      · simp only [memGet]
        split
        · rfl
        · exact ih g4

/-! ### Operations on the state -/

theorem State.putSram_wf (s : State) (a : Nat) (b : Byte) (h : s.mem.wf = true) : (s.putSram a b).mem.wf = true := by
  unfold State.putSram
  split
  · exact memPut_wf b _ h (Nat.zero_le _) ‹_›
  · exact h

theorem State.putBytes_wf (s : State) (a : Nat) (l : List Byte) (h : s.mem.wf = true) : (s.putBytes a l).mem.wf = true := by
  induction l generalizing s a with
  | nil => exact h
  | cons b bs ih => exact ih _ _ (s.putSram_wf a b h)

theorem State.updDma_wf (s : State) (c : Nat) (f : DmaChan → DmaChan) (h : s.mem.wf = true) : (s.updDma c f).mem.wf = true := h

theorem State.writeBack_wf (s : State) (d : DmaDesc) (x y : Nat) (h : s.mem.wf = true) : (s.writeBack d x y).mem.wf = true := by
  unfold State.writeBack
  split
  · exact State.putBytes_wf _ _ _ (State.putBytes_wf _ _ _ h)
  · exact h

theorem State.dmaStop_wf (s : State) (c x : Nat) (h : s.mem.wf = true) : (s.dmaStop c x).mem.wf = true := by
  unfold State.dmaStop
  dsimp only
  split
  · exact h
  · split
    · exact State.writeBack_wf _ _ _ _ h
    · exact h

theorem State.reset_mem_wf : State.reset.mem.wf = true := rfl

/-- A byte written to the SRAM reads back. -/
theorem State.sram_put_same (s : State) (a : Nat) (b : Byte) (h : s.mem.wf = true) (ha : a < sramSize) : (s.putSram a b).sram a = b := by
  unfold State.putSram State.sram
  rw [if_pos ha]
  exact memGet_put_same b _ h

theorem State.sram_put_other (s : State) (a j : Nat) (b : Byte) (h : s.mem.wf = true) (hj : j ≠ a) : (s.putSram a b).sram j = s.sram j := by
  unfold State.putSram State.sram
  split
  · exact memGet_put_other b _ h hj
  · rfl

/-- A list of bytes written touches no address outside it. -/
theorem State.sram_putBytes_other (s : State) (a j : Nat) (l : List Byte) (h : s.mem.wf = true) (hj : j < a ∨ a + l.length ≤ j) :
    (s.putBytes a l).sram j = s.sram j := by
  induction l generalizing s a with
  | nil => rfl
  | cons b bs ih =>
    simp only [List.length_cons] at hj
    simp only [State.putBytes]
    rw [ih _ _ (s.putSram_wf a b h) (by omega), State.sram_put_other _ _ _ _ h (by omega)]

end Sys2Proof.Machine
end

