-- ==== Sys2Proof/WellFormed.lean ====
section
/-! DEFINITION. Well-formed commands: operands that the types leave too wide, held to the lengths and ranges that the manual gives them. -/

namespace Sys2Proof

/-- The operands of a command are within the lengths and ranges of their sources: four gates and dies of an island (R37), twenty temperature sensors (Table 3.11), frames of their transport (R438, R461, R482), 16-bit angles (R202), 32-bit block offsets (Table 12.4). -/
def Instr.wellFormed (i : Instr) : Bool :=
  match i with
  | .vinPorRise => true
  | .vinPorFall => true
  | .vinValidRise _ => true
  | .vinUvFall => true
  | .vinHighRise _ => true
  | .vinHighFall => true
  | .vinWarnLowCross _ => true
  | .vddioOutOfBand => true
  | .railOutOfWindow _ => true
  | .clockCheckWindow _ _ => true
  | .pllLossOfLock _ => true
  | .crystalLoss => true
  | .startAttemptCheck _ _ _ _ => true
  | .startRetry => true
  | .resetNFall _ => true
  | .resetNRise _ => true
  | .sramClearDone => true
  | .bootSlotCheckDone _ _ => true
  | .bootRetry => true
  | .powerOnSelftestDone _ _ _ => true
  | .siStartupTestDone _ => true
  | .islandGroupStart => true
  | .rillysLinkTrained _ => true
  | .islandVerifyStepDone _ meas => meas.rg.length == 4 && meas.kelvin.length == 4
  | .islandSupplyReleaseTimer => true
  | .sleepEntryDone _ _ => true
  | .wakeRise _ _ => true
  | .wakeTimerExpiry _ => true
  | .tempScan temps => temps.length == 20
  | .thermalShutdownTrip _ => true
  | .thermalDwellEnd => true
  | .processMonitorTick code _ => decide (code < 256)
  | .islPowerAverage _ _ => true
  | .tempCommit _ => true
  | .resetCauseClear _ _ => true
  | .mainLockstepError _ => true
  | .hotRestartDone _ _ => true
  | .controlPeriodBoundary _ sample => sample.pos.length == 2 && sample.pos.all (fun x => decide (x.sensorTheta < 65536) && decide (x.obsTheta < 65536)) && decide (sample.grid.theta < 65536)
  | .fleStart _ => true
  | .fleComputeDone _ _ _ _ => true
  | .dutyLoadDeadline _ => true
  | .heartbeatLost _ => true
  | .helmetPreloadEval => true
  | .preloadWord _ _ => true
  | .preloadStale _ => true
  | .helmetStep _ _ => true
  | .helmetCountCheck => true
  | .helmetLockstepError => true
  | .ascEstablishTimeout _ => true
  | .safetyMapReload _ => true
  | .drvEnFall _ => true
  | .drvEnRise _ => true
  | .keepOff _ => true
  | .keepOn _ => true
  | .off _ gates => gates.length == 4
  | .on _ gates => gates.length == 4
  | .offSoft _ => true
  | .mark _ _ _ => true
  | .probe _ => true
  | .reservedSymbol _ => true
  | .prePhaseEnd _ _ _ => true
  | .slopePhaseEnd _ _ _ => true
  | .slopeTimeout _ _ => true
  | .edgeLost _ => true
  | .offConfChange _ gates => gates.length == 4
  | .partnerOffConf _ _ _ => true
  | .partnerClaim _ _ _ => true
  | .claimWindowClose _ => true
  | .ilkTmo _ => true
  | .interlockRefreshLoss _ _ => true
  | .ilkLost _ => true
  | .gateStuck _ _ => true
  | .islUvloFall _ => true
  | .islUvloRelease _ => true
  | .islRailDev _ _ _ => true
  | .vddiFailure _ => true
  | .bootstrapChangeover _ => true
  | .bootstrapReturn _ => true
  | .bstLow _ _ => true
  | .desatConfirm _ => true
  | .fastFaultCode _ _ => true
  | .ktiWindowEnd _ _ _ _ _ => true
  | .balancerUpdate _ => true
  | .probeInterval _ _ => true
  | .probeDone _ _ _ _ _ => true
  | .calCmdFirst _ _ rgMeans _ => rgMeans.length == 4
  | .calCmdSecond _ _ rgMeans _ => rgMeans.length == 4
  | .islandGlobalCommit _ => true
  | .islandCommit _ _ => true
  | .cfgFrame _ _ => true
  | .cfgAckFrame _ _ _ => true
  | .cmdFrame _ _ payload => decide (payload.offsets.length ≤ 2)
  | .resultFrame _ _ _ => true
  | .eventFrame _ _ _ rec => decide (rec.length ≤ 16)
  | .telemFrame _ _ _ _ vgOn => vgOn.length == 4
  | .idleFrame _ _ _ => true
  | .rillysSlot _ _ => true
  | .retransmitTimeout _ _ => true
  | .rillysLinkLost _ => true
  | .linkErrorRateWindow _ => true
  | .triggerFire _ => true
  | .saruConversionDone _ _ => true
  | .regularSequenceStart _ => true
  | .islandSampleInstant _ inst _ _ => decide (1 ≤ inst) && decide (inst ≤ 2)
  | .ntcConversion _ _ _ => true
  | .dcLinkWindowCross _ _ _ => true
  | .icuWindowEnd _ sample => decide (sample.rms < 2 ^ 32)
  | .icuWindowTimeout _ sample => decide (sample.rms < 2 ^ 32)
  | .refSettled _ => true
  | .refLost _ _ => true
  | .calDue _ => true
  | .calDone _ _ _ => true
  | .calRequest _ _ => true
  | .cmpTrip _ => true
  | .cmpRelease _ => true
  | .sensingCommit _ => true
  | .encoderEdge _ _ => true
  | .indexEvent => true
  | .encWireFault => true
  | .hallChange _ _ => true
  | .hallIllegalTimeout => true
  | .resolverCheck _ _ _ theta => decide (theta < 65536)
  | .sentFrame _ frame => decide (5 ≤ frame.nibbleTicks.length) && decide (frame.nibbleTicks.length ≤ 8)
  | .sentTimeout _ => true
  | .ssiFrameDone _ => true
  | .standstillStartDone _ meas => meas.ik.length == 6
  | .obsRecovery _ => true
  | .catchAttempt _ => true
  | .catchPulseEnd _ angle _ => decide (angle < 65536)
  | .catchDone _ _ => true
  | .alignCmd _ _ => true
  | .alignDone _ avg => decide (avg < 65536)
  | .pcmpValueWrite _ _ _ => true
  | .pcmpModeWrite _ _ _ => true
  | .positionCommit _ => true
  | .solverStep _ => true
  | .torqueCmd _ _ _ => true
  | .speedCmd _ _ _ => true
  | .ascBrakeCmd _ _ _ => true
  | .ascAlternate _ => true
  | .cmdTimeout => true
  | .activate _ => true
  | .mapVerifyDone _ mapSet _ => mapSet.machineType.length == 2 && mapSet.polePairs.length == 2
  | .activeBankVerifyDone _ => true
  | .corrLearn _ _ _ => true
  | .corrReset _ => true
  | .corrSave _ => true
  | .corrDelete _ => true
  | .corrSaveDone => true
  | .traceArm _ => true
  | .traceForceTrigger _ => true
  | .traceStop _ => true
  | .limitCommit _ => true
  | .fieldLoopCommit _ => true
  | .solverCommit _ => true
  | .traceCommit _ => true
  | .gridPllLock => true
  | .outerLoopStep => true
  | .iOutCmd _ _ => true
  | .rlyCmd _ _ => true
  | .relayFeedbackChange _ _ => true
  | .relayCheckTimeout _ => true
  | .relayDriverShort _ => true
  | .gridCheckTimeout => true
  | .prechargeTimeout => true
  | .rlyOverlapExpiry => true
  | .dcRampDone => true
  | .outMatchDone => true
  | .outMatchTimeout => true
  | .stopCurrentWait => true
  | .blockRelayOff => true
  | .gridOkTimer => true
  | .energyClear _ => true
  | .chargerCommit _ => true
  | .faultPost _ detail => decide (detail < 2 ^ 32)
  | .faultLeave _ detail => decide (detail < 2 ^ 32)
  | .faultReset _ _ => true
  | .resetHeldTimeout _ => true
  | .dischStart _ => true
  | .dischStop _ => true
  | .dischReq _ _ => true
  | .dischPathCheck => true
  | .dischTimeout => true
  | .logWrite _ => true
  | .logClear _ => true
  | .protectionCommit _ _ => true
  | .siSample _ _ => true
  | .testPulse _ => true
  | .testPulseEnd _ => true
  | .hvilCycle _ _ _ _ => true
  | .completeTest _ => true
  | .safeRstEdge _ => true
  | .helmetEvaluatorRead => true
  | .siCommit _ _ => true
  | .sramCe _ addr => decide (addr < 2 ^ 32)
  | .sramUe _ addr _ => decide (addr < 2 ^ 32)
  | .mpuViolation _ addr => decide (addr < 2 ^ 32)
  | .scrubStep => true
  | .nvOperationDone _ _ => true
  | .persistentWriteDone _ => true
  | .compactionDone _ _ => true
  | .opTimeSave => true
  | .dmaDescriptorStart _ desc => decide (desc.len < 2 ^ 32) && desc.addr % 4 == 0
  | .dmaBeat _ _ => true
  | .rotationSlot => true
  | .selftestDone t _ _ _ _ _ => decide (t < 256)
  | .stOverdue t => decide (t < 256)
  | .stRequest _ _ => true
  | .stAbort _ => true
  | .marchBlock => true
  | .selftestCommit _ => true
  | .read _ _ _ => true
  | .write _ _ _ data => decide (data.length ≤ 8184)
  | .unknownCmd _ _ _ _ => true
  | .blockWStart _ _ _ total window => decide (total < 2 ^ 32) && decide (window < 2 ^ 32)
  | .blockWData _ _ _ _ offset data => decide (offset < 2 ^ 32) && decide (data.length ≤ 8176)
  | .blockWWindow _ _ _ _ => true
  | .blockWindowFree => true
  | .blockWEnd _ _ _ _ _ => true
  | .blockRStart _ _ _ => true
  | .blockRData _ _ _ _ offset len => decide (offset < 2 ^ 32) && decide (len < 2 ^ 32)
  | .blockAbort _ _ _ _ => true
  | .blockIdleTimeout _ => true
  | .busyHoldExpiry => true
  | .processFrame _ _ data => decide (data.length ≤ 8192)
  | .txProcessSample _ => true
  | .mappingCommit _ => true
  | .readyReq _ _ => true
  | .readyReqClear _ _ => true
  | .runReq _ _ => true
  | .runReqClear _ _ => true
  | .serviceReq _ _ => true
  | .serviceReqClear _ _ => true
  | .sleepReq _ _ => true
  | .resetCmd _ _ => true
  | .canFrameReceive _ frame _ => decide (frame.data.length ≤ if frame.fd then 64 else 8)
  | .canFrameSent _ _ => true
  | .canBusOff _ => true
  | .canBusOffRecovery _ => true
  | .hostTmoExpiry => true
  | .ethLinkChange _ => true
  | .arpRequest _ _ => true
  | .icmpEcho _ _ payload => decide (payload.length ≤ 9000)
  | .arpTimeout _ => true
  | .ptpMessage _ timeNs => decide (timeNs < 2 ^ 64)
  | .ptpSyncLoss => true
  | .spiServiceReq _ data _ => decide (data.length < 65536)
  | .spiServiceRd => true
  | .spiProcWr _ data => decide (data.length < 65536)
  | .spiProcRd _ => true
  | .spiBadTransaction => true
  | .announce _ _ _ => true
  | .announceTimer => true
  | .joinReq _ _ _ => true
  | .joinRetry => true
  | .joinAck _ _ _ => true
  | .cyclic _ _ _ _ => true
  | .spanStatus _ _ => true
  | .spanService _ frame => decide (frame.length ≤ 64)
  | .spanServiceReply _ frame => decide (frame.length ≤ 64)
  | .delayReq _ => true
  | .delayResp _ _ _ => true
  | .delayExchangeTimer => true
  | .spanCycle => true
  | .relayReplyTimeout _ => true
  | .spanPortDown _ => true
  | .quarantineEnd _ => true
  | .spanMgrTimeout => true
  | .spanNodeTimeout _ => true
  | .netCommit _ => true
  | .spanCommit _ => true
  | .authChallenge _ _ => true
  | .authResponse _ _ data => decide (data.length ≤ 8184)
  | .sessionClose _ _ => true
  | .sessionIdleTimeout => true
  | .authLockoutEnd => true
  | .trngHealthFail => true
  | .lcRequest _ _ => true
  | .oemKeyRevoke _ _ => true
  | .fwConfirm _ => true
  | .fwPreferred _ _ => true
  | .fwSlotVerifyDone _ _ => true
  | .paramVerifyDone _ set => decide (set.version < 2 ^ 32)
  | .paramActivate _ => true
  | .spanPortUp _ => true
  | .vddioBackInBand => true
  | .tapInstruction _ => true
  | .datagramDiscarded _ => true

end Sys2Proof
end

