-- ==== Sys2Proof/Tests/Slice0.lean ====
section
/-! SUPPORT. The model's own tests: ill-formed commands that the check refuses, worked examples of the manual, and for each statement with hypotheses a state that meets them. -/

namespace Sys2Proof.Tests
open Sys2Proof Sys2Proof.Machine Sys2Proof.Safety

/-- A verified island under the permit, its channels alive. -/
def wIsl : Island :=
  { State.resetIsland with supplyOn := true, powered := true, trained := true, linkOk := true, verified := true, step := 11, permit := true, token := true,
                           edgeOk := true, heartbeat := true }

/-- A started module in a device state, with twelve such islands. -/
def wIn (d : DevState) : State :=
  { State.reset with
    sys := { State.resetSys with dev := d, standbySeen := true },
    sup := { State.resetSupply with attempting := false, romRunning := true, m1Released := true, selftestDone := true },
    pins := { State.resetPins with drvEn := true },
    hlm := { State.resetHelmet with heartbeat := true },
    isl := List.replicate 12 wIsl }

/-- With a configuration in force. -/
def wCfg (c : Int) (d : DevState) : State := (wIn d).set O.CONFIG_ACTIVE c

/-- The module before its islands have a supply. -/
def wBare (d : DevState) : State := { wIn d with isl := State.resetIslands }

/-- No safety-input evaluator enabled. -/
def wNoSi (s : State) : State := (((s.set O.ENABLE 0 0).set O.ENABLE 0 1).set O.ENABLE 0 2).set O.ENABLE 0 3

/-- A condition listed and reported. -/
def wCond (f : FaultCode) (d : Nat) (s : State) : State :=
  { s with coll := { s.coll with conds := [(f, d)], reported := [f] } }

/-- A fault held in the active slot with its condition. -/
def wHeld (f : FaultCode) (c d : Nat) (s : State) : State :=
  { s with coll := { s.coll with active := some ⟨f, c, d⟩, conds := [(f, d)] } }

/-- A request on the SPI port, without a session or in session 1. -/
def wReq : Req := ⟨.spi, 0, 1, 0, true, 16⟩
def wReqS : Req := ⟨.spi, 0, 1, 1, true, 16⟩

/-- The SPI port serves, with session 1 of level VND. -/
def wSpi (s : State) : State := { s.set O.SPI_ENABLE 1 with sec := { s.sec with sessions := [⟨.spi, 1, .vnd, 0⟩] } }

/-- Output k of island n changed. -/
def wOut (n : IslIx) (k : Nat) (f : Out → Out) (s : State) : State := s.updIsl n fun i => { i with outs := i.outs.modify k f }

/-- A header that island n and the control die accept next. -/
def wHdr (n : BitVec 4) : RillysHdr := ⟨true, n, true, 1, 1, true, false, 0, 0, 0⟩

/-! ### Ill-formed commands are refused by the check -/

theorem refused_tempScan : (Instr.tempScan []).wellFormed = false := by decide
theorem refused_sramCe : (Instr.sramCe 0 (2 ^ 32)).wellFormed = false := by decide
theorem refused_sramUe : (Instr.sramUe 0 (2 ^ 32) (.dma 3)).wellFormed = false := by decide
theorem refused_mpuViolation : (Instr.mpuViolation (.dma 3) (2 ^ 32)).wellFormed = false := by decide
theorem refused_off : (Instr.off 2 [1, 2, 3]).wellFormed = false := by decide
theorem refused_on : (Instr.on 2 [1, 2, 3]).wellFormed = false := by decide
theorem refused_offConfChange : (Instr.offConfChange 2 [1, 2, 3, 4, 5]).wellFormed = false := by decide
theorem refused_calCmdFirst : (Instr.calCmdFirst wReq 2 [1] 0).wellFormed = false := by decide
theorem refused_calCmdSecond : (Instr.calCmdSecond wReq 2 [1] 0).wellFormed = false := by decide
theorem refused_cmdFrame : (Instr.cmdFrame 2 (wHdr 2) ⟨none, false, none, [1, 2, 3], false⟩).wellFormed = false := by decide
theorem refused_eventFrame : (Instr.eventFrame 2 (wHdr 2) 1 (List.replicate 17 0)).wellFormed = false := by decide
theorem refused_telemFrame : (Instr.telemFrame 2 (wHdr 2) 1 2 [1, 2]).wellFormed = false := by decide
theorem refused_islandVerifyStepDone : (Instr.islandVerifyStepDone 2 ⟨true, [1, 2, 3, 4], [1]⟩).wellFormed = false := by decide
theorem refused_islandSampleInstant : (Instr.islandSampleInstant 2 3 0 0).wellFormed = false := by decide
theorem refused_resolverCheck : (Instr.resolverCheck 1 0 false 65536).wellFormed = false := by decide
theorem refused_sentFrame : (Instr.sentFrame 0 ⟨56, [12, 12, 12, 12], true, 0, 0, none⟩).wellFormed = false := by decide
theorem refused_standstillStartDone : (Instr.standstillStartDone 0 ⟨[1, 2, 3], 0, 0, 0, 0⟩).wellFormed = false := by decide
theorem refused_catchPulseEnd : (Instr.catchPulseEnd 0 65536 0).wellFormed = false := by decide
theorem refused_alignDone : (Instr.alignDone 0 65536).wellFormed = false := by decide
theorem refused_controlPeriodBoundary : (Instr.controlPeriodBoundary 0 ⟨[], ⟨0, 0, 0, 0, 0, 0⟩⟩).wellFormed = false := by decide
theorem refused_dmaDescriptorStart : (Instr.dmaDescriptorStart 0 ⟨2, 0, 0, 8, 0, 0, 0⟩).wellFormed = false := by decide
theorem refused_selftestDone : (Instr.selftestDone 256 0 0 0 false false).wellFormed = false := by decide
theorem refused_stOverdue : (Instr.stOverdue 256).wellFormed = false := by decide
theorem refused_write : (Instr.write wReq 0x2000 1 (List.replicate 8185 0)).wellFormed = false := by rw [Instr.wellFormed, List.length_replicate]; decide
theorem refused_blockWStart : (Instr.blockWStart wReq 0x2D11 1 (2 ^ 32) 0).wellFormed = false := by decide
theorem refused_blockWData : (Instr.blockWData wReq 0x2D11 1 0 (2 ^ 32) []).wellFormed = false := by decide
theorem refused_blockRData : (Instr.blockRData wReq 0x2F10 5 0 0 (2 ^ 32)).wellFormed = false := by decide
theorem refused_processFrame : (Instr.processFrame .spi 0 (List.replicate 8193 0)).wellFormed = false := by rw [Instr.wellFormed, List.length_replicate]; decide
theorem refused_canFrameReceive : (Instr.canFrameReceive 0 ⟨1, false, List.replicate 9 0⟩ false).wellFormed = false := by decide
theorem refused_icmpEcho : (Instr.icmpEcho 0 0 (List.replicate 9001 0)).wellFormed = false := by rw [Instr.wellFormed, List.length_replicate]; decide
theorem refused_ptpMessage : (Instr.ptpMessage 0 (2 ^ 64)).wellFormed = false := by decide
theorem refused_spiServiceReq : (Instr.spiServiceReq 0 (List.replicate 65536 0) true).wellFormed = false := by rw [Instr.wellFormed, List.length_replicate]; decide
theorem refused_spiProcWr : (Instr.spiProcWr 0 (List.replicate 65536 0)).wellFormed = false := by rw [Instr.wellFormed, List.length_replicate]; decide
theorem refused_spanService (h : SpanHdr) : (Instr.spanService h (List.replicate 65 0)).wellFormed = false := by rw [Instr.wellFormed, List.length_replicate]; decide
theorem refused_spanServiceReply (h : SpanHdr) : (Instr.spanServiceReply h (List.replicate 65 0)).wellFormed = false := by rw [Instr.wellFormed, List.length_replicate]; decide
theorem refused_authResponse : (Instr.authResponse wReq 5 (List.replicate 8185 0)).wellFormed = false := by rw [Instr.wellFormed, List.length_replicate]; decide
theorem refused_mapVerifyDone (c : MapChecks) : (Instr.mapVerifyDone 0 ⟨1, 1, 0, 0, [0], [4, 4], false, false, []⟩ c).wellFormed = false := rfl
theorem refused_paramVerifyDone : (Instr.paramVerifyDone false ⟨1, 2 ^ 32, 0, true, [], 0, true, true⟩).wellFormed = false := by decide
theorem refused_processMonitorTick : (Instr.processMonitorTick 256 0).wellFormed = false := by decide
theorem refused_faultPost : (Instr.faultPost .dcUv (2 ^ 32)).wellFormed = false := by decide
theorem refused_faultLeave : (Instr.faultLeave .dcUv (2 ^ 32)).wellFormed = false := by decide
theorem refused_icuWindowEnd : (Instr.icuWindowEnd 0 ⟨0, false, 2 ^ 32, 0, 0⟩).wellFormed = false := by decide
theorem refused_icuWindowTimeout : (Instr.icuWindowTimeout 0 ⟨0, false, 2 ^ 32, 0, 0⟩).wellFormed = false := by decide
theorem accepted_commands : [Instr.vinPorRise, .tempScan (List.replicate 20 250), .off 2 [0, 0, 0, 0], .faultPost .dcUv 5, .write wReq 0x2000 1 [1, 0]].all
    Instr.wellFormed = true := by decide

/-! ### The manual's worked examples and known values, one step each -/

/-- State after a command that answers one. -/
def after (i : Instr) (s : State) : State := match exec i s with
  | .next t => t
  | _ => s

/-- CRC-32 of IEEE 802.3 (R136) of the digits 1 to 9, its published check value. -/
theorem test_crc32 : crc32 [0x31, 0x32, 0x33, 0x34, 0x35, 0x36, 0x37, 0x38, 0x39] = 0xCBF43926#32 := by decide +kernel

/-- CRC-16 with polynomial 0x1021 and start 0xFFFF (Table 9.9) of the same digits, its published check value. -/
theorem test_crc16 : crc16 [0x31, 0x32, 0x33, 0x34, 0x35, 0x36, 0x37, 0x38, 0x39] = 0x29B1#16 := by decide +kernel

/-- Table 9.4: ISL_LINK_LOST becomes active; ISL_DESAT of class C4 becomes active and ISL_LINK_LOST pending; VDC_LOST finds both slots full. -/
theorem test_collector :
    (State.resetColl.place ⟨.islLinkLost, 3, 7⟩).1.held = [⟨.islLinkLost, 3, 7⟩] ∧
    ((State.resetColl.place ⟨.islLinkLost, 3, 7⟩).1.place ⟨.islDesat, 4, 2⟩).1.held = [⟨.islDesat, 4, 2⟩, ⟨.islLinkLost, 3, 7⟩] ∧
    ((({ State.resetColl with active := some ⟨.islDesat, 4, 2⟩, pend := some ⟨.islLinkLost, 3, 7⟩ } : Coll).place ⟨.vdcLost, 3, 0⟩).1.overflow = true) := by
  decide

/-- Table 9.4, fourth line: ISL_LINK_LOST leaves its slot, ISL_DESAT stays active. -/
theorem test_collector_leave :
    let s := { wCfg 1 .faultLatched with coll := { State.resetColl with active := some ⟨.islDesat, 4, 2⟩, pend := some ⟨.islLinkLost, 3, 7⟩, conds := [(.islLinkLost, 7)] } }
    (after (.faultLeave .islLinkLost 7) s).coll.held = [⟨.islDesat, 4, 2⟩] := by decide +kernel

/-- The dies of B0-UH of Table 4.9 after eight qualifying turn-offs each. -/
def wBal : State :=
  let outs := fun (l : List Int) => l.map fun a => { State.resetOut with ktiOn := List.replicate 8 (0, 100), ktiOff := List.replicate 8 (0, a) }
  let s := ((wCfg 0 .run).set O.DIE_DECL 15 0).set O.DIE_DECL 15 6
  (s.updIsl 0 fun i => { i with outs := outs [156, 150, 147, 165] }).updIsl 6 fun i => { i with outs := outs [141, 150, 153, 138] }

/-- Table 4.9: the gate offsets of the eight dies move by at most one step of 0.1 V. -/
theorem test_balancer : ((after (.balancerUpdate 0) wBal).island 0).outs.map (fun o => o.vgBal) = [-1, 0, 0, -1] ∧
    ((after (.balancerUpdate 0) wBal).island 6).outs.map (fun o => o.vgBal) = [1, 0, 0, 1] := by decide +kernel

/-- R238's example: writing 900 with r = 1,000 and rising sets BEHIND and does not fire. -/
theorem test_pcmp_behind :
    let s := (((wSpi (wCfg 0 .ready)).set O.SENSOR_SRC 1).set O.POS_MODE 0).set O.PCMP_MODE 0x2A
    let s := { s with pos := { s.pos with enc := { s.pos.enc with c := 1000, r := 1000 } } }
    (after (.pcmpValueWrite wReqS 0 900) s).pos.pcmp.map (fun x => (x.behind, x.fired)) = [(true, false), (false, false), (false, false), (false, false)] := by
  decide +kernel

/-- R206: A leads B in the positive direction. -/
theorem test_encoder_edge : (after (.encoderEdge true false) (wIn .ready)).pos.enc.c = 1 ∧ (after (.encoderEdge false true) (wIn .ready)).pos.enc.c = -1 := by decide +kernel

/-- READ of DEV_STATE (0x2001:02) in READY answers the byte of Table 12.7. -/
theorem test_read_dev_state : (after (.read wReq 0x2001 2) (wSpi (wIn .ready))).out =
    [.reply (reqId (wSpi (wIn .ready)) wReq 1 0x200102) (.ok [BitVec.ofNat 8 DevState.ready.code])] := by decide +kernel

/-- WRITE of a missing object is refused with ABORT_NO_OBJECT (R13). -/
theorem test_write_missing : (after (.write wReqS 0x2000 99 [0]) (wSpi (wIn .ready))).out =
    [.reply (reqId (wSpi (wIn .ready)) wReqS 2 0x200063) (.abort 0x10)] := by decide +kernel

/-- R71: VIN above 45 V, for which the manual gives no behaviour, is the fault; at 45 V the module goes on. -/
theorem test_vin_limit : exec (.vinHighRise 45001) (wIn .run) = .fault .vinBeyondLimit ∧ (after (.vinHighRise 45000) (wIn .run)).sys.dev = .run := by
  constructor
  · rfl
  · decide +kernel

/-- The queue: the second command runs on the state the first has left. -/
theorem test_queue : (match step { wIn .ready with pending := [.busyHoldExpiry, .scrubStep] } with | .next t => t.pending | _ => []) = [.scrubStep] := by decide +kernel

/-- An empty queue lets a microsecond pass. -/
theorem test_idle : (match step State.reset with | .next t => t.now | _ => 0) = 1 := by decide +kernel

/-- No row of the table gives bits, so no word spells a command. -/
theorem test_decode : Sys2Proof.decodeTableWord 32 0 = none := rfl

/-! ### States that meet the hypotheses of the statements -/

/-- No word equals its complement. -/
theorem notSelf (x : BitVec 32) : ~~~x ≠ x := fun h => by have := congrArg (fun y : BitVec 32 => y.getLsbD 0) h; simp at this

/-- Without headroom the DC-link reference needs no square root. -/
theorem vdcRefEff_of (s : State) (h : s.get O.VDC_HEADROOM = 0) : s.vdcRefEff = maxQ (s.getQ O.VDC_REF) 0 := by
  unfold State.vdcRefEff; rw [h]; simp

/-- A value of a signed type within its range. -/
theorem witness_typeRange : ∃ (ty : Ty) (v : Int), ty.signed = true ∧ -(2 ^ (8 * ty.bytes - 1) : Nat) ≤ v ∧ v < (2 ^ (8 * ty.bytes - 1) : Nat) :=
  ⟨.i16, -2, by decide⟩

/-- Each clause of StepRunsTheFrontCommand has a state that meets its hypotheses. -/
theorem witness_StepRunsTheFrontCommand :
  (∃ (s : State) (c : Instr) (rest : List Instr), s.pending = c :: rest) ∧
  (∃ (s : State), s.pending = []) :=
  ⟨⟨({ wIn .run with pending := [.scrubStep, .busyHoldExpiry] }), .scrubStep, ([.busyHoldExpiry]), by decide⟩,
   ⟨(wIn .run), by decide⟩⟩

/-- Each clause of EveryStepKeepsTheCanonicalForm has a state that meets its hypotheses. -/
theorem witness_EveryStepKeepsTheCanonicalForm :
  (∃ (s : State) (t : State), sound s ∧ step s = .next t) :=
  ⟨State.reset, (tick State.reset), ⟨rfl, rfl, rfl, rfl⟩, rfl⟩

/-- Each clause of EveryStepKeepsTheInterlock has a state that meets its hypotheses. -/
theorem witness_EveryStepKeepsTheInterlock :
  (∃ (s : State) (t : State), interlocked s ∧ step s = .next t) :=
  ⟨State.reset, (tick State.reset), ⟨fun _ => .inl rfl, by decide, by decide⟩, rfl⟩

/-- Each clause of CommandsLeaveQueueAndTime has a state that meets its hypotheses. -/
theorem witness_CommandsLeaveQueueAndTime :
  (∃ (i : Instr) (s : State) (t : State), exec i s = .next t) :=
  ⟨.busyHoldExpiry, State.reset, State.reset, rfl⟩

/-- Each clause of OtpCellsNeverGoBack has a state that meets its hypotheses. -/
theorem witness_OtpCellsNeverGoBack :
  (∃ (i : Instr) (s : State) (t : State), exec i s = .next t) :=
  ⟨.busyHoldExpiry, State.reset, State.reset, rfl⟩

/-- Each clause of C1AndC2TakeNoSlot has a state that meets its hypotheses. -/
theorem witness_C1AndC2TakeNoSlot :
  (∃ (s : State) (f : FaultCode) (d : Nat), f.cls ≤ 2 ∧ (f, d) ∉ s.coll.conds) ∧
  (∃ (s : State) (f : FaultCode) (d : Nat), 3 ≤ f.cls) ∧
  (∃ (s : State) (t : State), collClasses s ∧ step s = .next t) :=
  ⟨⟨(wIn .run), .encFail, 3, by decide⟩,
   ⟨(wIn .run), .islDesat, 3, by decide⟩,
   ⟨State.reset, (tick State.reset), (fun _ h => nomatch h), rfl⟩⟩

/-- Each clause of CollectorPlacesFaults has a state that meets its hypotheses. -/
theorem witness_CollectorPlacesFaults :
  (∃ (s : State) (cls : Nat) (f : FaultCode) (d : Nat), ((∃ x ∈ s.coll.held, x.code = f))) ∧
  (∃ (s : State) (cls : Nat) (f : FaultCode) (d : Nat), 3 ≤ cls ∧ cls ≤ 5 ∧ emptyColl s) ∧
  (∃ (s : State) (cls : Nat) (f : FaultCode) (d : Nat) (a : Slot), 3 ≤ cls ∧ cls ≤ 5 ∧ s.coll.holds f = false ∧ s.coll.active = some a ∧ s.coll.pend = none ∧ a.cls < heldClass s cls f) ∧
  (∃ (s : State) (cls : Nat) (f : FaultCode) (d : Nat) (a : Slot), 3 ≤ cls ∧ cls ≤ 5 ∧ s.coll.holds f = false ∧ s.coll.active = some a ∧ s.coll.pend = none ∧ heldClass s cls f ≤ a.cls) ∧
  (∃ (s : State) (cls : Nat) (f : FaultCode) (d : Nat) (a : Slot) (b : Slot), 3 ≤ cls ∧ cls ≤ 5 ∧ s.coll.holds f = false ∧ s.coll.active = some a ∧ s.coll.pend = some b) ∧
  (∃ (s : State) (f : FaultCode) (d : Nat), s.alive = true ∧ s.sys.dev.runs = true ∧ plainPost f) :=
  ⟨⟨(wHeld .dcUv 3 5 (wIn .safeHold)), 3, .dcUv, 7, by decide⟩,
   ⟨(wIn .run), 3, .dcUv, 7, by decide⟩,
   ⟨(wHeld .dcUv 3 5 (wIn .safeHold)), 4, .islDesat, 7, ((⟨.dcUv, 3, 5⟩ : Slot)), by decide⟩,
   ⟨(wHeld .dcUv 3 5 (wIn .safeHold)), 3, .vdcLost, 7, ((⟨.dcUv, 3, 5⟩ : Slot)), by decide⟩,
   ⟨({ wIn .run with coll := { State.resetColl with active := some ⟨.dcUv, 3, 5⟩, pend := some ⟨.islDesat, 4, 2⟩ } }), 3, .vdcLost, 7, ((⟨.dcUv, 3, 5⟩ : Slot)), ((⟨.islDesat, 4, 2⟩ : Slot)), by decide⟩,
   ⟨(wIn .run), .dcUv, 3, by decide, by decide, ⟨.inl rfl, by decide⟩⟩⟩

/-- Each clause of ValuesAreLittleEndian has a state that meets its hypotheses. -/
theorem witness_ValuesAreLittleEndian :
  (∃ (s : State) (r : Req) (idx : Half) (sub : Byte) (o : Obj) (p : Nat), takesIn s r 0x01 (keyOf idx sub) = true ∧ isSubZero (keyOf idx sub) = false ∧ findObj (keyOf idx sub) = some (o, p) ∧ o.ty.isDomain = false ∧ o.acc ≠ .wo ∧ o.lvl = .obs ∧ o ∉ noMeasure) ∧
  (∃ (o : Obj) (v : Int), o.ty = .bool) ∧
  (∃ (o : Obj) (v : Int), o.ty = .f32 ∧ f32Bad v.toNat = true) ∧
  (∃ (o : Obj) (v : Int), o.ty ≠ .bool ∧ o.ty ≠ .f32 ∧ o.rng ≠ []) ∧
  (∃ (s : State) (r : Req) (idx : Half) (sub : Byte) (o : Obj) (p : Nat) (d : List Byte), takesIn s r 0x02 (keyOf idx sub) = true ∧ isSubZero (keyOf idx sub) = false ∧ findObj (keyOf idx sub) = some (o, p) ∧ o.key p = keyOf idx sub ∧ o.ty.isDomain = false ∧ d.length = o.ty.bytes ∧ s.checkAccess r.port ((s.levelOf r.port r.session).getD .opr) o = none ∧ o.accepts (o.ty.decode d) = false ∧ s.noWrite o p = false ∧ ((o.acc = .rwp → s.dict.persist.length < 2))) :=
  ⟨⟨(wSpi (wIn .ready)), wReq, 0x2001, 2, O.DEV_STATE, 0, by decide +kernel⟩,
   ⟨O.SPI_ENABLE, 1, by decide⟩,
   ⟨O.TORQUE_CMD, 0x7F800000, by decide⟩,
   ⟨O.CONFIG, 1, by decide⟩,
   ⟨(wSpi (wIn .ready)), wReqS, 0x2000, 10, O.CONFIG, 0, ([7]), by decide +kernel⟩⟩

/-- Each clause of VinLevelsActAsTable has a state that meets its hypotheses. -/
theorem witness_VinLevelsActAsTable :
  (∃ (s : State), s.sup.vinUp = false ∧ s.sup.hold.pin = false ∧ s.sup.thermal = false) ∧
  (∃ (s : State), s.sup.vinUp = true) ∧
  (∃ (s : State) (straps : BitVec 2), s.sup.vinUp = true ∧ s.sup.hold = ⟨true, false, false, false⟩) ∧
  (∃ (s : State), firstFault s .vinUv ∧ s.sup.vinUp = true) ∧
  (∃ (s : State) (mv : Nat), mv ≤ 45000 ∧ s.sys.dev.runs = true ∧ (FaultCode.vinHigh, 0) ∉ s.coll.conds ∧ s.sup.vinUp = true) ∧
  (∃ (s : State), s.sys.dev.runs = true ∧ soleCond s .vinHigh 0) ∧
  (∃ (s : State), s.sys.dev.runs = false ∧ s.sup.vinUp = true) ∧
  (∃ (s : State), s.sup.vinValid = false ∧ emptyColl s ∧ s.sup.vinHi = false ∧ s.sup.vinWarn = false) ∧
  (∃ (s : State), s.sys.dev.runs = true ∧ (FaultCode.vinWarnLow, 0) ∉ s.coll.conds ∧ s.sup.vinUp = true) ∧
  (∃ (s : State), s.sys.dev.runs = true ∧ soleCond s .vinWarnLow 0) :=
  ⟨⟨({ State.reset with sup := { State.resetSupply with vinUp := false, hold := ⟨true, false, false, false⟩ } }), by decide⟩,
   ⟨(wIn .run), by decide⟩,
   ⟨({ State.reset with sup := { State.resetSupply with hold := ⟨true, false, false, false⟩ } }), 0, by decide⟩,
   ⟨(wIn .run), by decide⟩,
   ⟨(wIn .run), 45000, by decide⟩,
   ⟨(wCond .vinHigh 0 (wIn .run)), by decide⟩,
   ⟨(wIn .boot), by decide⟩,
   ⟨({ wBare .selftest with sup := { (wBare .selftest).sup with vinValid := false } }), by decide⟩,
   ⟨(wIn .run), by decide⟩,
   ⟨(wCond .vinWarnLow 0 (wIn .run)), by decide⟩⟩

/-- Each clause of VinBeyondLimitStops has a state that meets its hypotheses. -/
theorem witness_VinBeyondLimitStops :
  (∃ (s : State) (mv : Nat), 45000 < mv) ∧
  (∃ (s : State) (mv : Nat), mv ≤ 45000) :=
  ⟨⟨State.reset, 45001, by decide⟩,
   ⟨(wIn .run), 45000, by decide⟩⟩

/-- Each clause of SupplyAndClockFailures has a state that meets its hypotheses. -/
theorem witness_SupplyAndClockFailures :
  (∃ (s : State), firstFault s .vddioFail ∧ s.get O.VDDIO_LEVEL ≠ 0) ∧
  (∃ (s : State), soleC3 s .vddioFail 0 ∧ s.sys.dev = .safeHold ∧ s.get O.VDDIO_LEVEL ≠ 0) ∧
  (∃ (s : State) (r : Rail), r ≠ .vsafe ∧ s.sup.asleep = 0 ∧ s.sup.vinUp = true ∧ s.sup.hold.por = false ∧ s.sup.romRunning = true ∧ calm s) ∧
  (∃ (s : State), s.sup.asleep = 0 ∧ s.sup.vinUp = true ∧ s.sup.hold.por = false) ∧
  (∃ (s : State) (d : ClockDomain) (dev : Int), bit (s.get O.CLOCK_STATUS) 0 = true ∧ 30 < absI dev ∧ d ∉ s.sup.clockDev ∧ d ≠ .safe ∧ d ≠ .aon) ∧
  (∃ (s : State) (d : ClockDomain) (dev : Int), bit (s.get O.CLOCK_STATUS) 0 = true ∧ absI dev ≤ 30 ∧ d ≠ .safe ∧ d ≠ .aon) ∧
  (∃ (s : State) (d : ClockDomain) (dev : Int), bit (s.get O.CLOCK_STATUS) 0 = true ∧ 30 < absI dev ∧ d ∈ s.sup.clockDev ∧ d ≠ .safe ∧ calm s) ∧
  (∃ (s : State) (p : Pll), bit (s.get O.CLOCK_STATUS) 0 = true ∧ calm s) ∧
  (∃ (s : State), bit (s.get O.CLOCK_STATUS) 8 = true ∧ calm s) :=
  ⟨⟨((wIn .run).set O.VDDIO_LEVEL 1), by decide⟩,
   ⟨(wHeld .vddioFail 3 0 ((wIn .safeHold).set O.VDDIO_LEVEL 2)), by decide⟩,
   ⟨(wIn .run), .vcore, by decide⟩,
   ⟨(wIn .run), by decide⟩,
   ⟨((wIn .run).set O.CLOCK_STATUS 0x1F7), .net, (-31), by decide⟩,
   ⟨((wIn .run).set O.CLOCK_STATUS 0x1F7), .net, 30, by decide⟩,
   ⟨({ (wIn .run).set O.CLOCK_STATUS 0x1F7 with sup := { (wIn .run).sup with clockDev := [.net] } }), .net, 31, by decide⟩,
   ⟨((wIn .run).set O.CLOCK_STATUS 1), .pllA, by decide⟩,
   ⟨((wIn .run).set O.CLOCK_STATUS 0x1F7), by decide⟩⟩

/-- Each clause of TemperatureMonitors has a state that meets its hypotheses. -/
theorem witness_TemperatureMonitors :
  (∃ (s : State) (c : Int), s.sys.dev.runs = true ∧ s.sup.tempFailed = [] ∧ -550 ≤ c ∧ c ≤ 2000 ∧ c < s.get O.TEMP_WARN - 50 ∧ c < s.get O.TEMP_DERATE - 50 ∧ soleCond s .tempWarn 0 ∧ ((∀ d, (FaultCode.tempDerate, d) ∉ s.coll.conds))) ∧
  (∃ (s : State) (code : Nat) (band : Nat), s.sys.dev.runs = true ∧ 0 < band ∧ (FaultCode.processBand, 0) ∉ s.coll.conds) ∧
  (∃ (s : State) (n : IslIx) (mw : Nat), 1500 ≤ mw ∧ (FaultCode.islPowerHigh, n.val) ∉ s.coll.conds) ∧
  (∃ (s : State) (n : IslIx) (mw : Nat), 1400 ≤ mw ∧ mw < 1500) ∧
  (∃ (s : State) (n : IslIx) (mw : Nat), mw < 1400 ∧ soleCond s .islPowerHigh n.val) ∧
  (∃ (s : State) (r : Req) (mask : Half), writeRuns s r O.RESET_CAUSE 0 mask.toNat) :=
  ⟨⟨(wCond .tempWarn 0 (wIn .run)), 1299, by decide, by decide, by decide, by decide, by decide, by decide, by decide, fun d h => by simp [wCond] at h⟩,
   ⟨(wIn .run), 700, 2, by decide⟩,
   ⟨(wIn .run), 3, 1500, by decide⟩,
   ⟨(wIn .run), 3, 1400, by decide⟩,
   ⟨(wCond .islPowerHigh 3 (wIn .run)), 3, 1399, by decide⟩,
   ⟨(wSpi (wIn .run)), wReq, 1, by decide⟩⟩

/-- Each clause of StartUpAttempts has a state that meets its hypotheses. -/
theorem witness_StartUpAttempts :
  (∃ (s : State) (xtal : Bool) (plls : Bool) (mv : Nat), s.sup.attempting = true) ∧
  (∃ (s : State) (plls : Bool) (mv : Nat), s.sup.attempting = true) ∧
  (∃ (s : State) (mv : Nat), s.sup.attempting = true) ∧
  (∃ (s : State) (mv : Nat), s.sup.attempting = true ∧ s.sup.xtalMissed = false ∧ ((2970 ≤ mv ∧ mv ≤ 3630 ∨ 4500 ≤ mv ∧ mv ≤ 5500))) ∧
  (∃ (s : State) (mv : Nat), s.sup.attempting = true ∧ s.sup.xtalMissed = false ∧ s.sys.dev = .boot ∧ emptyColl s ∧ s.recentRaises .vddioFail < 3 ∧ ((mv < 2970 ∨ 3630 < mv ∧ mv < 4500 ∨ 5500 < mv))) ∧
  (∃ (s : State), s.sup.attemptFailed.isSome = true) ∧
  (∃ (s : State) (ns : Nat), ns < 100) ∧
  (∃ (s : State) (ns : Nat), 1000 ≤ ns ∧ s.pins.resetN = true ∧ s.sup.vinUp = true ∧ s.sup.hold.por = false ∧ s.sup.asleep = 0) ∧
  (∃ (s : State) (ns : Nat), 100 ≤ ns ∧ ns < 1000 ∧ s.pins.resetN = true ∧ s.sup.vinUp = true ∧ s.sup.hold.por = false ∧ s.sup.asleep = 0) ∧
  (∃ (s : State) (straps : BitVec 2), s.pins.resetN = false ∧ s.sup.vinUp = true ∧ s.sup.asleep = 0 ∧ s.sup.hold = ⟨false, true, false, false⟩) ∧
  (∃ (s : State), s.sup.clearing = true) :=
  ⟨⟨State.reset, true, true, 3300, by decide⟩,
   ⟨State.reset, true, 3300, by decide⟩,
   ⟨State.reset, 3300, by decide⟩,
   ⟨State.reset, 3630, by decide⟩,
   ⟨State.reset, 3631, by decide⟩,
   ⟨({ State.reset with sup := { State.resetSupply with attempting := false, attemptFailed := some .rails } }), by decide⟩,
   ⟨(wIn .run), 99, by decide⟩,
   ⟨(wIn .run), 1000, by decide⟩,
   ⟨(wIn .run), 100, by decide⟩,
   ⟨({ wIn .boot with pins := { State.resetPins with resetN := false }, sup := { State.resetSupply with hold := ⟨false, true, false, false⟩ } }), 1, by decide⟩,
   ⟨({ State.reset with sup := { State.resetSupply with clearing := true } }), by decide⟩⟩

/-- Each clause of BootSelectsFirmware has a state that meets its hypotheses. -/
theorem witness_BootSelectsFirmware :
  (∃ (s : State) (k : FwSlot) (rest : List FwSlot) (f : FwSeen), s.sys.dev = .boot ∧ s.sup.romRunning = true ∧ s.sup.slotsLeft = k :: rest ∧ fwReason s.otp f = 0 ∧ f.helmetOk = true) ∧
  (∃ (s : State) (k : FwSlot) (rest : List FwSlot) (f : FwSeen), s.sys.dev = .boot ∧ s.sup.romRunning = true ∧ s.sup.slotsLeft = k :: rest ∧ fwReason s.otp f ≠ 0) ∧
  (∃ (s : State), s.sys.dev = .boot ∧ s.sup.romRunning = true ∧ s.sup.slotsLeft = [] ∧ s.sec.running = none) ∧
  (∃ (s : State) (bad : List Nat) (nvOk : Bool), s.sys.dev = .selftest ∧ s.sup.selftestDone = false) ∧
  (∃ (s : State), s.sys.dev = .selftest ∧ s.sup.selftestDone = true ∧ s.get O.SI_READY = 0 ∧ ((∀ e < 4, s.get O.ENABLE e = 0)) ∧ emptyColl s ∧ s.get O.CONTROL_WORD = 0) :=
  ⟨⟨({ State.reset with sup := { State.resetSupply with romRunning := true, slotsLeft := [.a, .b] } }), .a, ([.b]), (⟨true, 0, 0, 1, 1, true, true, true⟩), by decide⟩,
   ⟨({ State.reset with sup := { State.resetSupply with romRunning := true, slotsLeft := [.a, .b] } }), .a, ([.b]), (⟨false, 0, 0, 1, 1, true, true, true⟩), by decide⟩,
   ⟨({ State.reset with sup := { State.resetSupply with romRunning := true } }), by decide⟩,
   ⟨({ wBare .selftest with sup := { (wBare .selftest).sup with selftestDone := false } }), ([]), true, by decide⟩,
   ⟨(wNoSi (wBare .selftest)), by decide⟩⟩

/-- Each clause of IslandsStartAndVerify has a state that meets its hypotheses. -/
theorem witness_IslandsStartAndVerify :
  (∃ (s : State) (k : Fin 4), s.isl.length = 12 ∧ s.sup.readyPhase = .group k ∧ s.wantIslands = true) ∧
  (∃ (s : State) (k : Fin 4), s.sup.readyPhase = .group k ∧ s.sys.dev = .standby ∧ s.ctrlBit 0 = false) ∧
  (∃ (s : State) (n : IslIx), (s.island n).live = true ∧ ((s.sup.readyPhase ≠ .idle → s.wantIslands = true))) ∧
  (∃ (s : State) (n : IslIx) (m : VerifyMeas), (s.island n).step ∈ [1, 3, 4, 5, 6, 9] ∧ (s.island n).trained = true ∧ s.sup.readyPhase = .verify ∧ s.wantIslands = true ∧ (s.island n).verified = false ∧ m.ok = true) ∧
  (∃ (s : State) (n : IslIx) (m : VerifyMeas), 1 ≤ (s.island n).step ∧ (s.island n).step ≤ 10 ∧ (s.island n).trained = true ∧ s.sup.readyPhase = .verify ∧ s.sys.dev = .standby ∧ s.ctrlBit 0 = true ∧ emptyColl s ∧ m.ok = false) ∧
  (∃ (s : State) (t0 : Nat), s.sup.releaseFrom = some t0 ∧ s.sup.keepSupplies = true ∧ s.sys.dev = .standby ∧ t0 + 1000000 ≤ s.now) ∧
  (∃ (s : State) (t0 : Nat), s.sup.releaseFrom = some t0 ∧ s.now < t0 + 1000000) :=
  ⟨⟨({ (wBare .standby).set O.CONTROL_WORD 1 with sup := { (wBare .standby).sup with readyPhase := .group 3 } }), 3, by decide⟩,
   ⟨({ (wBare .standby) with sup := { (wBare .standby).sup with readyPhase := .group 0 } }), 0, by decide⟩,
   ⟨(wIn .ready), 4, by decide⟩,
   ⟨({ (wIn .standby).set O.CONTROL_WORD 1 with sup := { (wIn .standby).sup with readyPhase := .verify } }.updIsl 4 fun i => { i with verified := false, step := 9 }), 4, (⟨true, [], []⟩), by decide⟩,
   ⟨({ (wIn .standby).set O.CONTROL_WORD 1 with sup := { (wIn .standby).sup with readyPhase := .verify } }.updIsl 4 fun i => { i with verified := false, step := 10 }), 4, (⟨false, [], []⟩), by decide⟩,
   ⟨({ wIn .standby with now := 1000000, sup := { (wIn .standby).sup with keepSupplies := true, releaseFrom := some 0 } }), 0, by decide⟩,
   ⟨({ wIn .standby with now := 999999, sup := { (wIn .standby).sup with keepSupplies := true, releaseFrom := some 0 } }), 0, by decide⟩⟩

/-- Each clause of SleepWakeAndThermalShutdown has a state that meets its hypotheses. -/
theorem witness_SleepWakeAndThermalShutdown :
  (∃ (s : State) (d : Nat), s.sup.entering = some d ∧ s.dict.persist = [] ∧ s.spent (O.OP_TIME.key 0) = false) ∧
  (∃ (s : State) (d : Nat) (timer : Bool), s.sup.entering = some d ∧ s.sup.hold.none = true) ∧
  (∃ (s : State) (us : Nat) (straps : BitVec 2), us < 50) ∧
  (∃ (s : State) (us : Nat) (straps : BitVec 2), 50 ≤ us ∧ s.sup.asleep = 0) ∧
  (∃ (s : State) (us : Nat) (straps : BitVec 2), 50 ≤ us ∧ s.sup.asleep = 1 ∧ s.sup.hold.none = true) ∧
  (∃ (s : State) (us : Nat) (straps : BitVec 2), 50 ≤ us ∧ s.sup.asleep = 2 ∧ s.sup.hold.none = true) ∧
  (∃ (s : State) (straps : BitVec 2), s.sup.asleep = 1 ∧ s.sup.hold.none = true) ∧
  (∃ (s : State) (straps : BitVec 2), s.sup.asleep ≠ 1) ∧
  (∃ (s : State) (k : Fin 20), s.sup.thermal = false ∧ s.sup.vinUp = true ∧ s.sup.asleep = 0) ∧
  (∃ (s : State), s.sup.thermal = true ∧ s.sup.thermLatch = false ∧ s.sup.hold = ⟨false, false, true, false⟩) ∧
  (∃ (s : State), s.sup.thermLatch = true) :=
  ⟨⟨({ wIn .standby with sup := { (wIn .standby).sup with entering := some 1 } }), 1, by decide⟩,
   ⟨({ wIn .standby with sup := { (wIn .standby).sup with entering := some 0 } }), 0, false, by decide⟩,
   ⟨(wIn .sleep), 49, 0, by decide⟩,
   ⟨(wIn .standby), 50, 0, by decide⟩,
   ⟨({ wIn .sleep with sup := { (wIn .sleep).sup with asleep := 1 } }), 50, 0, by decide⟩,
   ⟨({ wIn .sleep with sup := { (wIn .sleep).sup with asleep := 2 } }), 50, 0, by decide⟩,
   ⟨({ wIn .sleep with sup := { (wIn .sleep).sup with asleep := 1 } }), 0, by decide⟩,
   ⟨({ wIn .sleep with sup := { (wIn .sleep).sup with asleep := 2 } }), 0, by decide⟩,
   ⟨(wIn .run), 7, by decide⟩,
   ⟨({ wBare .boot with sup := { (wBare .boot).sup with thermal := true, hold := ⟨false, false, true, false⟩ } }), by decide⟩,
   ⟨({ wBare .boot with sup := { (wBare .boot).sup with thermLatch := true } }), by decide⟩⟩

/-- Each clause of EdgeChannelSymbols has a state that meets its hypotheses. -/
theorem witness_EdgeChannelSymbols :
  (∃ (s : State) (n : IslIx), (s.island n).live = true ∧ (s.island n).cmd = false) ∧
  (∃ (s : State) (n : IslIx), (s.island n).live = true ∧ (s.island n).cmd = true ∧ s.cfg ≠ 0 ∧ ((∀ o ∈ (s.island n).outs, o.failed = false))) ∧
  (∃ (s : State) (n : IslIx), (s.island n).live = true ∧ (s.island n).cmd = true) ∧
  (∃ (s : State) (n : IslIx), (s.island n).live = true ∧ (s.island n).cmd = false ∧ s.cfg ≠ 0) ∧
  (∃ (s : State) (n : IslIx) (g : List Int), (s.island n).live = true ∧ (s.island n).verified = true ∧ (s.island n).row = 6 ∧ ((∀ o ∈ (s.island n).outs, o.failed = false))) ∧
  (∃ (s : State) (n : IslIx) (g : List Int), (s.island n).live = true ∧ (s.island n).verified = true ∧ (s.island n).row = 6 ∧ (s.island n).claim = .idle ∧ (s.island n).barred = false ∧ (s.island n).seesClaim = false) ∧
  (∃ (s : State) (n : IslIx), (s.island n).live = true ∧ (s.island n).verified = true ∧ (s.island n).row = 6 ∧ (s.island n).desatSent = true) ∧
  (∃ (s : State) (n : IslIx), (s.island n).live = true ∧ ((∀ o ∈ (s.island n).outs, o.probeDue = false))) ∧
  (∃ (s : State) (n : IslIx) (o : Out) (rest : List Out), (s.island n).live = true ∧ (s.island n).outs = o :: rest ∧ o.probeDue = true ∧ o.phase = .holdOff ∧ o.isolated = false) ∧
  (∃ (s : State) (n : IslIx), (s.island n).live = true) :=
  ⟨⟨(wIn .run), 2, by decide⟩,
   ⟨((wCfg 1 .run).updIsl 2 fun i => { i with cmd := true }), 2, by decide⟩,
   ⟨((wIn .run).updIsl 2 fun i => { i with cmd := true }), 2, by decide⟩,
   ⟨(wCfg 1 .run), 2, by decide⟩,
   ⟨(wOut 2 1 (fun o => { o with phase := .holdOn, gate := 180 }) ((wIn .run).updIsl 2 fun i => { i with cmd := true, claim := .granted })), 2, ([0, 180]), by decide⟩,
   ⟨((wIn .run).updIsl 2 fun i => { i with partners := [⟨3, true, false, true⟩] }), 2, ([0]), by decide⟩,
   ⟨(wOut 2 1 (fun o => { o with phase := .holdOn, gate := 180 }) ((wIn .run).updIsl 2 fun i => { i with cmd := true, claim := .granted, desatSent := true })), 2, by decide⟩,
   ⟨(wIn .run), 2, by decide⟩,
   ⟨(wOut 2 0 (fun o => { o with probeDue := true }) (wIn .run)), 2, ({ State.resetOut with probeDue := true }), ([State.resetOut, State.resetOut, State.resetOut]), by decide⟩,
   ⟨(wIn .run), 11, by decide⟩⟩

/-- Each clause of OutputPhasesAdvance has a state that meets its hypotheses. -/
theorem witness_OutputPhasesAdvance :
  (∃ (s : State) (n : IslIx) (k : OutIx) (o : Out), (s.island n).live = true ∧ (s.island n).verified = true ∧ (s.island n).row = 6 ∧ (s.island n).cmd = true ∧ (s.island n).claim = .window ∧ (s.island n).outs[k.val]? = some o ∧ o.phase = .preOn ∧ s.get O.PRE_END_ON n.val ≠ 0 ∧ o.gate < (s.levels n).preOn ∧ (s.levels n).preOn ≤ (s.levels n).platOn ∧ o.prof = none) ∧
  (∃ (s : State) (n : IslIx) (k : OutIx), (s.island n).live = true ∧ ((s.island n).outs.getD k.val State.resetOut).phase = .preOn ∧ s.get O.PRE_END_ON n.val = 0 ∧ ((s.island n).outs.getD k.val State.resetOut).prof = none) ∧
  (∃ (s : State) (n : IslIx) (k : OutIx) (o : Out) (q : Prof), (s.island n).live = true ∧ (s.island n).verified = true ∧ (s.island n).row = 6 ∧ (s.island n).cmd = true ∧ (s.island n).claim = .window ∧ (s.island n).outs[k.val]? = some o ∧ o.phase = .preOn ∧ o.prof = some q ∧ q.endOn ≠ 0 ∧ o.gate < q.preOn ∧ q.preOn ≤ q.platOn) ∧
  (∃ (s : State) (n : IslIx) (k : OutIx) (o : Out) (e : Nat), (s.island n).live = true ∧ (s.island n).verified = true ∧ (s.island n).row = 6 ∧ (s.island n).cmd = true ∧ (s.island n).claim = .window ∧ (s.island n).outs[k.val]? = some o ∧ o.phase = .slopeOn ∧ ((∀ d, (FaultCode.islSlopeTmo, d) ∉ s.coll.conds))) ∧
  (∃ (s : State) (n : IslIx) (k : OutIx) (o : Out) (e : Nat), (s.island n).live = true ∧ (s.island n).verified = true ∧ (s.island n).row = 6 ∧ (s.island n).cmd = false ∧ (s.island n).outs[k.val]? = some o ∧ o.phase = .slopeOff ∧ o.soft = false ∧ ((∀ d, (FaultCode.islSlopeTmo, d) ∉ s.coll.conds))) ∧
  (∃ (s : State) (n : IslIx) (k : OutIx) (o : Out) (e : Nat), (s.island n).live = true ∧ (s.island n).verified = true ∧ (s.island n).row = 6 ∧ (s.island n).cmd = false ∧ (s.island n).outs[k.val]? = some o ∧ o.phase = .slopeOff ∧ o.soft = true) ∧
  (∃ (s : State) (n : IslIx) (k : OutIx) (o : Out), (s.island n).live = true ∧ (s.island n).verified = true ∧ (s.island n).row = 6 ∧ (s.island n).cmd = true ∧ (s.island n).claim = .window ∧ (s.island n).outs[k.val]? = some o ∧ o.phase = .slopeOn ∧ o.tmoOn < 3 ∧ (FaultCode.islSlopeTmo, outDetail n k.val) ∉ s.coll.conds) ∧
  (∃ (s : State) (n : IslIx), (s.island n).live = true) ∧
  (∃ (s : State) (n : IslIx) (g : List Int), (s.island n).live = true) :=
  ⟨⟨(wOut 2 1 (fun o => { o with phase := .preOn, gate := 20 }) ((wIn .run).updIsl 2 fun i => { i with cmd := true, claim := .window })), 2, 1, ({ State.resetOut with phase := .preOn, gate := 20 }), by decide⟩,
   ⟨(wOut 2 1 (fun o => { o with phase := .preOn }) ((wIn .run).set O.PRE_END_ON 0 2)), 2, 1, by decide⟩,
   ⟨(wOut 2 1 (fun o => { o with phase := .preOn, gate := 20, prof := some ⟨40, 90, 120, 30, 1, 1⟩ }) ((wIn .run).updIsl 2 fun i => { i with cmd := true, claim := .window })), 2, 1, ({ State.resetOut with phase := .preOn, gate := 20, prof := some ⟨40, 90, 120, 30, 1, 1⟩ }), (⟨40, 90, 120, 30, 1, 1⟩), by decide⟩,
   ⟨(wOut 2 1 (fun o => { o with phase := .slopeOn, tmoOn := 2 }) ((wIn .run).updIsl 2 fun i => { i with cmd := true, claim := .window })), 2, 1, ({ State.resetOut with phase := .slopeOn, tmoOn := 2 }), 120, by decide, by decide, by decide, by decide, by decide, by decide, by decide, fun _ => List.not_mem_nil⟩,
   ⟨(wOut 2 1 (fun o => { o with phase := .slopeOff, tmoOff := 2 }) (wIn .run)), 2, 1, ({ State.resetOut with phase := .slopeOff, tmoOff := 2 }), 120, by decide, by decide, by decide, by decide, by decide, by decide, by decide, fun _ => List.not_mem_nil⟩,
   ⟨(wOut 2 1 (fun o => { o with phase := .slopeOff, soft := true, tmoOff := 2 }) (wIn .run)), 2, 1, ({ State.resetOut with phase := .slopeOff, soft := true, tmoOff := 2 }), 120, by decide⟩,
   ⟨(wOut 2 1 (fun o => { o with phase := .slopeOn, tmoOn := 2 }) ((wIn .run).updIsl 2 fun i => { i with cmd := true, claim := .window })), 2, 1, ({ State.resetOut with phase := .slopeOn, tmoOn := 2 }), by decide⟩,
   ⟨(wIn .run), 0, by decide⟩,
   ⟨(wIn .run), 0, ([5, 5, 5, 5]), by decide⟩⟩

/-- Each clause of InterlockClaims has a state that meets its hypotheses. -/
theorem witness_InterlockClaims :
  (∃ (s : State) (n : IslIx), (s.island n).live = true ∧ (s.island n).verified = true ∧ (s.island n).row = 6 ∧ (s.island n).cmd = true ∧ (s.island n).claim = .window ∧ (s.island n).partnersOff (s.cfg == 0) = true ∧ ((∀ d, (FaultCode.islIlkTmo, d) ∉ s.coll.conds))) ∧
  (∃ (s : State) (n : IslIx), (s.island n).live = true ∧ (s.island n).verified = true ∧ (s.island n).row = 6 ∧ (s.island n).cmd = true ∧ (s.island n).claim = .window ∧ (s.island n).partnersOff (s.cfg == 0) = false) ∧
  (∃ (s : State) (n : IslIx) (p : IslIx), (s.island n).live = true ∧ (s.island n).verified = true ∧ (s.island n).row = 6 ∧ (s.island n).cmd = true ∧ (s.island n).claim = .window ∧ ((∃ q ∈ (s.island n).partners, q.isl = p))) ∧
  (∃ (s : State) (n : IslIx) (p : IslIx) (v : Bool), (s.island n).live = true ∧ (s.island n).claim ≠ .waiting ∧ (s.island n).claim ≠ .late) ∧
  (∃ (s : State) (n : IslIx), (s.island n).live = true ∧ (s.island n).claim = .waiting) ∧
  (∃ (s : State) (n : IslIx) (p : IslIx), (s.island n).live = true) ∧
  (∃ (s : State) (n : IslIx), (s.island n).live = true ∧ ((∃ q ∈ (s.island n).partners, q.fresh = false))) ∧
  (∃ (s : State) (n : IslIx) (k : OutIx), (s.island n).live = true ∧ s.declared n k.val = true ∧ ((s.island n).outs.getD k.val State.resetOut).phase = .holdOff) :=
  ⟨⟨(((wIn .run).set O.DIE_DECL 3 2).updIsl 2 fun i => { i with cmd := true, claim := .window, partners := [⟨3, true, false, true⟩] }), 2, by decide, by decide, by decide, by decide, by decide, by decide, fun _ => List.not_mem_nil⟩,
   ⟨((wIn .run).updIsl 2 fun i => { i with cmd := true, claim := .window, partners := [⟨3, false, false, true⟩] }), 2, by decide⟩,
   ⟨((wIn .run).updIsl 2 fun i => { i with cmd := true, claim := .window, partners := [⟨3, true, false, true⟩] }), 2, 3, by decide⟩,
   ⟨((wIn .run).updIsl 2 fun i => { i with partners := [⟨3, true, false, true⟩] }), 2, 3, false, by decide⟩,
   ⟨((wIn .run).updIsl 2 fun i => { i with claim := .waiting }), 2, by decide⟩,
   ⟨((wIn .run).updIsl 2 fun i => { i with partners := [⟨3, true, false, true⟩] }), 2, 3, by decide⟩,
   ⟨((wIn .run).updIsl 2 fun i => { i with partners := [⟨3, true, false, false⟩] }), 2, by decide⟩,
   ⟨((wIn .run).set O.DIE_DECL 3 2), 2, 1, by decide⟩⟩

/-- Each clause of GateRailsAndBootstrap has a state that meets its hypotheses. -/
theorem witness_GateRailsAndBootstrap :
  (∃ (s : State) (n : IslIx), (s.island n).live = true ∧ (s.island n).verified = true) ∧
  (∃ (s : State) (n : IslIx), (s.island n).live = true) ∧
  (∃ (s : State) (n : IslIx) (vp : Int) (vn : Int), (s.island n).live = true ∧ (FaultCode.islRailDev, n.val) ∉ s.coll.conds ∧ railDevNow s n vp vn = true) ∧
  (∃ (s : State) (n : IslIx), (s.island n).live = true) ∧
  (∃ (s : State) (n : IslIx), n.low = false ∧ s.funcDecl n 3 = true ∧ (s.island n).supplyOn = true ∧ (s.island n).powered = true ∧ (s.island n).bootstrap = false ∧ s.sys.dev.runs = true ∧ (FaultCode.islOnBootstrap, n.val) ∉ s.coll.conds) ∧
  (∃ (s : State) (n : IslIx), (s.island n).bootstrap = true ∧ s.sys.dev.runs = true ∧ soleCond s .islOnBootstrap n.val) ∧
  (∃ (s : State) (n : IslIx), (s.island n).bootstrap = true ∧ s.sys.dev.runs = true ∧ (FaultCode.islBstLow, n.val) ∉ s.coll.conds) ∧
  (∃ (s : State) (n : IslIx), (s.island n).bootstrap = true ∧ s.sys.dev.runs = true ∧ soleCond s .islBstLow n.val) :=
  ⟨⟨(wOut 2 1 (fun o => { o with phase := .holdOn, gate := 180 }) (wIn .run)), 2, by decide⟩,
   ⟨((wIn .run).updIsl 2 fun i => { i with uvlo := true }), 2, by decide⟩,
   ⟨(wIn .run), 2, 1691, (-400), by decide⟩,
   ⟨(wOut 2 1 (fun o => { o with phase := .holdOn, gate := 180 }) ((wIn .run).updIsl 2 fun i => { i with epoch := 7, preRejected := 2 })), 2, by decide⟩,
   ⟨((wIn .run).set O.FUNC_DECL 8 2), 2, by decide⟩,
   ⟨(wCond .islOnBootstrap 2 (((wIn .run).set O.DEG_MODES 64).updIsl 2 fun i => { i with bootstrap := true, powered := false })), 2, by decide⟩,
   ⟨((wIn .run).updIsl 2 fun i => { i with bootstrap := true, powered := false }), 2, by decide⟩,
   ⟨(wCond .islBstLow 2 ((wIn .run).updIsl 2 fun i => { i with bootstrap := true, powered := false, bstLow := true })), 2, by decide⟩⟩

/-- Each clause of DesatSharingAndProbes has a state that meets its hypotheses. -/
theorem witness_DesatSharingAndProbes :
  (∃ (s : State) (n : IslIx), (s.island n).live = true ∧ s.funcDecl n 4 = true ∧ ((∃ o ∈ (s.island n).outs, o.phase.isOn = true))) ∧
  (∃ (s : State) (n : IslIx) (k : OutIx) (on : Bool) (raw : Int) (drop : Int), (s.island n).live = true ∧ s.qualifies n = false) ∧
  (∃ (s : State) (n : IslIx) (k : OutIx) (on : Bool) (raw : Int) (drop : Int) (o : Out), (s.island n).live = true ∧ s.qualifies n = true ∧ s.balRuns = true ∧ ((on = true ∨ (s.balDies n).length < 2)) ∧ (s.island n).outs[k.val]? = some o) ∧
  (∃ (s : State) (p : Fin 12), s.get O.BAL_ENABLE ≠ 1) ∧
  (∃ (s : State) (p : Fin 12), s.get O.BAL_ENABLE = 1 ∧ bit (s.get O.DEG_MODES) 0 = false ∧ s.sys.m0.inReset = false ∧ s.sys.m1.inReset = false ∧ s.getB O.ISOLATE_ENABLE = true ∧ 2 ≤ (s.balDies p).length ∧ s.isl.length = 12 ∧ ((∀ d ∈ s.balDies p, ∃ o, (s.island d.n).outs[d.k]? = some o ∧ 8 ≤ o.ktiOff.length))) ∧
  (∃ (s : State) (n : IslIx) (k : OutIx), s.getB O.PROBE_ENABLE = false) ∧
  (∃ (s : State) (n : IslIx) (k : OutIx) (o : Out), s.getB O.PROBE_ENABLE = true ∧ s.declared n k.val = true ∧ (s.island n).verified = true ∧ (s.island n).outs[k.val]? = some o ∧ o.isolated = false) ∧
  (∃ (s : State) (n : IslIx) (k : OutIx) (a : Int) (b : Int) (c : Int) (o : Out), (s.island n).outs[k.val]? = some o ∧ n.val < s.isl.length ∧ o.probing = true ∧ s.get O.RG_ALPHA (4 * n.val + k.val) = 0 ∧ 200 ≤ rgInt a b c (s.get O.R_GATE_EXT n.val) (s.get O.R_RETURN n.val) ∧ rgInt a b c (s.get O.R_GATE_EXT n.val) (s.get O.R_RETURN n.val) ≤ 50000) ∧
  (∃ (s : State) (r : Req) (n : IslIx) (rg : List Nat) (ntc : Int), writeRuns s r O.CAL_CMD n.val 1 ∧ (s.island n).verified = true) ∧
  (∃ (s : State) (r : Req) (n : IslIx) (rg : List Nat) (ntc : Int), writeRuns s r O.CAL_CMD n.val 2 ∧ (s.island n).verified = true ∧ absI (ntc - s.getStaged O.T_REF n.val) < 300) ∧
  (∃ (s : State) (r : Req) (n : IslIx) (rg : List Nat) (ntc : Int), writeRuns s r O.CAL_CMD n.val 2 ∧ (s.island n).verified = true ∧ 300 ≤ absI (ntc - s.getStaged O.T_REF n.val)) :=
  ⟨⟨(wOut 2 1 (fun o => { o with phase := .holdOn, gate := 180 }) ((wIn .run).set O.FUNC_DECL 16 2)), 2, by decide⟩,
   ⟨(wIn .run), 2, 3, true, 32768, 0, by decide⟩,
   ⟨({ wCfg 1 .run with fl := { State.resetField with iPhase := [0, 200, 0, 0, 0, 0] } }), 2, 3, false, (-32768), 0, State.resetOut, by decide⟩,
   ⟨((wIn .run).set O.BAL_ENABLE 0), 2, by decide⟩,
   ⟨(wOut 2 1 (fun o => { o with ktiOn := [(1, 1), (2, 2), (3, 3), (4, 4), (5, 5), (6, 6), (7, 7), (8, 8)], ktiOff := [(1, 1), (2, 2), (3, 3), (4, 4), (5, 5), (6, 6), (7, 7), (8, 8)] }) (wOut 2 0 (fun o => { o with ktiOn := [(1, 1), (2, 2), (3, 3), (4, 4), (5, 5), (6, 6), (7, 7), (8, 8)], ktiOff := [(1, 1), (2, 2), (3, 3), (4, 4), (5, 5), (6, 6), (7, 7), (8, 8)] }) ((wCfg 1 .run).set O.DIE_DECL 3 2))), 2, by decide⟩,
   ⟨((wIn .run).set O.PROBE_ENABLE 0), 2, 1, by decide⟩,
   ⟨((wIn .run).set O.DIE_DECL 3 2), 2, 1, State.resetOut, by decide⟩,
   ⟨(wOut 2 1 (fun o => { o with probing := true }) (wIn .run)), 2, 1, 0, 22000, 22000, ({ State.resetOut with probing := true }), by decide +kernel⟩,
   ⟨(wSpi ((wIn .ready).set O.DIE_DECL 3 2)), wReqS, 2, ([1500, 1600]), 251, by decide⟩,
   ⟨(wSpi ((wIn .ready).set O.DIE_DECL 3 2)), wReqS, 2, ([1500, 1600]), 549, by decide⟩,
   ⟨(wSpi ((wIn .ready).set O.DIE_DECL 3 2)), wReqS, 2, ([1500, 1600]), 550, by decide⟩⟩

/-- Each clause of RillysFramesAtTheIsland has a state that meets its hypotheses. -/
theorem witness_RillysFramesAtTheIsland :
  (∃ (s : State) (n : IslIx) (h : RillysHdr) (p : CmdPayload), downOk s n h) ∧
  (∃ (s : State) (n : IslIx) (h : RillysHdr), downOk s n h) ∧
  (∃ (s : State) (n : IslIx) (h : RillysHdr), downOk s n h) ∧
  (∃ (s : State) (n : IslIx) (h : RillysHdr) (p : CmdPayload), (s.island n).live = true ∧ (s.island n).trained = true ∧ h.crcOk = false) ∧
  (∃ (s : State) (n : IslIx) (h : RillysHdr), (s.island n).live = true ∧ (s.island n).trained = true ∧ hdrRepeat n (s.island n).down h = false ∧ hdrOk n (s.island n).down h = true ∧ (s.island n).epochOk h = false) ∧
  (∃ (s : State) (n : IslIx), (s.island n).live = true ∧ (s.island n).trained = true ∧ s.sys.dev.runs = true) ∧
  (∃ (s : State) (n : IslIx), (s.island n).live = true ∧ (s.island n).trained = true) ∧
  (∃ (s : State) (n : IslIx) (q : Half × BitVec 4), (s.island n).down.unacked = some q ∧ (s.island n).down.retried = false) ∧
  (∃ (s : State) (n : IslIx) (q : Half × BitVec 4), (s.island n).down.unacked = some q ∧ (s.island n).down.retried = true) :=
  ⟨⟨(wIn .run), 2, ({ wHdr 2 with epoch := 0 }), (⟨some 0x9#4, true, some 1, [100], true⟩), by decide⟩,
   ⟨(wIn .run), 2, ({ wHdr 2 with epoch := 0 }), by decide⟩,
   ⟨((wIn .run).updIsl 2 fun i => { i with token := false }), 2, (wHdr 2), by decide⟩,
   ⟨(wIn .run), 2, ({ wHdr 2 with crcOk := false }), (⟨none, false, none, [], false⟩), by decide⟩,
   ⟨(wIn .run), 2, (wHdr 2), by decide⟩,
   ⟨((wIn .run).updIsl 2 fun i => { i with downQ := [0x1#4, 0x2#4] }), 2, by decide⟩,
   ⟨((wIn .run).updIsl 2 fun i => { i with upQ := [0xA#4] }), 2, by decide⟩,
   ⟨((wIn .run).updIsl 2 fun i => { i with down := ⟨5, 4, some (5, 0x1#4), false, 0⟩ }), 2, ((5, 0x1#4)), by decide⟩,
   ⟨((wIn .run).updIsl 2 fun i => { i with down := ⟨5, 4, some (5, 0x1#4), true, 0⟩ }), 2, ((5, 0x1#4)), by decide⟩⟩

/-- Each clause of RillysFramesAtTheDie has a state that meets its hypotheses. -/
theorem witness_RillysFramesAtTheDie :
  (∃ (s : State) (n : IslIx) (h : RillysHdr) (crc : Word) (c : PendCommit), upOk s n h ∧ s.isl.length = 12 ∧ s.dict.commits = [c] ∧ c.wait = [n] ∧ crc = crc32 (Config.cfgImage c.vals) ∧ (FaultCode.islCfgMismatch, n.val) ∉ s.coll.conds) ∧
  (∃ (s : State) (n : IslIx) (h : RillysHdr) (crc : Word) (c : PendCommit), upOk s n h ∧ s.dict.commits = [c] ∧ c.wait = [n] ∧ c.retried = [] ∧ crc ≠ crc32 (Config.cfgImage c.vals)) ∧
  (∃ (s : State) (n : IslIx) (h : RillysHdr) (crc : Word) (c : PendCommit), upOk s n h ∧ s.dict.commits = [c] ∧ c.wait = [n] ∧ c.retried = [n] ∧ crc ≠ crc32 (Config.cfgImage c.vals) ∧ firstFault s .islCfgMismatch) ∧
  (∃ (s : State) (n : IslIx) (h : RillysHdr) (l : List Byte), upOk s n h ∧ firstFault s .islDesat) ∧
  (∃ (s : State) (n : IslIx) (h : RillysHdr) (code : BitVec 4) (l : List Byte), upOk s n h ∧ code ≠ 0x1#4) ∧
  (∃ (s : State) (n : IslIx) (h : RillysHdr) (a : Nat) (b : Nat), upOk s n h) ∧
  (∃ (s : State) (n : IslIx) (h : RillysHdr) (a : Nat) (b : Nat) (v0 : Int) (v1 : Int) (v2 : Int) (v3 : Int), upOk s n h ∧ s.getB O.ISOLATE_ENABLE = true) ∧
  (∃ (s : State) (n : IslIx) (h : RillysHdr) (w : DWord), upOk s n h ∧ (w.extractLsb' 26 2).toNat = 0 ∧ (w.extractLsb' 28 8).toNat = s.periodTag ∧ w.getLsbD 22 = false ∧ w.getLsbD 23 = false ∧ w.getLsbD 24 = false ∧ w.getLsbD 25 = false ∧ n.val / 2 < s.sense.smp.length ∧ ((∀ d, (FaultCode.snsOvr, d) ∉ s.coll.conds))) ∧
  (∃ (s : State) (n : IslIx), (s.island n).trained = true ∧ s.sys.dev.runs = false) ∧
  (∃ (s : State) (n : IslIx), (s.island n).trained = true ∧ firstFault s .islLinkLost ∧ s.mem.test = none) ∧
  (∃ (s : State) (n : IslIx), n.val < s.isl.length ∧ s.sys.dev.runs = true ∧ 16 < (s.island n).discards ∧ (FaultCode.islLinkErrRate, n.val) ∉ s.coll.conds) ∧
  (∃ (s : State) (n : IslIx), n.val < s.isl.length ∧ s.sys.dev.runs = true ∧ (s.island n).discards ≤ 16 ∧ soleCond s .islLinkErrRate n.val) :=
  ⟨⟨({ wIn .run with dict := { State.resetDict with commits := [⟨0x26270B, ⟨.spi, 0, 2, 1, 0, 0, 0⟩, [], [2, 3], [2], []⟩] } }), 2, (wHdr 2), (crc32 (Config.cfgImage [])), (⟨0x26270B, ⟨.spi, 0, 2, 1, 0, 0, 0⟩, [], [2, 3], [2], []⟩), ⟨by decide, by decide, by decide, by decide⟩, by decide, by decide, by decide, rfl, by decide⟩,
   ⟨({ wIn .run with dict := { State.resetDict with commits := [⟨0x26270B, ⟨.spi, 0, 2, 1, 0, 0, 0⟩, [], [2, 3], [2], []⟩] } }), 2, (wHdr 2), (~~~(crc32 (Config.cfgImage []))), (⟨0x26270B, ⟨.spi, 0, 2, 1, 0, 0, 0⟩, [], [2, 3], [2], []⟩), by decide, by decide, by decide, by decide, notSelf _⟩,
   ⟨({ wIn .run with dict := { State.resetDict with commits := [⟨0x26270B, ⟨.spi, 0, 2, 1, 0, 0, 0⟩, [], [2, 3], [2], [2]⟩] } }), 2, (wHdr 2), (~~~(crc32 (Config.cfgImage []))), (⟨0x26270B, ⟨.spi, 0, 2, 1, 0, 0, 0⟩, [], [2, 3], [2], [2]⟩), by decide, by decide, by decide, by decide, notSelf _, by decide⟩,
   ⟨(wIn .run), 2, (wHdr 2), ([]), by decide⟩,
   ⟨(wIn .run), 2, (wHdr 2), 0x2#4, ([]), by decide⟩,
   ⟨(wIn .run), 2, (wHdr 2), 120, 130, by decide⟩,
   ⟨(wIn .run), 2, (wHdr 2), 120, 130, 1800, 1600, 0, 0, by decide⟩,
   ⟨(wIn .run), 3, (wHdr 3), 0#64, by decide, by decide, by decide, by decide, by decide, by decide, by decide, by decide, fun _ => List.not_mem_nil⟩,
   ⟨(wIn .boot), 2, by decide⟩,
   ⟨(wIn .run), 2, by decide⟩,
   ⟨((wIn .run).updIsl 2 fun i => { i with discards := 17 }), 2, by decide⟩,
   ⟨(wCond .islLinkErrRate 2 ((wIn .run).updIsl 2 fun i => { i with discards := 16 })), 2, by decide⟩⟩

/-- Each clause of PreloadsAndPermit has a state that meets its hypotheses. -/
theorem witness_PreloadsAndPermit :
  (∃ (s : State) (n : IslIx), (s.island n).live = true) ∧
  (∃ (s : State) (n : IslIx) (w : Byte), (s.island n).live = true ∧ w.toNat / 64 + w.toNat / 16 % 4 = 3 ∧ (FaultCode.islPreloadStale, n.val) ∉ s.coll.conds) ∧
  (∃ (s : State) (n : IslIx) (w : Byte), (s.island n).live = true ∧ w.toNat / 64 + w.toNat / 16 % 4 ≠ 3) ∧
  (∃ (s : State) (n : IslIx), (s.island n).live = true ∧ s.sys.dev.runs = true ∧ (FaultCode.islPreloadStale, n.val) ∉ s.coll.conds) ∧
  (∃ (s : State), s.alive = true ∧ s.hlm.stopped = false) ∧
  (∃ (s : State) (ns : Nat), ns < 50) ∧
  (∃ (s : State) (ns : Nat), 200 ≤ ns ∧ s.pins.drvEn = true ∧ ((s.charger = false ∨ s.sys.dev ≠ .run))) ∧
  (∃ (s : State) (ns : Nat), 200 ≤ ns ∧ s.pins.drvEn = true ∧ s.charger = true ∧ s.sys.dev = .run) ∧
  (∃ (s : State) (ns : Nat), 50 ≤ ns ∧ ns < 200 ∧ s.pins.drvEn = true ∧ ((s.charger = false ∨ s.sys.dev ≠ .run))) ∧
  (∃ (s : State) (ns : Nat), s.pins.drvEn = false ∧ 10000 ≤ ns) ∧
  (∃ (s : State) (ns : Nat), s.pins.drvEn = false ∧ ns < 10000) :=
  ⟨⟨(wIn .run), 2, by decide⟩,
   ⟨(wIn .run), 2, 0x65#8, by decide⟩,
   ⟨(wIn .run), 2, 0x75#8, by decide⟩,
   ⟨(wIn .run), 2, by decide⟩,
   ⟨(wCfg 0 .run), by decide⟩,
   ⟨(wIn .run), 49, by decide⟩,
   ⟨(wIn .run), 200, by decide⟩,
   ⟨((wCfg 2 .run).set O.CHG_PHASE 7), 200, by decide⟩,
   ⟨(wIn .run), 199, by decide⟩,
   ⟨({ ((wIn .run).updIsl 2 fun i => { i with desatLatched := true }) with pins := { (wIn .run).pins with drvEn := false } }), 10000, by decide⟩,
   ⟨({ ((wIn .run).updIsl 2 fun i => { i with desatLatched := true }) with pins := { (wIn .run).pins with drvEn := false } }), 9999, by decide⟩⟩

/-- Each clause of HelmetStopsAndMainPairs has a state that meets its hypotheses. -/
theorem witness_HelmetStopsAndMainPairs :
  (∃ (s : State), s.alive = true ∧ s.hlm.stopped = false ∧ firstFault s .hlmLockstep) ∧
  (∃ (s : State), ((s.alive = false ∨ s.hlm.stopped = true))) ∧
  (∃ (s : State), s.sys.dev.runs = true ∧ s.hlm.stepCount ≠ s.hlm.mainSaw) ∧
  (∃ (s : State), s.hlm.stepCount = s.hlm.mainSaw ∧ firstFault s .hlmFault) ∧
  (∃ (s : State) (p : MainPair), s.alive = true ∧ s.sys.lastPairLost = false ∧ s.pair p = ⟨false, false, 0, false, none⟩ ∧ (s.pair (otherPair p)).lost = false ∧ (s.pair (otherPair p)).inReset = false ∧ emptyColl s ∧ ((s.sys.dev = .run ∨ s.sys.dev = .ready ∨ s.sys.dev = .standby)) ∧ s.charger = false) ∧
  (∃ (s : State) (p : MainPair), s.alive = true ∧ s.sys.lastPairLost = false ∧ s.pair p = ⟨false, false, 1, false, none⟩ ∧ s.pair (otherPair p) = ⟨false, false, 0, false, none⟩ ∧ emptyColl s ∧ ((s.sys.dev = .ready ∨ s.sys.dev = .standby)) ∧ ((∀ d, (FaultCode.mainLockstep, d) ∉ s.coll.conds))) ∧
  (∃ (s : State) (p : MainPair), (s.pair p).restarting = true ∧ (s.pair p).cause = some .mainLockstep ∧ s.pair (otherPair p) = ⟨false, false, 0, false, none⟩ ∧ s.coll.active = some ⟨.mainLockstep, 5, pairNum p⟩ ∧ s.coll.pend = none ∧ s.coll.overflow = false ∧ ((s.sys.dev = .ready ∨ s.sys.dev = .standby))) ∧
  (∃ (s : State) (p : MainPair), (s.pair p).restarting = true ∧ (s.pair p).cause = some .mainLockstep ∧ s.pair (otherPair p) = ⟨false, false, 0, false, none⟩ ∧ s.coll.active = some ⟨.mainLockstep, 5, pairNum p⟩ ∧ s.coll.pend = none ∧ s.coll.overflow = false ∧ ((s.sys.dev = .ready ∨ s.sys.dev = .standby))) ∧
  (∃ (s : State) (p : MainPair) (ok : Bool), (s.pair p).restarting = false) :=
  ⟨⟨(wIn .run), by decide⟩,
   ⟨({ wIn .run with hlm := { (wIn .run).hlm with stopped := true } }), by decide⟩,
   ⟨({ wIn .run with hlm := { (wIn .run).hlm with stepCount := 1 } }), by decide⟩,
   ⟨(wIn .run), by decide⟩,
   ⟨(wIn .run), .m0, by decide⟩,
   ⟨({ wIn .ready with sys := { (wIn .ready).sys with m0 := ⟨false, false, 1, false, none⟩ } }), .m0, by decide, by decide, by decide, by decide, by decide, by decide, fun _ => List.not_mem_nil⟩,
   ⟨(wHeld .mainLockstep 5 0 ({ wIn .ready with sys := { (wIn .ready).sys with m0 := ⟨true, true, 1, false, some .mainLockstep⟩, supervisor := .m1 } })), .m0, by decide⟩,
   ⟨(wHeld .mainLockstep 5 0 ({ wIn .ready with sys := { (wIn .ready).sys with m0 := ⟨true, true, 1, false, some .mainLockstep⟩, supervisor := .m1 } })), .m0, by decide⟩,
   ⟨(wIn .run), .m0, true, by decide⟩⟩

/-- Each clause of HelmetMonitorsAndFastFaults has a state that meets its hypotheses. -/
theorem witness_HelmetMonitorsAndFastFaults :
  (∃ (s : State), s.hlm.ascCheck = true ∧ s.hlm.stopped = false ∧ s.permitGone = true ∧ ((s.hlm.choice = .ascLow ∨ s.hlm.choice = .ascHigh)) ∧ s.charger = false ∧ firstFault s .ascFail) ∧
  (∃ (s : State) (c : BitVec 12), s.hlm.ascCheck = true ∧ s.hlm.stopped = false ∧ ((∀ b < s.bridges, s.ascOn c b = true))) ∧
  (∃ (s : State), s.alive = true ∧ s.hlm.stopped = false ∧ s.coll.cond .hlmMapFail = false ∧ firstFault s .hlmMapFail) ∧
  (∃ (s : State), s.alive = true ∧ s.hlm.stopped = false ∧ s.coll.cond .hlmMapFail = false) ∧
  (∃ (s : State) (m : Fin 2) (ok : Bool), s.sys.dev.runs = true ∧ s.hlm.stopped = false ∧ m.val ∉ s.machines ∧ s.forcedNow = false) ∧
  (∃ (s : State) (m : Fin 2) (since : Nat), s.hlm.stopped = false ∧ m.val ∈ s.machines ∧ s.forcedNow = false ∧ s.sys.tokenOn = false ∧ m.val < s.hlm.machines.length ∧ ((∀ l < s.links, s.vdcReads l = [])) ∧ bit (s.get O.POS_STATUS m.val) 9 = true ∧ ((∀ d, (FaultCode.hlmDiverseNone, d) ∉ s.coll.conds)) ∧ (FaultCode.hlmOverspeed, m.val) ∉ s.coll.conds ∧ firstFault s .hlmOverspeed ∧ (s.hlmMach m.val).overFrom = some since ∧ since + 1000 * s.getN O.N_FILT_H ≤ s.now ∧ (s.hlmMach m.val).nH = mkRat (s.get O.SPEED_DIVERSE m.val) 10 ∧ minQ (s.getQ O.N_MAX_SAFE) (divQ 180000 (s.get O.POLE_PAIRS m.val)) < absQ (s.hlmMach m.val).nH) ∧
  (∃ (s : State) (n : IslIx), s.alive = true ∧ (s.island n).live = true ∧ s.isl.length = 12) ∧
  (∃ (s : State) (n : IslIx), s.alive = true ∧ (s.island n).live = true ∧ firstFault s .islGateStuck) ∧
  (∃ (s : State) (n : IslIx) (c : BitVec 4) (f : FaultCode), s.alive = true ∧ (s.island n).live = true ∧ firstFault s f ∧ (c, f) ∈ [(0x3#4, FaultCode.islUvlo), (0x4#4, .shootConflict), (0x7#4, .islIlkTmo), (0x8#4, .islIlkLost), (0x9#4, .islEdgeLost)]) ∧
  (∃ (s : State) (n : IslIx), s.alive = true ∧ n.low = true ∧ s.islandsReady = true ∧ n.val < s.isl.length ∧ s.clamps[bridgeOf s.cfg n]? = some ⟨false, false, false, []⟩ ∧ (FaultCode.dcOv1, bridgeOf s.cfg n) ∉ s.coll.conds) ∧
  (∃ (s : State) (n : IslIx), s.alive = true ∧ (s.island n).live = true) ∧
  (∃ (s : State) (n : IslIx) (c : BitVec 4), s.alive = true ∧ (s.island n).live = true ∧ c ∈ [0x0#4, 0xB#4, 0xC#4, 0xD#4, 0xE#4]) ∧
  (∃ (s : State) (n : IslIx), s.alive = true ∧ (s.island n).live = true ∧ n.low = true ∧ s.sys.dev = .run ∧ s.traction = true ∧ firstFault s .dcUv) ∧
  (∃ (s : State) (n : IslIx), s.alive = true ∧ (s.island n).live = true ∧ s.sup.thermal = false ∧ s.sup.vinUp = true) :=
  ⟨⟨({ wCfg 1 .run with hlm := { (wIn .run).hlm with ascCheck := true, choice := .ascLow } }), by decide⟩,
   ⟨({ (wCfg 0 .run) with hlm := { (wIn .run).hlm with ascCheck := true, choice := .ascLow }, isl := List.replicate 12 { wIsl with safeApplied := true } }), 0xFFF#12, by decide⟩,
   ⟨(wIn .run), by decide⟩,
   ⟨(wIn .run), by decide⟩,
   ⟨(wCfg 2 .run), 0, true, by decide +kernel⟩,
   ⟨({ (((wCfg 0 .run).set O.POS_STATUS 512).set O.SPEED_DIVERSE 2000000).updIsl 1 (fun i => { i with verified := false }) |>.updIsl 3 (fun i => { i with verified := false }) with now := 100000, hlm := { (wIn .run).hlm with machines := [{ State.resetHlmMachine with overFrom := some 0, nH := 200000 }, State.resetHlmMachine] } }), 0, 0, by decide +kernel, by decide +kernel, by decide +kernel, by decide +kernel, by decide +kernel, by decide +kernel, by decide +kernel, fun _ => List.not_mem_nil, by decide +kernel, by decide +kernel, by decide +kernel, by decide +kernel, by decide +kernel, by decide +kernel⟩,
   ⟨(wCfg 0 .run), 2, by decide⟩,
   ⟨(wIn .run), 2, by decide⟩,
   ⟨(wIn .run), 2, 0x9#4, .islEdgeLost, by decide⟩,
   ⟨(wCfg 1 .run), 7, by decide⟩,
   ⟨(wIn .run), 2, by decide⟩,
   ⟨(wIn .run), 2, 0xE#4, by decide⟩,
   ⟨((wCfg 0 .run)), 3, by decide⟩,
   ⟨(wIn .run), 3, by decide⟩⟩

/-- Each clause of ConvertersSample has a state that meets its hypotheses. -/
theorem witness_ConvertersSample :
  (∃ (s : State) (pt : Fin 16) (g : Nat) (ain : Nat) (u : Nat), s.sys.dev.runs = true ∧ 2 ≤ pt.val ∧ s.lineInstant pt.val ≠ none ∧ u < s.sense.saru.length ∧ ((List.range 8).filter fun h => groupLine s.cfg s.inForce h == some pt.val) = [g] ∧ ((List.range 4).filter fun v => s.get O.REG_MODE v == 2 && s.get O.REG_TRIGGER v == pt.val) = [] ∧ s.placed s.inForce g = some [(ain, u)] ∧ ((∀ x ∈ s.sense.saru, x.jobs = [])) ∧ (s.saru u).moved = false ∧ (s.saru u).calRun = false ∧ s.get O.SARU_STATE u < 2) ∧
  (∃ (s : State) (pt : Fin 16) (g : Nat), s.sys.dev.runs = true ∧ 2 ≤ pt.val ∧ s.lineInstant pt.val ≠ none ∧ ((List.range 8).filter fun h => groupLine s.cfg s.inForce h == some pt.val) = [g] ∧ ((List.range 4).filter fun v => s.get O.REG_MODE v == 2 && s.get O.REG_TRIGGER v == pt.val) = [] ∧ ((∃ x ∈ s.sense.saru, ∃ j ∈ x.jobs, j.grp = some (g, 0))) ∧ (FaultCode.snsTrigOverrun, g) ∉ s.coll.conds) ∧
  (∃ (s : State) (u : Fin 4) (uv : Int) (g : Nat) (e : Nat) (ain : Nat) (tag : Nat) (tw : Bool) (rest : List Job), s.sys.dev.runs = true ∧ (s.saru u.val).calRun = false ∧ (s.saru u.val).jobs = ⟨some (g, e), ain, tag, tw⟩ :: rest ∧ 2 ≤ g ∧ s.refOk (s.get O.REF_SEL_SARU) = true ∧ (s.saru u.val).suspect = 0 ∧ (s.saru u.val).calDue = false ∧ (codeOf 16384 (mkRat uv 1000000) (refVolts (s.get O.REF_SEL_SARU))).2 = false ∧ (FaultCode.snsOvr, ain) ∉ s.coll.conds) ∧
  (∃ (s : State) (u : Fin 4) (uv : Int) (g : Nat) (e : Nat) (ain : Nat) (tag : Nat) (tw : Bool) (rest : List Job), s.sys.dev.runs = true ∧ (s.saru u.val).calRun = false ∧ (s.saru u.val).jobs = ⟨some (g, e), ain, tag, tw⟩ :: rest ∧ 2 ≤ g ∧ s.refOk (s.get O.REF_SEL_SARU) = true ∧ (s.saru u.val).suspect = 0 ∧ (s.saru u.val).calDue = false ∧ (codeOf 16384 (mkRat uv 1000000) (refVolts (s.get O.REF_SEL_SARU))).2 = true ∧ (FaultCode.snsOvr, ain) ∉ s.coll.conds) ∧
  (∃ (s : State) (u : Fin 4), s.sense.saru.length = 4 ∧ s.sys.dev.runs = true ∧ s.get O.REG_MODE u.val = 1 ∧ (s.saru u.val).calDue = false ∧ s.get O.SARU_STATE u.val = 0) ∧
  (∃ (s : State) (u : Fin 4), s.get O.REG_MODE u.val ≠ 1) ∧
  (∃ (s : State) (n : IslIx) (k : Nat) (a : Int) (b : Int), (s.island n).live = true ∧ n.low = true ∧ 1 ≤ k ∧ k ≤ (s.island n).offsets.length ∧ (s.conv n).calRun = false) ∧
  (∃ (s : State) (n : IslIx) (k : Nat) (a : Int) (b : Int), ((k = 0 ∨ (s.island n).offsets.length < k))) ∧
  (∃ (s : State) (n : IslIx) (a : Int) (b : Int), (s.island n).live = true ∧ (s.island n).verified = true ∧ n.low = true ∧ (s.conv n).calRun = false) ∧
  (∃ (s : State) (n : IslIx) (a : Int) (b : Int), (s.island n).live = true ∧ n.low = false) ∧
  (∃ (s : State) (n : IslIx) (r1 : Nat) (r2 : Nat), (s.island n).live = true ∧ s.funcDecl n 5 = false ∧ s.funcDecl n 6 = false) ∧
  (∃ (s : State) (n : IslIx) (r1 : Nat) (r2 : Nat), (s.island n).live = true ∧ s.funcDecl n 5 = true ∧ s.funcDecl n 6 = false) ∧
  (∃ (s : State) (n : IslIx), (s.island n).live = true ∧ n.low = true ∧ (s.conv n).hiInit = false) ∧
  (∃ (s : State) (n : IslIx), (s.island n).live = true ∧ n.low = true ∧ (s.conv n).loInit = false ∧ s.get O.DCW_LOW (n.val / 2) ≠ 0) ∧
  (∃ (s : State) (n : IslIx), (s.island n).live = true ∧ n.low = true ∧ (s.conv n).hiInit = true) ∧
  (∃ (s : State) (n : IslIx) (up : Bool), (s.island n).live = true ∧ n.low = true ∧ s.sense.conv.length = 6) :=
  ⟨⟨(((((wIn .run).set O.INJ_COUNT 1 2).set O.INJ_ENTRY 0xFF08 8).set O.INJ_TRIGGER 3 2).set O.PT_INSTANT 100 2), 3, 2, 8, 1, by decide⟩,
   ⟨({ ((((wIn .run).set O.INJ_COUNT 1 2).set O.INJ_ENTRY 0xFF08 8).set O.INJ_TRIGGER 3 2).set O.PT_INSTANT 100 2 with sense := { State.resetSense with saru := State.resetSense.saru.modify 1 fun x => { x with jobs := [⟨some (2, 0), 8, 5, false⟩] } } }), 3, 2, by decide⟩,
   ⟨({ (wIn .run).set O.REF_STATUS 7 with sense := { State.resetSense with saru := State.resetSense.saru.modify 1 fun x => { x with jobs := [⟨some (2, 0), 8, 5, false⟩] } } }), 1, 2500000, 2, 0, 8, 5, false, ([]), by decide +kernel⟩,
   ⟨({ (wIn .run).set O.REF_STATUS 7 with sense := { State.resetSense with saru := State.resetSense.saru.modify 1 fun x => { x with jobs := [⟨some (2, 0), 8, 5, false⟩] } } }), 1, 2510001, 2, 0, 8, 5, false, ([]), by decide +kernel⟩,
   ⟨((wIn .run).set O.REG_MODE 1 2), 2, by decide⟩,
   ⟨((wIn .run).set O.REG_MODE 0 2), 2, by decide⟩,
   ⟨((wIn .run).updIsl 3 fun i => { i with offsets := [100] }), 3, 1, 0, 1000, by decide⟩,
   ⟨((wIn .run).updIsl 3 fun i => { i with offsets := [100] }), 3, 2, 0, 1000, by decide⟩,
   ⟨((wIn .run).updIsl 3 fun i => { i with applyNext := true, staged := [(1, 2)] }), 3, 0, 1000, by decide⟩,
   ⟨((wIn .run).updIsl 2 fun i => { i with applyNext := true, staged := [(1, 2)] }), 2, 0, 1000, by decide⟩,
   ⟨(wIn .run), 3, 1000, 1000, by decide⟩,
   ⟨((wIn .run).set O.FUNC_DECL 0x20 3), 3, 1000, 1000, by decide⟩,
   ⟨({ wIn .run with sense := { State.resetSense with conv := State.resetSense.conv.modify 1 fun c => { c with hiInit := false, loInit := false } } }), 3, by decide⟩,
   ⟨({ ((wIn .run).set O.DCW_LOW 100 1) with sense := { State.resetSense with conv := State.resetSense.conv.modify 1 fun c => { c with hiInit := false, loInit := false } } }), 3, by decide⟩,
   ⟨(wIn .run), 3, by decide⟩,
   ⟨(wIn .run), 3, true, by decide⟩⟩

/-- Each clause of SensingMonitors has a state that meets its hypotheses. -/
theorem witness_SensingMonitors :
  (∃ (s : State) (u : Fin 8) (x : IcuSample), s.charger = false ∧ x.ovr = false ∧ (s.sense.icu.getD u.val State.resetIcu).suspect = false ∧ s.refOk (s.get O.REF_SEL_ICU) = true ∧ s.get O.WINDOW u.val ≠ 2 ∧ (FaultCode.snsOvr, 0x300 + 4 * u.val + s.getN O.SEQ_CH (4 * u.val + (s.sense.icu.getD u.val State.resetIcu).entry)) ∉ s.coll.conds ∧ u.val < s.sense.icu.length) ∧
  (∃ (s : State) (u : Fin 8) (x : IcuSample), s.charger = false ∧ x.ovr = false ∧ s.get O.WINDOW u.val = 2 ∧ (FaultCode.icuUntracked, u.val) ∉ s.coll.conds ∧ ((∀ d, (FaultCode.snsOvr, d) ∉ s.coll.conds))) ∧
  (∃ (s : State) (r : RefSel), s.sys.dev.runs = true ∧ s.get O.REF_SEL_CMP ≠ (refNum r : Nat)) ∧
  (∃ (s : State) (r : RefSel) (inRange : Bool), s.sys.dev.runs = true ∧ s.get O.REF_SEL_CMP ≠ (refNum r : Nat) ∧ s.get O.REF_SEL_SARU = (refNum r : Nat) ∧ s.sense.hadRef.getD (refNum r) false = true ∧ (FaultCode.snsRefFail, refNum r) ∉ s.coll.conds) ∧
  (∃ (s : State) (u : Fin 4), s.sys.dev.runs = true ∧ s.get O.SARU_STATE u.val = 0 ∧ s.fieldEntries u.val = [] ∧ (s.saru u.val).jobs = [] ∧ (s.saru u.val).calRun = false ∧ u.val < s.sense.saru.length) ∧
  (∃ (s : State) (u : Fin 4), s.get O.SARU_STATE u.val = 3) ∧
  (∃ (s : State) (n : IslIx), s.sys.dev.runs = true ∧ n.low = true ∧ (s.island n).live = true ∧ (s.conv n).bad = false ∧ s.sense.conv.length = 6) ∧
  (∃ (s : State) (u : Fin 4) (a : Int) (b : Int), (s.saru u.val).calRun = true ∧ calBad a b = false ∧ (FaultCode.calStarved, u.val) ∉ s.coll.conds) ∧
  (∃ (s : State) (u : Fin 4) (a : Int) (b : Int), (s.saru u.val).calRun = true ∧ calBad a b = true ∧ s.mem.test = none ∧ (FaultCode.calStarved, u.val) ∉ s.coll.conds ∧ (FaultCode.snsCalFail, u.val) ∉ s.coll.conds) ∧
  (∃ (s : State) (n : IslIx) (a : Int) (b : Int), (s.conv n).calRun = true ∧ (FaultCode.calStarved, 0x100 + n.val) ∉ s.coll.conds ∧ (FaultCode.snsCalFail, 0x100 + n.val) ∉ s.coll.conds) ∧
  (∃ (s : State) (r : Req) (u : Fin 4), writeRuns s r O.CAL_REQUEST 0 (2 ^ u.val : Nat) ∧ s.get O.SARU_STATE u.val = 0 ∧ s.fieldEntries u.val = [] ∧ (s.saru u.val).jobs = [] ∧ (s.saru u.val).calRun = false ∧ u.val < s.sense.saru.length) ∧
  (∃ (s : State) (c : Fin 16), s.sys.dev.runs = true ∧ bit (s.get O.CMP_LEVEL) c.val = false ∧ s.winOn (c.val / 2) = false ∧ s.get O.ACTION c.val = 0) ∧
  (∃ (s : State) (c : Fin 16), s.sys.dev.runs = true ∧ bit (s.get O.CMP_LEVEL) c.val = false ∧ bit (s.get O.CMP_BAND_INIT) c.val = false ∧ s.winOn (c.val / 2) = false ∧ s.get O.ACTION c.val = 1 ∧ (FaultCode.cmpNote, c.val) ∉ s.coll.conds) ∧
  (∃ (s : State) (c : Fin 16), firstFault s .cmpSafe ∧ bit (s.get O.CMP_LEVEL) c.val = false ∧ bit (s.get O.CMP_BAND_INIT) c.val = false ∧ s.winOn (c.val / 2) = false ∧ s.get O.ACTION c.val = 2) ∧
  (∃ (s : State) (c : Fin 16), firstFault s .cmpLatch ∧ bit (s.get O.CMP_LEVEL) c.val = false ∧ bit (s.get O.CMP_BAND_INIT) c.val = false ∧ s.winOn (c.val / 2) = false ∧ s.get O.ACTION c.val = 3) ∧
  (∃ (s : State) (c : Fin 16), s.sys.dev.runs = true ∧ s.refOk (s.get O.REF_SEL_CMP) = true ∧ bit (s.get O.CMP_LEVEL) c.val = true ∧ s.winOn (c.val / 2) = false ∧ soleCond s .cmpNote c.val ∧ (FaultCode.cmpLatch, c.val) ∉ s.coll.conds) ∧
  (∃ (s : State) (c : Fin 16), s.refOk (s.get O.REF_SEL_CMP) = false) :=
  ⟨⟨((wIn .run).set O.REF_STATUS 7), 1, (⟨1000000, false, 5, 6, 7⟩), by decide⟩,
   ⟨((wIn .run).set O.WINDOW 2 3), 3, (⟨1000000, false, 5, 6, 7⟩), by decide, by decide, by decide, by decide, fun _ => List.not_mem_nil⟩,
   ⟨((wIn .run).set O.REF_SEL_CMP 1), .internal, by decide⟩,
   ⟨({ ((wIn .run).set O.REF_SEL_CMP 1).set O.REF_STATUS 1 with sense := { State.resetSense with hadRef := [true, false, false] } }), .internal, true, by decide⟩,
   ⟨(((wIn .run).set O.ILINE_AIN 255 0).set O.ILINE_AIN 255 1 |>.set O.ILINE_AIN 255 2), 2, by decide⟩,
   ⟨((wIn .run).set O.SARU_STATE 3 2), 2, by decide⟩,
   ⟨(wIn .run), 3, by decide⟩,
   ⟨({ wIn .run with sense := { State.resetSense with saru := State.resetSense.saru.modify 2 fun x => { x with calRun := true, calDue := true } } }), 2, 64, (-100), by decide⟩,
   ⟨({ wIn .run with sense := { State.resetSense with saru := State.resetSense.saru.modify 2 fun x => { x with calRun := true, calDue := true } } }), 2, 65, (-100), by decide⟩,
   ⟨({ wIn .run with sense := { State.resetSense with conv := State.resetSense.conv.modify 1 fun c => { c with calRun := true } } }), 3, 0, 101, by decide⟩,
   ⟨(wSpi ((((wIn .run).set O.ILINE_AIN 255 0).set O.ILINE_AIN 255 1).set O.ILINE_AIN 255 2)), wReqS, 2, by decide⟩,
   ⟨((((wIn .run).set O.CMP_LEVEL 0).set O.CMP_BAND_INIT 0).set O.ACTION 0 3), 3, by decide⟩,
   ⟨((((wIn .run).set O.CMP_LEVEL 0).set O.CMP_BAND_INIT 0).set O.ACTION 1 3), 3, by decide⟩,
   ⟨((((wIn .run).set O.CMP_LEVEL 0).set O.CMP_BAND_INIT 0).set O.ACTION 2 3), 3, by decide⟩,
   ⟨((((wIn .run).set O.CMP_LEVEL 0).set O.CMP_BAND_INIT 0).set O.ACTION 3 3), 3, by decide⟩,
   ⟨(wCond .cmpNote 3 ((((wIn .run).set O.ACTION 1 3).set O.REF_STATUS 7).set O.CMP_LEVEL 8)), 3, by decide⟩,
   ⟨(wIn .run), 3, by decide⟩⟩

/-- Each clause of EncoderAndHallCount has a state that meets its hypotheses. -/
theorem witness_EncoderAndHallCount :
  (∃ (s : State) (a : Bool) (b : Bool), s.sys.dev.runs = true ∧ s.getB O.ENC_SWAP = false ∧ s.get O.INDEX_MODE ≠ 1 ∧ s.encMain 0 = false ∧ s.encMain 1 = false ∧ (quad a b + 4 - quad s.pos.enc.a s.pos.enc.b) % 4 = 1 ∧ s.pos.enc.r = s.pos.enc.c) ∧
  (∃ (s : State) (a : Bool) (b : Bool), s.sys.dev.runs = true ∧ s.getB O.ENC_SWAP = false ∧ (quad a b + 4 - quad s.pos.enc.a s.pos.enc.b) % 4 = 3 ∧ s.pos.enc.r = s.pos.enc.c) ∧
  (∃ (s : State) (a : Bool) (b : Bool), s.sys.dev.runs = true ∧ s.getB O.ENC_SWAP = true ∧ quad b a = quad s.pos.enc.a s.pos.enc.b) ∧
  (∃ (s : State) (a : Bool) (b : Bool), s.sys.dev.runs = true ∧ s.getB O.ENC_SWAP = false ∧ (quad a b + 4 - quad s.pos.enc.a s.pos.enc.b) % 4 = 2 ∧ ((s.pos.enc.bad = [] ∨ s.pos.enc.failed = true)) ∧ (FaultCode.encIllegal, s.sensorDetail 1) ∉ s.coll.conds) ∧
  (∃ (s : State) (a : Bool) (b : Bool) (x : Int) (y : Int), s.sys.dev.runs = true ∧ s.getB O.ENC_SWAP = false ∧ (quad a b + 4 - quad s.pos.enc.a s.pos.enc.b) % 4 = 2 ∧ s.pos.enc.bad = [x, y] ∧ absI (s.pos.enc.r - x) < s.cpr ∧ absI (s.pos.enc.r - y) < s.cpr ∧ s.pos.enc.failed = false ∧ s.servedBy 1 = none ∧ (FaultCode.encFail, s.sensorDetail 1) ∉ s.coll.conds) ∧
  (∃ (s : State), s.get O.INDEX_MODE ≠ 1) ∧
  (∃ (s : State), s.sys.dev.runs = true ∧ s.get O.INDEX_MODE = 1 ∧ s.pos.enc.referenced = false ∧ s.servedBy 1 = none ∧ s.sensorAngle 0 = none ∧ s.pos.enc.uncertain = false ∧ (FaultCode.encIndexMissing, s.sensorDetail 1) ∉ s.coll.conds ∧ s.src 0 ≠ 1) ∧
  (∃ (s : State), s.sys.dev.runs = true ∧ s.get O.INDEX_MODE = 1 ∧ s.pos.enc.referenced = true ∧ s.pos.enc.uncertain = false ∧ absI (wrapN s.cpr (s.pos.enc.c - s.get O.INDEX_POS)) ≤ 1 ∧ (FaultCode.encIndexMissing, s.sensorDetail 1) ∉ s.coll.conds ∧ (FaultCode.encIndexDev, s.sensorDetail 1) ∉ s.coll.conds) ∧
  (∃ (s : State), s.sys.dev.runs = true ∧ s.get O.INDEX_MODE = 1 ∧ s.pos.enc.referenced = true ∧ s.pos.enc.uncertain = false ∧ s.pos.enc.bad = [] ∧ 1 < absI (wrapN s.cpr (s.pos.enc.c - s.get O.INDEX_POS)) ∧ (FaultCode.encIndexMissing, s.sensorDetail 1) ∉ s.coll.conds ∧ (FaultCode.encIndexDev, s.sensorDetail 1) ∉ s.coll.conds) ∧
  (∃ (s : State), s.sys.dev.runs = true ∧ s.pos.enc.failed = false ∧ s.servedBy 1 = none ∧ (FaultCode.encFail, s.sensorDetail 1) ∉ s.coll.conds) ∧
  (∃ (s : State), s.pos.enc.failed = true) ∧
  (∃ (s : State) (code : BitVec 3) (k : Nat), s.sys.dev.runs = true ∧ hallSector code = some k ∧ s.pos.hall.sector = some ((k + 5) % 6)) ∧
  (∃ (s : State) (code : BitVec 3) (k : Nat), s.sys.dev.runs = true ∧ hallSector code = some k ∧ s.pos.hall.sector = some ((k + 1) % 6)) ∧
  (∃ (s : State) (code : BitVec 3), s.sys.dev.runs = true ∧ (FaultCode.hallNoise, s.sensorDetail 2) ∉ s.coll.conds) ∧
  (∃ (s : State) (code : BitVec 3), s.sys.dev.runs = true ∧ hallSector code = none ∧ s.pos.hall.bad = [] ∧ (FaultCode.hallIllegal, s.sensorDetail 2) ∉ s.coll.conds) ∧
  (∃ (s : State), s.sys.dev.runs = true ∧ ((s.get O.HALL_STATE = 0 ∨ s.get O.HALL_STATE = 7)) ∧ s.pos.hall.failed = false ∧ s.servedBy 2 = none ∧ (FaultCode.hallFail, s.sensorDetail 2) ∉ s.coll.conds) ∧
  (∃ (s : State), s.get O.HALL_STATE ≠ 0 ∧ s.get O.HALL_STATE ≠ 7) :=
  ⟨⟨({ wIn .run with pos := { State.resetPosition with enc := { State.resetEnc with c := 4095, r := 4095 } } }), true, false, by decide⟩,
   ⟨({ wIn .run with pos := { State.resetPosition with enc := { State.resetEnc with c := 4096, r := 4096 } } }), false, true, by decide⟩,
   ⟨((wIn .run).set O.ENC_SWAP 1), false, false, by decide⟩,
   ⟨({ wIn .run with pos := { State.resetPosition with enc := { State.resetEnc with c := 7, r := 7 } } }), true, true, by decide⟩,
   ⟨({ wIn .run with pos := { State.resetPosition with enc := { State.resetEnc with bad := [0, 4095], r := 100 } } }), true, true, 0, 4095, by decide⟩,
   ⟨(wIn .run), by decide⟩,
   ⟨({ (wIn .run).set O.INDEX_MODE 1 with pos := { State.resetPosition with enc := { State.resetEnc with c := 4100, r := 4100 } } }), by decide⟩,
   ⟨({ (wIn .run).set O.INDEX_MODE 1 with pos := { State.resetPosition with enc := { State.resetEnc with c := 4097, r := 4097, referenced := true } } }), by decide⟩,
   ⟨({ (wIn .run).set O.INDEX_MODE 1 with pos := { State.resetPosition with enc := { State.resetEnc with c := 4098, r := 4098, referenced := true } } }), by decide⟩,
   ⟨(wIn .run), by decide⟩,
   ⟨({ wIn .run with pos := { State.resetPosition with enc := { State.resetEnc with failed := true } } }), by decide⟩,
   ⟨({ wIn .run with pos := { State.resetPosition with hall := { State.resetHall with sector := some 5 } } }), 1, 0, by decide⟩,
   ⟨({ wIn .run with pos := { State.resetPosition with hall := { State.resetHall with sector := some 0 } } }), 5, 5, by decide⟩,
   ⟨(wIn .run), 5, by decide⟩,
   ⟨({ wIn .run with pos := { State.resetPosition with hall := { State.resetHall with sector := some 0 } } }), 7, by decide⟩,
   ⟨(wIn .run), by decide⟩,
   ⟨((wIn .run).set O.HALL_STATE 3), by decide⟩⟩

/-- Each clause of ResolverSentAndSsiInputs has a state that meets its hypotheses. -/
theorem witness_ResolverSentAndSsiInputs :
  (∃ (s : State) (amp : Nat) (th : Nat) (te : Int), s.sys.dev.runs = true ∧ s.getN O.RES_AMP_NOM ≤ 2 * amp ∧ 2 * amp ≤ 3 * s.getN O.RES_AMP_NOM) ∧
  (∃ (s : State) (amp : Nat) (th : Nat) (te : Int), s.sys.dev.runs = true ∧ ((2 * amp < s.getN O.RES_AMP_NOM ∨ 3 * s.getN O.RES_AMP_NOM < 2 * amp)) ∧ s.pos.res.ampRun = 0) ∧
  (∃ (s : State) (amp : Nat) (th : Nat) (te : Int), s.sys.dev.runs = true ∧ ((2 * amp < s.getN O.RES_AMP_NOM ∨ 3 * s.getN O.RES_AMP_NOM < 2 * amp)) ∧ 1 ≤ s.pos.res.ampRun ∧ s.pos.res.failed = false ∧ s.servedBy 3 = none ∧ (FaultCode.resLos, s.sensorDetail 3) ∉ s.coll.conds) ∧
  (∃ (s : State) (amp : Nat) (th : Nat) (te : Int), s.sys.dev.runs = true ∧ s.pos.res.failed = false ∧ s.servedBy 3 = none ∧ (FaultCode.resExcFail, s.sensorDetail 3) ∉ s.coll.conds) ∧
  (∃ (s : State) (k : Fin 2) (f : SentFrame), s.sys.dev.runs = true ∧ k.val < s.pos.sent.length ∧ sentOk (s.getN O.SENT_TICK k.val) (s.pos.sent.getD k.val State.resetSerial).lastCal f = true ∧ (s.pos.sent.getD k.val State.resetSerial).good < 99) ∧
  (∃ (s : State) (k : Fin 2) (f : SentFrame), s.sys.dev.runs = true ∧ sentOk (s.getN O.SENT_TICK k.val) (s.pos.sent.getD k.val State.resetSerial).lastCal f = false ∧ (FaultCode.sentErr, s.sensorDetail (4 + k.val)) ∉ s.coll.conds) ∧
  (∃ (s : State) (k : Fin 2), s.sys.dev.runs = true ∧ (s.pos.sent.getD k.val State.resetSerial).failed = false ∧ s.servedBy (4 + k.val) = some 0 ∧ s.chanOn 0 = false ∧ k.val < s.pos.sent.length ∧ (FaultCode.sentFail, s.sensorDetail (4 + k.val)) ∉ s.coll.conds) ∧
  (∃ (s : State) (k : Fin 2), s.servedBy (4 + k.val) = none) ∧
  (∃ (s : State) (f : SsiFrame), s.sys.dev.runs = true ∧ f.idleHigh = true ∧ s.get O.SSI_ERR_BIT = 255 ∧ s.getB O.SSI_DOUBLE = false ∧ s.pos.ssi.good < 99) ∧
  (∃ (s : State) (f : SsiFrame), s.sys.dev.runs = true ∧ f.idleHigh = false ∧ s.pos.ssi.bad < 2 ∧ (FaultCode.ssiErr, s.sensorDetail 6) ∉ s.coll.conds) ∧
  (∃ (s : State) (f : SsiFrame), s.sys.dev.runs = true ∧ f.idleHigh = true ∧ s.getB O.SSI_DOUBLE = true ∧ f.word.toNat % 2 ^ s.getN O.SSI_BITS ≠ f.copy.toNat % 2 ^ s.getN O.SSI_BITS ∧ 2 ≤ s.pos.ssi.bad ∧ s.pos.ssi.failed = false ∧ s.servedBy 6 = none ∧ (FaultCode.ssiFail, s.sensorDetail 6) ∉ s.coll.conds) :=
  ⟨⟨({ wIn .run with pos := { State.resetPosition with res := { State.resetPosition.res with ampRun := 1, valid := true } } }), 1500, 70000, 3, by decide⟩,
   ⟨({ wIn .run with pos := { State.resetPosition with res := { State.resetPosition.res with valid := true } } }), 499, 70000, 3, by decide⟩,
   ⟨({ wIn .run with pos := { State.resetPosition with res := { State.resetPosition.res with valid := true, ampRun := 1 } } }), 1501, 70000, 3, by decide⟩,
   ⟨({ wIn .run with pos := { State.resetPosition with res := { State.resetPosition.res with valid := true } } }), 1000, 70000, 3, by decide⟩,
   ⟨(wIn .run), 1, (⟨33600, [20, 20], true, 3, 0x123456, some 7⟩), by decide⟩,
   ⟨(wIn .run), 1, (⟨44800, [20, 28], true, 3, 0x123456, none⟩), by decide⟩,
   ⟨(((wCfg 2 .run).set O.SENSOR_SRC 5 0).set O.CONFIG_ACTIVE 2), 1, by decide⟩,
   ⟨(wIn .run), 0, by decide⟩,
   ⟨(wIn .run), (⟨true, 0x1234567#32, 0#32⟩), by decide⟩,
   ⟨({ wIn .run with pos := { State.resetPosition with ssi := { State.resetSerial with bad := 1 } } }), (⟨false, 0x1234567#32, 0#32⟩), by decide⟩,
   ⟨({ (wIn .run).set O.SSI_DOUBLE 1 with pos := { State.resetPosition with ssi := { State.resetSerial with bad := 2 } } }), (⟨true, 0x1234567#32, 0#32⟩), by decide⟩⟩

/-- Each clause of StartsCatchesAndCompares has a state that meets its hypotheses. -/
theorem witness_StartsCatchesAndCompares :
  (∃ (s : State) (ch : Fin 2) (m : SsMeas), (s.chan ch.val).start ≠ .standstill) ∧
  (∃ (s : State) (ch : Fin 2) (m : SsMeas), (s.chan ch.val).start = .standstill ∧ s.sys.dev = .ready ∧ s.sys.flying = false ∧ s.disch.windings = false ∧ s.coll.cond .rotorLost = false ∧ (FaultCode.ssFail, 256 * ch.val) ∉ s.coll.conds ∧ (FaultCode.rotorLost, 256 * ch.val) ∉ s.coll.conds ∧ s.src ch.val ≠ 1 ∧ s.cfg ≠ 1 ∧ s.isSynRel 0 = true ∧ ch.val < s.pos.chans.length) ∧
  (∃ (s : State) (ch : Fin 2), (s.chan ch.val).obsLost = true ∧ (s.chan ch.val).fallback = .none ∧ soleCond s .obsLost (256 * ch.val) ∧ ch.val < s.pos.chans.length) ∧
  (∃ (s : State) (ch : Fin 2), (s.chan ch.val).obsLost = false) ∧
  (∃ (s : State) (ch : Fin 2), (((s.chan ch.val).start ≠ .again ∨ s.chanOn ch.val = false))) ∧
  (∃ (s : State) (ch : Fin 2), (s.chan ch.val).start = .again ∧ s.chanOn ch.val = true ∧ (s.chan ch.val).tries = [] ∧ s.healthy ch.val = true ∧ s.src ch.val ≠ 1 ∧ ch.val < s.pos.chans.length) ∧
  (∃ (s : State) (ch : Fin 2), (s.chan ch.val).start = .again ∧ s.chanOn ch.val = true ∧ (s.chan ch.val).tries = [] ∧ s.healthy ch.val = false ∧ (s.chan ch.val).est = false ∧ s.hlm.choice = .freewheel ∧ s.isSynRel (if s.cfg = 1 ∧ s.get O.ARRANGEMENT = 0 then ch.val else 0) = false ∧ s.sys.dev = .safeHold ∧ ch.val < s.pos.chans.length) ∧
  (∃ (s : State) (ch : Fin 2) (x : Nat) (y : Nat) (z : Nat), (s.chan ch.val).start = .again ∧ s.chanOn ch.val = true ∧ (s.chan ch.val).tries = [x, y, z] ∧ s.now < x + 2000000 ∧ s.now < y + 2000000 ∧ s.now < z + 2000000 ∧ firstFault s .flyCatchFail) ∧
  (∃ (s : State) (ch : Fin 2) (l : List Nat) (a : Nat) (e : Int), (s.chan ch.val).start = .pulses l ∧ l.length < 2 ∧ ch.val < s.pos.chans.length) ∧
  (∃ (s : State) (ch : Fin 2) (x : Nat) (y : Nat) (a : Nat) (e : Int), (s.chan ch.val).start = .pulses [x, y] ∧ mkRat (absI e) 5 < absQ (divQ (mkRat (wrapA ((a % 65536 : Nat) - (x : Int)) * 6000000) 65536) (s.get O.POLE_PAIRS ch.val) - e) ∧ ch.val < s.pos.chans.length) ∧
  (∃ (s : State) (ch : Fin 2) (a : Nat) (e : Int), (s.chan ch.val).start = .none) ∧
  (∃ (s : State) (ch : Fin 2) (since : Nat) (st : Bool), (s.chan ch.val).start = .follow since st ∧ (FaultCode.rotorLost, 256 * ch.val) ∉ s.coll.conds ∧ ch.val < s.pos.chans.length) ∧
  (∃ (s : State) (ch : Fin 2) (since : Nat) (st : Bool), (s.chan ch.val).start = .follow since st ∧ ch.val < s.pos.chans.length) ∧
  (∃ (s : State) (r : Req) (ch : Fin 2), writeRuns s r O.ALIGN_CMD ch.val 1 ∧ (atBody s r O.ALIGN_CMD ch.val).alignOk ch.val = false) ∧
  (∃ (s : State) (r : Req) (ch : Fin 2), writeRuns s r O.ALIGN_CMD ch.val 1 ∧ (atBody s r O.ALIGN_CMD ch.val).alignOk ch.val = true ∧ (s.chan ch.val).aligning = none ∧ ch.val < s.pos.chans.length) ∧
  (∃ (s : State) (ch : Fin 2) (avg : Nat), (s.chan ch.val).aligning = none) ∧
  (∃ (s : State) (ch : Fin 2) (avg : Nat) (id : ReqId), (s.chan ch.val).aligning = some id ∧ s.alignOk ch.val = true ∧ ((∀ c, id.port ≠ .can c)) ∧ ((∀ n, id.port ≠ .span n))) ∧
  (∃ (s : State) (r : Req) (p : Fin 4) (v : Int), writeRuns s r O.PCMP_VALUE p.val v ∧ (bit (s.get O.PCMP_MODE p.val) 3 = false) ∧ p.val < s.pos.pcmp.length ∧ s.pos.pcmp.length = 4) ∧
  (∃ (s : State) (r : Req) (p : Fin 4) (v : Int), writeRuns s r O.PCMP_VALUE p.val v ∧ bit (s.get O.PCMP_MODE p.val) 3 = true ∧ ((v < 0 ∨ (s.turn (pcmpCh (s.get O.PCMP_MODE p.val)) : Int) ≤ v))) ∧
  (∃ (s : State) (r : Req) (p : Fin 4) (m : Byte), writeRuns s r O.PCMP_MODE p.val m.toNat ∧ p.val < s.pos.pcmp.length) :=
  ⟨⟨(wIn .run), 0, (⟨[1], 1, 1, 1, 1⟩), by decide⟩,
   ⟨({ { wIn .ready with fl := { State.resetField with machineType := [2, 0] } } with pos := { State.resetPosition with chans := State.resetPosition.chans.modify 0 fun c => { c with start := .standstill } } }), 0, (⟨[1], 1, 1, 1, 1⟩), by decide⟩,
   ⟨({ wCond .obsLost 0 (wIn .run) with pos := { State.resetPosition with chans := State.resetPosition.chans.modify 0 fun c => { c with obsLost := true } } }), 0, by decide⟩,
   ⟨(wIn .run), 1, by decide⟩,
   ⟨(wIn .run), 1, by decide⟩,
   ⟨({ ((wCfg 0 .run).set O.SENSOR_SRC 3 0) with pos := { State.resetPosition with res := ⟨30000, 0, 0, true, false⟩, chans := State.resetPosition.chans.modify 0 fun c => { c with start := .again } } }), 0, by decide⟩,
   ⟨({ wHeld .rotorLost 3 0 (wNoSi (wCfg 0 .safeHold)) with pos := { State.resetPosition with chans := State.resetPosition.chans.modify 0 fun c => { c with start := .again } } }), 0, by decide⟩,
   ⟨({ wCfg 0 .run with pos := { State.resetPosition with chans := State.resetPosition.chans.modify 0 fun c => { c with start := .again, tries := [0, 0, 0] } } }), 0, 0, 0, 0, by decide⟩,
   ⟨({ wIn .run with pos := { State.resetPosition with chans := State.resetPosition.chans.modify 1 fun c => { c with start := .pulses [5] } } }), 1, ([5]), 70000, 0, by decide⟩,
   ⟨({ wIn .run with pos := { State.resetPosition with chans := State.resetPosition.chans.modify 1 fun c => { c with start := .pulses [5, 6] } } }), 1, 5, 6, 1000, 0, by decide +kernel⟩,
   ⟨(wIn .run), 1, 1000, 0, by decide⟩,
   ⟨({ wIn .run with pos := { State.resetPosition with chans := State.resetPosition.chans.modify 1 fun c => { c with start := .follow 0 true } } }), 1, 0, true, by decide⟩,
   ⟨({ wIn .run with pos := { State.resetPosition with chans := State.resetPosition.chans.modify 1 fun c => { c with start := .follow 0 true } } }), 1, 0, true, by decide⟩,
   ⟨(wSpi (wIn .ready)), wReqS, 0, by decide⟩,
   ⟨({ { wSpi ((((wCfg 0 .run).set O.SENSOR_SRC 1 0).set O.INDEX_MODE 1).set O.SPEED 100000 0) with pos := { State.resetPosition with enc := { State.resetEnc with referenced := true } } } with pos := { State.resetPosition with enc := { State.resetEnc with referenced := true }, chans := State.resetPosition.chans.modify 0 fun c => { c with start := .none } } }), wReqS, 0, by decide +kernel⟩,
   ⟨(wIn .run), 1, 5, by decide⟩,
   ⟨({ (((wCfg 0 .run).set O.SENSOR_SRC 1 0).set O.INDEX_MODE 1).set O.SPEED 100000 0 with pos := { State.resetPosition with enc := { State.resetEnc with referenced := true }, chans := State.resetPosition.chans.modify 0 fun c => { c with aligning := some ⟨.spi, 0, 2, 1, 0, 0, 0⟩ } } }), 0, 70000, (⟨.spi, 0, 2, 1, 0, 0, 0⟩), by decide +kernel⟩,
   ⟨(wSpi (wIn .run)), wReqS, 2, (-5), by decide⟩,
   ⟨(wSpi ((wIn .run).set O.PCMP_MODE 0x28 2)), wReqS, 2, (-5), by decide⟩,
   ⟨(wSpi ((wIn .run).set O.PCMP_VALUE 5 2)), wReqS, 2, 0x3F, by decide⟩⟩

/-- Each clause of ControlPeriods has a state that meets its hypotheses. -/
theorem witness_ControlPeriods :
  (∃ (s : State) (b : Fin 2) (x : BoundarySample), ((s.carrier = false ∨ s.bridges ≤ b.val))) ∧
  (∃ (s : State) (g : GridSample), s.carrier = true ∧ s.cfg = 1 ∧ s.fl.br.length = 2) ∧
  (∃ (s : State) (g : GridSample), s.carrier = true ∧ s.traction = true ∧ s.dict.commits = [] ∧ s.net.takeover = none ∧ s.fl.br.length = 2 ∧ s.tracing = false ∧ s.disch.windings = false) ∧
  (∃ (s : State) (b : Fin 2), ((s.carrier = false ∨ s.bridges ≤ b.val))) ∧
  (∃ (s : State) (b : Fin 2), s.carrier = true ∧ b.val < s.bridges ∧ s.traction = true ∧ s.sys.tokenOn = false ∧ s.fl.br.length = 2) ∧
  (∃ (s : State) (b : Fin 2), s.carrier = true ∧ b.val < s.bridges ∧ s.driving b.val = true ∧ (s.bridge b.val).brake = none ∧ (s.bridge b.val).vdcBad = 0 ∧ (s.bridge b.val).vdcFrom = none ∧ s.fl.br.length = 2) ∧
  (∃ (s : State) (b : Fin 2) (x : Bool) (y : Bool) (d : Bool), (s.bridge b.val).busy = false) ∧
  (∃ (s : State) (b : Fin 2), (s.bridge b.val).busy = true ∧ s.fl.fle = 0 ∧ s.safeAct = 0xFF) ∧
  (∃ (s : State) (b : Fin 2) (d : Bool), (s.bridge b.val).busy = true ∧ s.fl.fle = 0 ∧ firstFault s .fleMismatch) ∧
  (∃ (s : State) (b : Fin 2) (a : Bool) (d : Bool), (s.bridge b.val).busy = true ∧ s.fl.fle = 0 ∧ (FaultCode.fleSingle, (if a then 0 else 1)) ∉ s.coll.conds) ∧
  (∃ (s : State) (b : Fin 2), (s.bridge b.val).busy = true ∧ s.fl.fle = 0 ∧ (s.bridge b.val).differ = 0) ∧
  (∃ (s : State) (b : Fin 2), (s.bridge b.val).busy = true ∧ s.fl.fle = 0 ∧ 1 ≤ (s.bridge b.val).differ ∧ s.coll.mismatchLeft = none ∧ firstFault s .fleMismatch) ∧
  (∃ (s : State) (b : Fin 2) (x : Bool) (y : Bool) (d : Bool), (s.bridge b.val).busy = true ∧ ((s.fl.fle = 1 ∧ x = true ∨ s.fl.fle = 2 ∧ y = true)) ∧ s.mem.test = none ∧ firstFault s .fleMismatch) ∧
  (∃ (s : State) (b : Fin 2), (s.bridge b.val).busy = true ∧ (s.bridge b.val).shadow = none ∧ s.driving b.val = true ∧ (s.bridge b.val).overrun = 0) ∧
  (∃ (s : State) (b : Fin 2), (s.bridge b.val).busy = true ∧ (s.bridge b.val).shadow = none ∧ s.driving b.val = true ∧ 1 ≤ (s.bridge b.val).overrun ∧ firstFault s .fleOverrun) ∧
  (∃ (s : State) (b : Fin 2), (s.bridge b.val).shadow ≠ none ∧ (s.bridge b.val).inTime < 99 ∧ b.val < s.fl.br.length) :=
  ⟨⟨(wCfg 0 .run), 1, (⟨[], ⟨0, 0, 50000, 0, 0, 0⟩⟩), by decide⟩,
   ⟨({ wCfg 1 .run with fl := { State.resetField with br := State.resetField.br.modify 1 fun x => { x with shadow := some [1/2, 1/4, 1/8] } } }), (⟨0, 0, 50000, 0, 0, 0⟩), by decide⟩,
   ⟨({ wCfg 1 .run with fl := { State.resetField with br := State.resetField.br.modify 0 fun x => { x with shadow := some [1/2, 1/4, 1/8] } } }), (⟨0, 0, 50000, 0, 0, 0⟩), by decide⟩,
   ⟨(wCfg 0 .run), 1, by decide⟩,
   ⟨(wCfg 1 .run), 1, by decide⟩,
   ⟨({ { wCfg 1 .run with fl := { State.resetField with br := State.resetField.br.modify 1 fun x => { x with valid := true } } } with sys := { State.resetSys with dev := .run, standbySeen := true, tokenOn := true } }), 1, by decide⟩,
   ⟨(wCfg 1 .run), 1, true, false, true, by decide⟩,
   ⟨({ wCfg 1 .run with fl := { State.resetField with br := State.resetField.br.modify 0 fun x => { x with busy := true, next := some [1/2, 1/4, 1/8] } } }), 0, by decide⟩,
   ⟨({ wCfg 1 .run with fl := { State.resetField with br := State.resetField.br.modify 0 fun x => { x with busy := true, next := some [1/2, 1/4, 1/8] } } }), 0, true, by decide⟩,
   ⟨({ wCfg 1 .run with fl := { State.resetField with br := State.resetField.br.modify 0 fun x => { x with busy := true, next := some [1/2, 1/4, 1/8] } } }), 0, true, true, by decide⟩,
   ⟨({ wCfg 1 .run with fl := { State.resetField with br := State.resetField.br.modify 1 fun x => { x with busy := true, next := some [1/2, 1/4, 1/8] } } }), 1, by decide⟩,
   ⟨({ wCfg 1 .run with fl := { State.resetField with br := State.resetField.br.modify 1 fun x => { x with busy := true, differ := 1 } } }), 1, by decide⟩,
   ⟨({ wCfg 1 .run with fl := { State.resetField with fle := 2, br := State.resetField.br.modify 1 fun x => { x with busy := true } } }), 1, false, true, false, by decide⟩,
   ⟨({ { wCfg 1 .run with fl := { State.resetField with br := State.resetField.br.modify 0 fun x => { x with busy := true, valid := true } } } with sys := { State.resetSys with dev := .run, standbySeen := true, tokenOn := true } }), 0, by decide⟩,
   ⟨({ { wCfg 1 .run with fl := { State.resetField with br := State.resetField.br.modify 0 fun x => { x with busy := true, valid := true, overrun := 1 } } } with sys := { State.resetSys with dev := .run, standbySeen := true, tokenOn := true } }), 0, by decide⟩,
   ⟨({ wCfg 1 .run with fl := { State.resetField with br := State.resetField.br.modify 0 fun x => { x with shadow := some [0, 0, 0] } } }), 0, by decide⟩⟩

/-- Each clause of HostCommandsSolverAndTrace has a state that meets its hypotheses. -/
theorem witness_HostCommandsSolverAndTrace :
  (∃ (s : State) (r : Req) (m : Fin 2) (v : Word), writeRuns s r O.TORQUE_CMD m.val v.toNat ∧ s.sys.dev = .run ∧ s.ctrlBit 1 = false ∧ ((∀ d, (FaultCode.cmdTimeout, d) ∉ s.coll.conds)) ∧ m.val < s.hlm.machines.length) ∧
  (∃ (s : State) (r : Req) (m : Fin 2) (v : Word), writeRuns s r O.TORQUE_CMD m.val v.toNat ∧ s.sys.dev = .run ∧ s.ctrlBit 1 = true ∧ m.val ∈ s.machines ∧ ((∀ d, (FaultCode.cmdTimeout, d) ∉ s.coll.conds)) ∧ m.val < s.hlm.machines.length) ∧
  (∃ (s : State) (r : Req) (m : Fin 2) (v : Word), writeRuns s r O.SPEED_CMD m.val v.toNat ∧ s.sys.dev ≠ .run ∧ ((∀ d, (FaultCode.cmdTimeout, d) ∉ s.coll.conds)) ∧ m.val < s.hlm.machines.length) ∧
  (∃ (s : State) (r : Req) (m : Fin 2), writeRuns s r O.ASC_BRAKE_CMD m.val 1 ∧ s.sys.dev = .run ∧ s.ctrlBit 1 = true ∧ m.val ∈ s.machines ∧ s.mapSet = none ∧ ((∀ d, (FaultCode.cmdTimeout, d) ∉ s.coll.conds)) ∧ m.val < s.hlm.machines.length) ∧
  (∃ (s : State) (r : Req) (m : Fin 2), writeRuns s r O.ASC_BRAKE_CMD m.val 1 ∧ m.val ∈ s.machines ∧ s.mapSet ≠ none ∧ s.iShort m.val = none) ∧
  (∃ (s : State) (m : Fin 2), ((s.carrier = false ∨ m.val ∉ s.machines))) ∧
  (∃ (s : State) (m : Fin 2), s.carrier = true ∧ m.val ∈ s.machines ∧ s.sys.m1.inReset = true ∧ s.sys.m1.lost = false) ∧
  (∃ (s : State) (m : Fin 2), s.carrier = true ∧ m.val ∈ s.machines ∧ s.sys.m1.inReset = false ∧ ((∀ q ∈ s.fl.mach, q.ramp = none)) ∧ m.val < s.fl.mach.length) ∧
  (∃ (s : State), ((s.cmdT.running = false ∨ s.sys.dev ≠ .run))) ∧
  (∃ (s : State), s.cmdT.running = true ∧ s.sys.dev = .run ∧ s.charger = false ∧ (FaultCode.cmdTimeout, 0) ∉ s.coll.conds) ∧
  (∃ (s : State), s.cmdT.running = true ∧ s.sys.dev = .run ∧ s.charger = true ∧ s.get O.CHG_PHASE = 7 ∧ (FaultCode.cmdTimeout, 0) ∉ s.coll.conds) ∧
  (∃ (s : State) (m : Fin 2) (h : Bool), (s.mach m.val).brake = .on h ∧ s.get O.ASC_PATTERN = 2 ∧ s.brakeBst m.val = false ∧ m.val < s.fl.mach.length) ∧
  (∃ (s : State) (m : Fin 2), s.get O.ASC_PATTERN ≠ 2) ∧
  (∃ (s : State) (r : Req), writeRuns s r O.TRACE_CMD 0 1 ∧ s.get O.TRACE_MODE ≠ 0) ∧
  (∃ (s : State) (r : Req), writeRuns s r O.TRACE_CMD 0 1 ∧ s.get O.TRACE_MODE = 0) ∧
  (∃ (s : State) (r : Req), writeRuns s r O.TRACE_CMD 0 2) ∧
  (∃ (s : State) (r : Req), writeRuns s r O.TRACE_CMD 0 3) :=
  ⟨⟨(wSpi (wCfg 1 .run)), wReqS, 1, 0x41200000, by decide, by decide, by decide, fun _ => List.not_mem_nil, by decide⟩,
   ⟨((wSpi (wCfg 1 .run)).set O.CONTROL_WORD 3), wReqS, 1, 0x41200000, by decide, by decide, by decide, by decide, fun _ => List.not_mem_nil, by decide⟩,
   ⟨(wSpi (wCfg 1 .ready)), wReqS, 1, 0x41200000, by decide, by decide, fun _ => List.not_mem_nil, by decide⟩,
   ⟨((wSpi (wCfg 1 .run)).set O.CONTROL_WORD 3), wReqS, 1, by decide, by decide, by decide, by decide, by decide, fun _ => List.not_mem_nil, by decide⟩,
   ⟨({ wSpi (wCfg 1 .run) with nv := { State.resetNv with activeBank := some 0, banks := State.resetNv.banks.modify 0 fun x => { x with set := some ⟨5#32, 7, 0, 0, [], [], false, false, []⟩ } } }), wReqS, 1, by decide⟩,
   ⟨(wCfg 2 .run), 0, by decide⟩,
   ⟨({ wCfg 0 .run with sys := { (wCfg 0 .run).sys with m1 := ⟨true, true, 1, false, some .mpuViolation⟩ } }), 0, by decide⟩,
   ⟨(wCfg 1 .run), 1, by decide⟩,
   ⟨(wCfg 1 .run), by decide⟩,
   ⟨({ wCfg 1 .run with cmdT := ⟨true, 0, false, false⟩ }), by decide⟩,
   ⟨({ (wCfg 2 .run).set O.CHG_PHASE 7 with cmdT := ⟨true, 0, false, false⟩ }), by decide⟩,
   ⟨({ (wCfg 1 .run).set O.ASC_PATTERN 2 with fl := { State.resetField with mach := State.resetField.mach.modify 1 fun x => { x with brake := .on true } } }), 1, true, by decide⟩,
   ⟨((wCfg 1 .run).set O.ASC_PATTERN 1), 1, by decide⟩,
   ⟨(wSpi ((wCfg 1 .run).set O.TRACE_MODE 1)), wReqS, by decide⟩,
   ⟨(wSpi ((wCfg 1 .run).set O.TRACE_MODE 0)), wReqS, by decide⟩,
   ⟨(wSpi (wCfg 1 .run)), wReqS, by decide⟩,
   ⟨(wSpi (wCfg 1 .run)), wReqS, by decide⟩⟩

/-- Each clause of MapBanksAndCorrections has a state that meets its hypotheses. -/
theorem witness_MapBanksAndCorrections :
  (∃ (s : State) (b : Fin 2) (ms : MapSet) (c : MapChecks), ((s.staging ≠ b.val ∨ (s.bank b.val).state ≠ 2))) ∧
  (∃ (s : State) (b : Fin 2) (ms : MapSet) (c : MapChecks), s.staging = b.val ∧ (s.bank b.val).state = 2 ∧ s.mapResult ms c = 0 ∧ b.val < s.nv.banks.length ∧ ((∀ d, (FaultCode.mapVerifyFail, d) ∉ s.coll.conds))) ∧
  (∃ (s : State) (b : Fin 2) (ms : MapSet) (c : MapChecks), s.staging = b.val ∧ (s.bank b.val).state = 2 ∧ s.mapResult ms c ≠ 0 ∧ b.val < s.nv.banks.length ∧ (FaultCode.mapVerifyFail, b.val) ∉ s.coll.conds) ∧
  (∃ (s : State) (r : Req), writeRuns s r O.ACTIVATE 0 1 ∧ ((s.sys.dev ≠ .standby ∧ s.sys.dev ≠ .ready ∨ (s.bank s.staging).state ≠ 3))) ∧
  (∃ (s : State) (r : Req) (ms : MapSet), writeRuns s r O.ACTIVATE 0 1 ∧ ((s.sys.dev = .standby ∨ s.sys.dev = .ready)) ∧ (s.bank s.staging).state = 3 ∧ s.fl.saving = none ∧ (s.bank s.staging).set = some ms ∧ s.setFits ms = false) ∧
  (∃ (s : State) (r : Req) (ms : MapSet), writeRuns s r O.ACTIVATE 0 1 ∧ ((s.sys.dev = .standby ∨ s.sys.dev = .ready)) ∧ (s.bank s.staging).state = 3 ∧ s.fl.saving = none ∧ (s.bank s.staging).set = some ms ∧ s.setFits ms = true ∧ s.spent (O.ACTIVE_BANK.key 0) = false ∧ s.dict.persist.length < 2) ∧
  (∃ (s : State) (ok : Bool), s.fl.verifying = false) ∧
  (∃ (s : State), s.fl.verifying = true ∧ s.sys.runPending = false) ∧
  (∃ (s : State), s.fl.verifying = true ∧ s.sys.runPending = false ∧ (FaultCode.mapActiveInvalid, 0) ∉ s.coll.conds) ∧
  (∃ (s : State) (m : Fin 2) (x : Rat) (y : Rat), ((s.getB O.CORR_ENABLE = false ∨ s.corrMay m.val = false)) ∧ s.fl.saving = none) ∧
  (∃ (s : State) (m : Fin 2) (x : Rat) (y : Rat), s.getB O.CORR_ENABLE = true ∧ s.corrMay m.val = true ∧ s.fl.saving = none) ∧
  (∃ (s : State) (r : Req), writeRuns s r O.CORR_CMD 0 1 ∧ ((∀ d, (FaultCode.mapCorrLimit, d) ∉ s.coll.conds))) ∧
  (∃ (s : State) (r : Req), writeRuns s r O.CORR_CMD 0 2 ∧ s.sup.entering ≠ none) ∧
  (∃ (s : State) (r : Req), writeRuns s r O.CORR_CMD 0 2 ∧ s.sup.entering = none) ∧
  (∃ (s : State) (r : Req), writeRuns s r O.CORR_CMD 0 3) ∧
  (∃ (s : State), s.fl.saving = none) ∧
  (∃ (s : State) (c : CorrRec), s.fl.saving = some c) :=
  ⟨⟨(wIn .ready), 1, (⟨5#32, 7, 0, 0, [], [], false, false, []⟩), (⟨true, true, true, true, true, 0⟩), by decide⟩,
   ⟨({ wIn .ready with nv := { State.resetNv with banks := State.resetNv.banks.modify 0 fun x => { x with state := 2 }, sec := { State.resetNv.sec with otp := { State.resetOtp with oem := [⟨1, []⟩, ⟨0, []⟩, ⟨0, []⟩, ⟨0, []⟩] } } } }), 0, (⟨5#32, 7, 0, 0, [], [], false, false, []⟩), (⟨true, true, true, true, true, 0⟩), by decide, by decide, by decide, by decide, fun _ => List.not_mem_nil⟩,
   ⟨({ wIn .ready with nv := { State.resetNv with banks := State.resetNv.banks.modify 0 fun x => { x with state := 2 }, sec := { State.resetNv.sec with otp := { State.resetOtp with oem := [⟨1, []⟩, ⟨0, []⟩, ⟨0, []⟩, ⟨0, []⟩] } } } }), 0, (⟨5#32, 7, 0, 0, [], [], false, false, []⟩), (⟨true, true, true, true, true, 1⟩), by decide⟩,
   ⟨(wSpi (wIn .run)), wReqS, by decide⟩,
   ⟨({ wSpi (wCfg 1 .ready) with nv := { State.resetNv with banks := State.resetNv.banks.modify 0 fun x => { x with state := 3, set := some ⟨5#32, 7, 0, 0, [], [], false, false, []⟩ }, sec := { State.resetNv.sec with otp := { State.resetOtp with oem := [⟨1, []⟩, ⟨0, []⟩, ⟨0, []⟩, ⟨0, []⟩] } } } }), wReqS, (⟨5#32, 7, 0, 0, [], [], false, false, []⟩), by decide⟩,
   ⟨({ wSpi (wCfg 0 .ready) with nv := { State.resetNv with banks := State.resetNv.banks.modify 0 fun x => { x with state := 3, set := some ⟨5#32, 7, 0, 0, [], [], false, false, []⟩ }, sec := { State.resetNv.sec with otp := { State.resetOtp with oem := [⟨1, []⟩, ⟨0, []⟩, ⟨0, []⟩, ⟨0, []⟩] } } } }), wReqS, (⟨5#32, 7, 0, 0, [], [], false, false, []⟩), by decide⟩,
   ⟨(wIn .ready), true, by decide⟩,
   ⟨({ wIn .ready with fl := { State.resetField with verifying := true } }), by decide⟩,
   ⟨({ wIn .ready with fl := { State.resetField with verifying := true } }), by decide⟩,
   ⟨(wIn .ready), 1, 1, 2, by decide⟩,
   ⟨({ { ((wCfg 0 .run).set O.SPEED 1000000).set O.CORR_ENABLE 1 with now := 20000 } with fl := { State.resetField with mach := State.resetField.mach.modify 0 fun x => { x with pub := some State.resetRefs } } }), 0, 1, 2, by decide +kernel⟩,
   ⟨(wSpi (wIn .ready)), wReqS, by decide, fun _ => List.not_mem_nil⟩,
   ⟨({ wSpi (wIn .standby) with sup := { (wIn .standby).sup with entering := some 0 } }), wReqS, by decide⟩,
   ⟨(wSpi (wIn .ready)), wReqS, by decide⟩,
   ⟨(wSpi (wIn .ready)), wReqS, by decide⟩,
   ⟨(wIn .ready), by decide⟩,
   ⟨({ wIn .ready with fl := { State.resetField with saving := some ⟨5, [(1, 2)]⟩ } }), (⟨5, [(1, 2)]⟩), by decide⟩⟩

/-- Each clause of RelaysFollowTheirCommands has a state that meets its hypotheses. -/
theorem witness_RelaysFollowTheirCommands :
  (∃ (s : State) (r : Req) (v : Byte), writeRuns s r O.RLY_CMD 0 v.toNat ∧ s.charger = false) ∧
  (∃ (s : State) (r : Req) (v : Byte), writeRuns s r O.RLY_CMD 0 v.toNat ∧ s.charger = true) ∧
  (∃ (s : State) (k : Fin 8) (c : Bool), bit (s.get O.RLY_FB) k.val = (c != bit (s.get O.FB_SENSE) k.val)) ∧
  (∃ (s : State) (k : Fin 8) (c : Bool), bit (s.get O.RLY_FB) k.val ≠ (c != bit (s.get O.FB_SENSE) k.val) ∧ ((s.fitted k.val = false ∨ s.chg.checks.getD k.val none = none ∧ bit (s.get O.RLY_OUT) k.val = (c != bit (s.get O.FB_SENSE) k.val)))) ∧
  (∃ (s : State) (k : Fin 8) (c : Bool), bit (s.get O.RLY_FB) k.val ≠ (c != bit (s.get O.FB_SENSE) k.val) ∧ s.fitted k.val = true ∧ s.get O.CHG_PHASE = 0 ∧ s.chg.stop = .none ∧ s.chg.checks.getD k.val none = some (c != bit (s.get O.FB_SENSE) k.val)) ∧
  (∃ (s : State) (k : Fin 8) (c : Bool), bit (s.get O.RLY_FB) k.val ≠ (c != bit (s.get O.FB_SENSE) k.val) ∧ s.fitted k.val = true ∧ s.chg.checks.getD k.val none = none ∧ bit (s.get O.RLY_OUT) k.val ≠ (c != bit (s.get O.FB_SENSE) k.val) ∧ firstFault s .rlyFbUnexp) ∧
  (∃ (s : State), s.get O.CHG_PHASE = 3 ∧ bit (s.get O.RLY_FB) 0 = true ∧ s.fitted 0 = true ∧ s.get O.FB_SENSE = 0 ∧ s.chg.checks.getD 0 none = some false) ∧
  (∃ (s : State) (k : Fin 8), s.chg.checks.getD k.val none = none) ∧
  (∃ (s : State) (k : Fin 8), s.chg.checks.getD k.val none = some true ∧ firstFault s .rlyCloseFail) ∧
  (∃ (s : State) (k : Fin 8), s.chg.checks.getD k.val none = some false ∧ firstFault s .rlyWeld) ∧
  (∃ (s : State) (k : Fin 8), bit (s.get O.RLY_OUT) k.val = false) ∧
  (∃ (s : State) (k : Fin 8), bit (s.get O.RLY_OUT) k.val = true ∧ firstFault s .rlyDrvFault) ∧
  (∃ (s : State), s.chg.blockRelays = true) ∧
  (∃ (s : State), s.chg.blockRelays = false) ∧
  (∃ (s : State), s.get O.CHG_PHASE = 3 ∧ bit (s.get O.RLY_FB) 1 = true ∧ s.fitted 0 = true) ∧
  (∃ (s : State), ((s.get O.CHG_PHASE ≠ 3 ∨ bit (s.get O.RLY_FB) 1 = false))) :=
  ⟨⟨(wSpi (((wCfg 0 .run).set O.RLY_FITTED 90).set O.RLY_OUT 240)), wReqS, 0x99, by decide⟩,
   ⟨(wSpi (((wCfg 2 .run).set O.RLY_FITTED 90).set O.RLY_OUT 240)), wReqS, 0x99, by decide⟩,
   ⟨(((wCfg 2 .run).set O.RLY_FITTED 255).set O.FB_SENSE 8), 3, true, by decide⟩,
   ⟨((wCfg 2 .run).set O.RLY_FITTED 0), 3, true, by decide⟩,
   ⟨({ (wCfg 2 .run).set O.RLY_FITTED 255 with chg := { State.resetCharger with checks := State.resetCharger.checks.set 3 (some true) } }), 3, true, by decide⟩,
   ⟨((wCfg 2 .run).set O.RLY_FITTED 255), 3, true, by decide⟩,
   ⟨({ ((((wCfg 2 .run).set O.RLY_FITTED 255).set O.CHG_PHASE 3).set O.RLY_FB 1).set O.RLY_OUT 2 with chg := { State.resetCharger with checks := State.resetCharger.checks.set 0 (some false) } }), by decide⟩,
   ⟨((wCfg 2 .run).set O.RLY_FITTED 255), 3, by decide⟩,
   ⟨({ (wCfg 2 .run).set O.RLY_FITTED 255 with chg := { State.resetCharger with checks := State.resetCharger.checks.set 3 (some true) } }), 3, by decide⟩,
   ⟨({ (wCfg 2 .run).set O.RLY_FITTED 255 with chg := { State.resetCharger with checks := State.resetCharger.checks.set 3 (some false) } }), 3, by decide⟩,
   ⟨((wCfg 2 .run).set O.RLY_FITTED 255), 3, by decide⟩,
   ⟨(((wCfg 2 .run).set O.RLY_FITTED 255).set O.RLY_OUT 8), 3, by decide⟩,
   ⟨({ ((wCfg 2 .run).set O.RLY_FITTED 255).set O.RLY_OUT 255 with chg := { State.resetCharger with blockRelays := true } }), by decide⟩,
   ⟨((wCfg 2 .run).set O.RLY_FITTED 255), by decide⟩,
   ⟨(((((wCfg 2 .run).set O.RLY_FITTED 255).set O.CHG_PHASE 3).set O.RLY_FB 2).set O.RLY_OUT 3), by decide⟩,
   ⟨((((wCfg 2 .run).set O.RLY_FITTED 255).set O.CHG_PHASE 3).set O.RLY_FB 1), by decide⟩⟩

/-- Each clause of ChargerPhasesAndGrid has a state that meets its hypotheses. -/
theorem witness_ChargerPhasesAndGrid :
  (∃ (s : State) (g : GridSample), s.carrier = true ∧ s.charger = true ∧ s.sys.dev ≠ .run ∧ s.dict.commits = [] ∧ s.net.takeover = none ∧ s.tracing = false) ∧
  (∃ (s : State), ((s.charger = false ∨ s.chg.errRun ≠ 0 ∨ s.chg.freqFrom ≠ none))) ∧
  (∃ (s : State), s.charger = true ∧ s.chg.errRun = 0 ∧ s.chg.freqFrom = none ∧ s.sys.dev ≠ .run) ∧
  (∃ (s : State), ((s.charger = false ∨ s.gridConds.any id = true))) ∧
  (∃ (s : State), s.charger = true ∧ s.gridConds.any id = false ∧ s.get O.CHG_PHASE ≠ 1 ∧ ((∀ f ∈ gridCodes, s.coll.cond f = false))) ∧
  (∃ (s : State), s.charger = true ∧ s.gridConds.any id = false ∧ s.get O.CHG_PHASE = 1 ∧ ((∀ f ∈ gridCodes, s.coll.cond f = false)) ∧ s.get O.RLY_FB = 0 ∧ s.fitted 0 = true ∧ s.coll.cond .rlyWeld = false) ∧
  (∃ (s : State), s.get O.CHG_PHASE ≠ 1) ∧
  (∃ (s : State), s.charger = true ∧ s.get O.CHG_PHASE = 1 ∧ 2 ≤ s.chg.lossRun ∧ firstFault s .gridLoss) ∧
  (∃ (s : State), s.get O.CHG_PHASE ≠ 2) ∧
  (∃ (s : State), s.charger = true ∧ s.get O.CHG_PHASE = 2 ∧ firstFault s .prechargeFail) ∧
  (∃ (s : State), s.get O.CHG_PHASE ≠ 4) ∧
  (∃ (s : State), s.get O.CHG_PHASE = 4) ∧
  (∃ (s : State), ((s.get O.CHG_PHASE ≠ 5 ∨ s.matched = false))) ∧
  (∃ (s : State), s.get O.CHG_PHASE = 5 ∧ s.matched = true ∧ s.fitted 6 = true ∧ s.coll.cond .rlyWeld = false) ∧
  (∃ (s : State), s.get O.CHG_PHASE ≠ 5) ∧
  (∃ (s : State), s.charger = true ∧ s.get O.CHG_PHASE = 5 ∧ firstFault s .outMatchFail) ∧
  (∃ (s : State), s.chg.stop ≠ .waitCurrent) ∧
  (∃ (s : State) (k : Nat), s.chg.stop = .waitCurrent ∧ k < 7 ∧ s.fitted k = true ∧ bit (s.get O.RLY_FB) k = true) ∧
  (∃ (s : State), s.chg.stop = .waitCurrent ∧ s.get O.RLY_FB = 0 ∧ s.sys.dev = .run ∧ s.ctrlBit 0 = true) ∧
  (∃ (s : State), s.charger = false) ∧
  (∃ (s : State), s.charger = true ∧ s.sys.dev ≠ .run ∧ s.get O.CHG_PHASE = 0 ∧ s.chg.stop ≠ .ramp ∧ s.dict.procVals = [] ∧ s.fitted 7 = true) ∧
  (∃ (s : State), s.chgSwitch = true ∧ s.chg.stop = .none ∧ s.get O.CHG_PHASE = 5 ∧ s.dict.procVals = [] ∧ s.fl.mach.length = 2) ∧
  (∃ (s : State) (r : Req) (v : Word), writeRuns s r O.I_OUT_CMD 0 v.toNat ∧ s.charger = true ∧ s.sys.dev = .run ∧ s.get O.CHG_PHASE ≠ 8 ∧ (FaultCode.cmdTimeout, 0) ∉ s.coll.conds) ∧
  (∃ (s : State) (r : Req) (v : Word), writeRuns s r O.I_OUT_CMD 0 v.toNat ∧ ((s.charger = false ∨ s.sys.dev ≠ .run ∨ s.get O.CHG_PHASE = 8)) ∧ (FaultCode.cmdTimeout, 0) ∉ s.coll.conds) ∧
  (∃ (s : State) (r : Req), writeRuns s r O.ENERGY_CLEAR 0 1) :=
  ⟨⟨(wCfg 2 .ready), (⟨70000, 0, 50000, 5, 6, 7⟩), by decide⟩,
   ⟨(wCfg 0 .run), by decide⟩,
   ⟨({ wCfg 2 .ready with chg := { State.resetCharger with gridGood := true } }), by decide⟩,
   ⟨(wCfg 0 .run), by decide⟩,
   ⟨((wCfg 2 .ready).set O.PLL_STATE 1), by decide⟩,
   ⟨((((wCfg 2 .run).set O.RLY_FITTED 255).set O.PLL_STATE 1).set O.CHG_PHASE 1), by decide⟩,
   ⟨(wCfg 2 .run), by decide⟩,
   ⟨({ (wCfg 2 .run).set O.CHG_PHASE 1 with chg := { State.resetCharger with lossRun := 2 } }), by decide⟩,
   ⟨(wCfg 2 .run), by decide⟩,
   ⟨((wCfg 2 .run).set O.CHG_PHASE 2), by decide⟩,
   ⟨(wCfg 2 .run), by decide⟩,
   ⟨(((wCfg 2 .run).set O.RLY_FITTED 255).set O.CHG_PHASE 4), by decide⟩,
   ⟨(wCfg 2 .run), by decide⟩,
   ⟨(((wCfg 2 .run).set O.RLY_FITTED 255).set O.CHG_PHASE 5), by decide +kernel⟩,
   ⟨(wCfg 2 .run), by decide⟩,
   ⟨((wCfg 2 .run).set O.CHG_PHASE 5), by decide⟩,
   ⟨(wCfg 2 .run), by decide⟩,
   ⟨({ ((((wCfg 2 .run).set O.RLY_FITTED 255).set O.CHG_PHASE 8).set O.RLY_FB 67).set O.RLY_OUT 255 with chg := { State.resetCharger with stop := .waitCurrent } }), 6, by decide⟩,
   ⟨({ (((wCfg 2 .run).set O.RLY_FITTED 255).set O.CHG_PHASE 8).set O.CONTROL_WORD 3 with chg := { State.resetCharger with stop := .waitCurrent } }), by decide⟩,
   ⟨(wCfg 0 .run), by decide⟩,
   ⟨(((wCfg 2 .ready).set O.RLY_FITTED 255).set O.RLY_CMD 255), by decide⟩,
   ⟨({ ((wCfg 2 .run).set O.RLY_FITTED 255).set O.CHG_PHASE 5 with sys := { State.resetSys with dev := .run, standbySeen := true, tokenOn := true } }), by decide⟩,
   ⟨(wSpi (wCfg 2 .run)), wReqS, 0x41200000, by decide⟩,
   ⟨(wSpi (wCfg 2 .ready)), wReqS, 0x41200000, by decide⟩,
   ⟨(wSpi ((wCfg 2 .ready).set O.ENERGY_IMPORT 5)), wReqS, by decide⟩⟩

/-- Each clause of FaultsPostedLeftAndReset has a state that meets its hypotheses. -/
theorem witness_FaultsPostedLeftAndReset :
  (∃ (s : State) (f : FaultCode) (d : Nat), s.alive = false) ∧
  (∃ (s : State) (f : FaultCode) (d : Nat), s.alive = true ∧ s.sys.dev.runs = true ∧ f.cls ≤ 2 ∧ f ∉ [FaultCode.fleSingle, .mainTakeover, .islOnBootstrap, .islDieIsolated, .canTakeover, .obsLost, .snsIlineLost, .encFail, .hallFail] ∧ (f, d) ∉ s.coll.conds) ∧
  (∃ (s : State) (f : FaultCode) (d : Nat) (b : Nat), s.alive = true ∧ s.sys.dev.runs = true ∧ (f, b) ∈ [(FaultCode.fleSingle, 1), (.mainTakeover, 0), (.islOnBootstrap, 6), (.islDieIsolated, 7), (.canTakeover, 8), (.obsLost, 3)] ∧ (f, d) ∉ s.coll.conds) ∧
  (∃ (s : State) (f : FaultCode) (d : Nat), s.alive = true ∧ firstFault s f ∧ f.cls = 3 ∧ f ∉ [FaultCode.fleMismatch, .rotorLost, .vinUv, .vddioFail, .siEoffDemand, .siHvilDemand, .siCoverDemand, .siAuxDemand]) ∧
  (∃ (s : State) (f : FaultCode) (d : Nat), s.alive = true ∧ firstFault s f ∧ f.cls = 4 ∧ f ∉ [FaultCode.collectorOverflow, .islVerifyFail, .sramFail, .stFailHold]) ∧
  (∃ (s : State) (d : Nat), s.alive = true ∧ firstFault s .islVerifyFail ∧ s.sys.dev = .standby) ∧
  (∃ (s : State) (d : Nat), s.alive = true ∧ s.sys.dev.running = true) ∧
  (∃ (s : State) (d : Nat), s.alive = true ∧ firstFault s .siCoverDemand) ∧
  (∃ (s : State) (d : Nat), s.alive = true ∧ s.sys.dev.runs = true ∧ calm s) ∧
  (∃ (s : State) (f : FaultCode) (d : Nat), f.leave ∈ [LeaveKind.nextStart, .restart, .pair, .external]) ∧
  (∃ (s : State) (f : FaultCode) (d : Nat), s.sys.dev.runs = true ∧ f.cls ≤ 2 ∧ f.leave = .cond ∧ f ∉ [FaultCode.spanRingOpen, .sramCe, .sramUe, .nvCe, .nvUe, .trngFail, .obsLost, .islOnBootstrap, .islDieIsolated] ∧ soleCond s f d) ∧
  (∃ (s : State) (f : FaultCode) (d : Nat), s.sys.dev.runs = true ∧ f.cls = 3 ∧ f ∉ [FaultCode.vinUv, .vddioFail] ∧ soleC3 s f d) ∧
  (∃ (s : State) (f : FaultCode) (d : Nat), s.sys.dev.runs = true ∧ f.cls = 4 ∧ f.leave = .cond ∧ s.coll.active = some ⟨f, 4, d⟩ ∧ s.coll.pend = none ∧ s.coll.conds = [(f, d)]) ∧
  (∃ (s : State) (r : Req) (w : Half) (f : FaultCode) (d : Nat), writeRuns s r O.CONTROL_WORD 0 w.toNat ∧ (w.toNat : Int) = s.get O.CONTROL_WORD + 4 ∧ w.getLsbD 2 = true ∧ w.getLsbD 6 = false ∧ ctlInconsistent w = false ∧ s.sys.dev = .faultLatched ∧ s.disch.held = false ∧ s.coll.active = some ⟨f, 4, d⟩ ∧ s.coll.pend = none ∧ s.coll.overflow = false ∧ onlySafeRst f = false ∧ f ≠ .clampFail ∧ f ≠ .dcOv2 ∧ ((f.leave = .edge ∨ s.coll.cond f = false))) ∧
  (∃ (s : State) (r : Req) (w : Half) (f : FaultCode) (d : Nat), writeRuns s r O.CONTROL_WORD 0 w.toNat ∧ (w.toNat : Int) = s.get O.CONTROL_WORD + 4 ∧ w.getLsbD 2 = true ∧ w.getLsbD 6 = false ∧ ctlInconsistent w = false ∧ s.sys.dev = .faultLatched ∧ s.coll.active = some ⟨f, 4, d⟩ ∧ s.coll.pend = none ∧ s.coll.overflow = false ∧ f ≠ .clampFail ∧ f ≠ .dcOv2 ∧ ((onlySafeRst f = true ∨ f.leave ≠ .edge ∧ s.coll.cond f = true)) ∧ s.quietLatch ⟨f, 4, d⟩ = false) ∧
  (∃ (s : State), s.sys.dev.runs = true ∧ (FaultCode.resetHeld, 0) ∉ s.coll.conds) ∧
  (∃ (s : State), s.sys.dev.runs = true ∧ (FaultCode.resetHeld, 1) ∉ s.coll.conds) ∧
  (∃ (s : State) (ok : Bool), s.log.waiting = []) ∧
  (∃ (s : State) (x : LogRec) (l : List LogRec), s.log.waiting = x :: l ∧ s.log.records.length < 262144 ∧ (FaultCode.logWriteFail, 0) ∉ s.coll.conds) ∧
  (∃ (s : State) (x : LogRec) (l : List LogRec), s.log.waiting = x :: l ∧ (FaultCode.logWriteFail, 0) ∉ s.coll.conds) ∧
  (∃ (s : State) (r : Req), writeRuns s r O.LOG_CLEAR 0 1) :=
  ⟨⟨({ wIn .run with sup := { (wIn .run).sup with asleep := 1 } }), .dcUv, 0, by decide⟩,
   ⟨(wIn .run), .canBusOff, 3, by decide⟩,
   ⟨(wIn .run), .fleSingle, 3, 1, by decide⟩,
   ⟨(wIn .run), .fleOverrun, 3, by decide⟩,
   ⟨(wIn .run), .mapReadErr, 3, by decide⟩,
   ⟨(wIn .standby), 3, by decide⟩,
   ⟨(wIn .run), 3, by decide⟩,
   ⟨((wIn .run).set O.RESTART 1 2), 3, by decide⟩,
   ⟨(wIn .run), 3, by decide⟩,
   ⟨(wIn .run), .encFail, 3, by decide⟩,
   ⟨(wCond .canBusOff 3 (wIn .run)), .canBusOff, 3, by decide⟩,
   ⟨(wHeld .fleMismatch 3 3 (wIn .safeHold)), .fleMismatch, 3, by decide⟩,
   ⟨(wHeld .mapReadErr 4 3 (wIn .faultLatched)), .mapReadErr, 3, by decide⟩,
   ⟨(wSpi (wHeld .ascFail 4 3 ((wIn .faultLatched).set O.CONTROL_WORD 1))), wReqS, 5, .ascFail, 3, by decide⟩,
   ⟨(wSpi (wHeld .rlyWeld 4 3 ((wIn .faultLatched).set O.CONTROL_WORD 1))), wReqS, 5, .rlyWeld, 3, by decide⟩,
   ⟨(wIn .run), by decide⟩,
   ⟨(wIn .run), by decide⟩,
   ⟨(wIn .run), true, by decide⟩,
   ⟨({ wIn .run with log := { (wIn .run).log with waiting := [⟨0, 1, 2, 3, 4, 5, 6, 7, 8, 9, 10⟩] } }), (⟨0, 1, 2, 3, 4, 5, 6, 7, 8, 9, 10⟩), ([]), by decide⟩,
   ⟨({ wIn .run with log := { (wIn .run).log with waiting := [⟨0, 1, 2, 3, 4, 5, 6, 7, 8, 9, 10⟩] } }), (⟨0, 1, 2, 3, 4, 5, 6, 7, 8, 9, 10⟩), ([]), by decide⟩,
   ⟨(wSpi (wIn .run)), wReqS, by decide⟩⟩

/-- Each clause of ActiveDischarge has a state that meets its hypotheses. -/
theorem witness_ActiveDischarge :
  (∃ (s : State) (r : Req), writeRuns s r O.DISCH_CMD 0 1 ∧ ((s.disch.running = true ∨ s.sys.dev = .run ∨ s.sys.dev = .service ∨ s.sys.dev = .discharge))) ∧
  (∃ (s : State) (r : Req), writeRuns s r O.DISCH_CMD 0 1 ∧ s.disch.running = false ∧ s.disch.inSafe = false ∧ s.sys.dev = .ready) ∧
  (∃ (s : State) (r : Req), writeRuns s r O.DISCH_CMD 0 1 ∧ s.disch.running = false ∧ ((s.sys.dev = .safeHold ∨ s.sys.dev = .faultLatched))) ∧
  (∃ (s : State) (r : Req), writeRuns s r O.DISCH_CMD 0 1 ∧ s.disch.running = false ∧ s.sys.dev = .standby ∧ s.readyAllowed = true ∧ s.mem.test = none) ∧
  (∃ (s : State) (r : Req), writeRuns s r O.DISCH_CMD 0 1 ∧ s.disch.running = false ∧ s.sys.dev = .standby ∧ s.readyAllowed = false) ∧
  (∃ (s : State) (r : Req), writeRuns s r O.DISCH_CMD 0 2 ∧ s.disch.running = false) ∧
  (∃ (s : State) (r : Req), writeRuns s r O.DISCH_CMD 0 2 ∧ s.disch.running = true ∧ s.sys.dev = .discharge ∧ s.sys.back ≠ .standby ∧ s.ctrlBit 0 = true) ∧
  (∃ (s : State) (r : Req) (w : Half), writeRuns s r O.CONTROL_WORD 0 w.toNat ∧ (w.toNat : Int) = s.get O.CONTROL_WORD + 8 ∧ w.getLsbD 3 = true ∧ w.getLsbD 6 = false ∧ ctlInconsistent w = false ∧ s.disch.running = false ∧ s.sys.dev = .ready ∧ w.getLsbD 0 = true) ∧
  (∃ (s : State) (r : Req) (w : Half), writeRuns s r O.CONTROL_WORD 0 w.toNat ∧ s.ctrlBit 3 = false ∧ w.getLsbD 3 = true ∧ w.getLsbD 6 = false ∧ ctlInconsistent w = false ∧ s.disch.running = true ∧ s.sys.dev ≠ .standby) ∧
  (∃ (s : State), ((s.disch.running = false ∨ s.get O.DISCH_STATE = 1))) ∧
  (∃ (s : State), s.disch.running = true ∧ s.get O.DISCH_STATE ≠ 1 ∧ s.disch.clampOn = true ∧ s.disch.windings = false ∧ s.get O.DISCH_PATH ≠ 2 ∧ firstFault s .dischFail) ∧
  (∃ (s : State), s.disch.running = false) ∧
  (∃ (s : State), s.disch.running = true ∧ firstFault s .dischFail) ∧
  (∃ (s : State) (d : Nat), firstFault s .islUvlo ∧ s.sys.dev = .discharge ∧ s.disch.running = true ∧ s.disch.clampOn = false ∧ s.disch.clampBad = false ∧ s.disch.wanted = false) ∧
  (∃ (s : State) (d : Nat), s.sys.dev = .safeHold ∧ s.disch.held = true ∧ s.coll.active = some ⟨.islUvlo, 3, d⟩ ∧ s.coll.pend = none ∧ s.coll.overflow = false ∧ s.coll.conds.filter (fun x => x.1 == FaultCode.islUvlo) = [(.islUvlo, d)]) ∧
  (∃ (s : State) (r : Req), writeRuns s r O.DISCH_CMD 0 2 ∧ s.disch.running = true ∧ s.disch.held = true ∧ emptyColl s ∧ s.sys.dev = .safeHold ∧ s.sys.back = .ready ∧ s.ctrlBit 0 = true) ∧
  (∃ (s : State), s.disch.windings = true ∧ s.windingsOk = false ∧ s.disch.clampOn = false ∧ s.disch.clampBad = false) :=
  ⟨⟨(wSpi (wIn .run)), wReqS, by decide⟩,
   ⟨(wSpi (wCfg 0 .ready)), wReqS, by decide⟩,
   ⟨(wSpi (wIn .faultLatched)), wReqS, by decide⟩,
   ⟨(wSpi ((wIn .standby).set O.CONFIG 0)), wReqS, by decide⟩,
   ⟨(wSpi ((wIn .standby).set O.CONFIG 255)), wReqS, by decide⟩,
   ⟨(wSpi (wIn .ready)), wReqS, by decide⟩,
   ⟨({ { wSpi (((wCfg 0 .discharge).set O.CONTROL_WORD 1)) with sys := { State.resetSys with dev := .discharge, back := .ready, standbySeen := true } } with disch := { State.resetDisch with running := true, clampOn := true } }), wReqS, by decide⟩,
   ⟨(wSpi ((wCfg 0 .ready).set O.CONTROL_WORD 1)), wReqS, 9, by decide⟩,
   ⟨({ wSpi (((wCfg 0 .discharge).set O.CONTROL_WORD 1)) with disch := { State.resetDisch with running := true, clampOn := true } }), wReqS, 9, by decide⟩,
   ⟨(wIn .ready), by decide⟩,
   ⟨({ ((wCfg 0 .discharge).set O.DISCH_STATE 2).set O.DISCH_PATH 0 with disch := { State.resetDisch with running := true, clampOn := true } }), by decide⟩,
   ⟨(wIn .ready), by decide⟩,
   ⟨({ (wCfg 0 .discharge).set O.DISCH_STATE 2 with disch := { State.resetDisch with running := true, clampOn := true } }), by decide⟩,
   ⟨({ (wCfg 0 .discharge).set O.DISCH_STATE 3 with disch := { State.resetDisch with running := true, windings := true } }), 4, by decide⟩,
   ⟨({ { wCfg 0 .safeHold with disch := { State.resetDisch with running := true, clampOn := true, inSafe := true, held := true } } with coll := { State.resetColl with active := some ⟨.islUvlo, 3, 4⟩, conds := [(.islUvlo, 4)] } }), 4, by decide⟩,
   ⟨({ { wSpi (((wCfg 0 .safeHold).set O.CONTROL_WORD 1)) with sys := { State.resetSys with dev := .safeHold, back := .ready, standbySeen := true } } with disch := { State.resetDisch with running := true, clampOn := true, inSafe := true, held := true } }), wReqS, by decide⟩,
   ⟨({ { wCfg 0 .discharge with pins := { State.resetPins with drvEn := false } } with disch := { State.resetDisch with running := true, windings := true } }), by decide⟩⟩

/-- Each clause of SafetyInputEvaluators has a state that meets its hypotheses. -/
theorem witness_SafetyInputEvaluators :
  (∃ (s : State) (l : BitVec 6) (r : Bool), s.alive = false) ∧
  (∃ (s : State) (l : BitVec 6), s.alive = true ∧ ((∀ e : Fin 4, s.getB O.ENABLE e.val = false)) ∧ s.pins.safeRst = false) ∧
  (∃ (s : State) (l : BitVec 6), s.alive = true ∧ ((∀ e : Fin 4, s.getB O.ENABLE e.val = false)) ∧ s.pins.safeRst = false ∧ s.si.rstRaw = true ∧ 99 ≤ s.si.rstHeld) ∧
  (∃ (s : State) (l : BitVec 6), s.alive = true ∧ ((∀ e : Fin 4, s.getB O.ENABLE e.val = decide (e.val = 0))) ∧ (s.ev 0).startup = false ∧ (s.ev 0).posted = false ∧ (s.ev 0).disc = .none ∧ l.getLsbD 0 = false ∧ l.getLsbD 1 = false ∧ (s.ev 0).a.filt = false ∧ (s.ev 0).b.filt = false ∧ (s.ev 0).a.raw = false ∧ (s.ev 0).b.raw = false ∧ (s.ev 0).a.changes = [] ∧ (s.ev 0).b.changes = [] ∧ (s.ev 0).a.chatter = false ∧ (s.ev 0).b.chatter = false ∧ s.get O.SENSE_FIXED 0 = 0 ∧ s.getB O.DISCH_ON_EOFF = false ∧ s.si.evs.length = 4 ∧ s.pins.safeRst = false ∧ firstFault s .siEoffDemand) ∧
  (∃ (s : State) (b : Bool), s.alive = false) ∧
  (∃ (s : State) (b : Bool), s.alive = true) ∧
  (∃ (s : State) (seen : BitVec 6), s.si.pulse = none) ∧
  (∃ (s : State) (seen : BitVec 6) (b : Bool), s.si.pulse = some b ∧ ((∀ e ∈ [((0 : Nat), (0 : Nat)), (2, 2), (3, 4)], s.getB O.ENABLE e.1 = true → pulseKind (!b) (s.ev e.1).a.filt (seen.getLsbD e.2) = none ∧ pulseKind b (s.ev e.1).b.filt (seen.getLsbD (e.2 + 1)) = none))) ∧
  (∃ (s : State) (seen : BitVec 6), s.si.pulse = some false ∧ ((∀ e : Fin 4, s.getB O.ENABLE e.val = decide (e.val = 2))) ∧ (s.ev 2).a.filt = true ∧ (s.ev 2).b.filt = false ∧ seen.getLsbD 2 = true ∧ seen.getLsbD 3 = false ∧ s.si.evs.length = 4 ∧ firstFault s .siTestFail ∧ (FaultCode.siTestFail, siDetail 2 0 1) ∉ s.coll.conds) ∧
  (∃ (s : State) (x : Nat) (y : Nat) (z : Nat) (lim : Bool), ((s.alive = false ∨ s.getB O.ENABLE 1 = false))) ∧
  (∃ (s : State) (x : Nat) (y : Nat) (z : Nat) (lim : Bool), s.alive = true ∧ s.getB O.ENABLE 1 = true) ∧
  (∃ (s : State) (l : List SiFail), ((s.alive = false ∨ s.getB O.SI_READY = false ∨ s.get O.TP_PERIOD = 0))) ∧
  (∃ (s : State), s.alive = true ∧ s.getB O.SI_READY = true ∧ s.get O.TP_PERIOD ≠ 0 ∧ ((∀ d, (FaultCode.siTestFail, d) ∉ s.coll.conds)) ∧ s.si.evs.length = 4) ∧
  (∃ (s : State) (f : SiFail), s.alive = true ∧ s.getB O.SI_READY = true ∧ s.get O.TP_PERIOD ≠ 0 ∧ s.getB O.ENABLE f.ev.val = true ∧ ((∀ d, (FaultCode.siTestFail, d) ∉ s.coll.conds)) ∧ s.si.evs.length = 4 ∧ firstFault s .siTestFail) ∧
  (∃ (s : State) (ms : Nat), s.alive = true ∧ ((ms < 50 ∨ 3000 < ms ∨ s.si.rstBad = true ∨ s.getB O.SI_READY = false ∨ s.sys.dev.runs = false)) ∧ (FaultCode.resetHeld, 0) ∉ s.coll.conds) ∧
  (∃ (s : State) (ms : Nat) (f : FaultCode) (d : Nat), s.alive = true ∧ 50 ≤ ms ∧ ms ≤ 3000 ∧ s.si.rstBad = false ∧ s.getB O.SI_READY = true ∧ (FaultCode.resetHeld, 0) ∉ s.coll.conds ∧ s.sys.dev = .faultLatched ∧ s.disch.held = false ∧ s.coll.active = some ⟨f, 4, d⟩ ∧ s.coll.pend = none ∧ s.coll.overflow = false ∧ f ≠ .clampFail ∧ f ≠ .dcOv2 ∧ demandOf f = none ∧ ((f.leave = .edge ∨ s.coll.cond f = false))) ∧
  (∃ (s : State), ((s.alive = false ∨ s.hlm.stopped = true))) ∧
  (∃ (s : State), s.alive = true ∧ s.hlm.stopped = false) ∧
  (∃ (s : State) (e : Fin 4), s.sys.dev.serves = true ∧ s.si.retest = [e.val] ∧ s.si.evs.length = 4 ∧ ((∀ k : Fin 4, s.getB O.ENABLE k.val = decide (k = e))) ∧ ((∀ d, (FaultCode.siTestFail, d) ∉ s.coll.conds)) ∧ s.quiet e.val = false) ∧
  (∃ (n : Nat) (flt : Nat) (dem : Bool) (raw : Bool) (c : SiChan), c.maskTo < n ∧ 8 ≤ ((c.changes.filter fun t => decide (n ≤ t + flt)).length)) :=
  ⟨⟨({ wIn .run with sup := { (wIn .run).sup with asleep := 1 } }), 5, true, by decide⟩,
   ⟨(wNoSi (wIn .run)), 5, by decide⟩,
   ⟨({ wNoSi (wIn .run) with si := { State.resetSafetyIn with rstRaw := true, rstHeld := 99 } }), 5, by decide⟩,
   ⟨({ (((((wIn .run).set O.DISCH_ON_EOFF 0).set O.ENABLE 1 0).set O.ENABLE 0 1).set O.ENABLE 0 2).set O.ENABLE 0 3 with si := { State.resetSafetyIn with evs := State.resetSafetyIn.evs.modify 0 fun v => { v with startup := false } } }), 0x3C, by decide⟩,
   ⟨({ wIn .run with sup := { (wIn .run).sup with asleep := 1 } }), true, by decide⟩,
   ⟨(wIn .run), true, by decide⟩,
   ⟨(wIn .run), 5, by decide⟩,
   ⟨({ wIn .run with si := { State.resetSafetyIn with pulse := some true } }), 0, true, by decide⟩,
   ⟨({ (((((wIn .run).set O.DISCH_ON_EOFF 0).set O.ENABLE 0 0).set O.ENABLE 0 1).set O.ENABLE 1 2).set O.ENABLE 0 3 with si := { State.resetSafetyIn with evs := State.resetSafetyIn.evs.modify 2 fun v => { v with a := { State.resetSiChan with filt := true } }, pulse := some false } }), 4, by decide⟩,
   ⟨(wNoSi (wIn .run)), 1, 2, 3, false, by decide⟩,
   ⟨(wIn .run), 1001, 1000, 3, false, by decide⟩,
   ⟨(wIn .run), ([]), by decide⟩,
   ⟨((wIn .run).set O.SI_READY 1), by decide, by decide, by decide, fun _ => List.not_mem_nil, by decide⟩,
   ⟨((wIn .run).set O.SI_READY 1), (⟨1, 0xFF, 4⟩), by decide, by decide, by decide, by decide, fun _ => List.not_mem_nil, by decide, by decide⟩,
   ⟨((wIn .run).set O.SI_READY 1), 49, by decide⟩,
   ⟨(({ wIn .faultLatched with coll := { State.resetColl with active := some ⟨.siTestFail, 4, 3⟩ } }).set O.SI_READY 1), 3000, .siTestFail, 3, by decide⟩,
   ⟨({ wIn .run with sup := { (wIn .run).sup with asleep := 1 } }), by decide⟩,
   ⟨(wIn .ready), by decide⟩,
   ⟨({ (((((wIn .standby).set O.DISCH_ON_EOFF 0).set O.ENABLE 0 0).set O.ENABLE 0 1).set O.ENABLE 1 2).set O.ENABLE 0 3 with si := { State.resetSafetyIn with evs := State.resetSafetyIn.evs.modify 2 fun v => { v with tested := false }, retest := [2] } }), 2, by decide, by decide, by decide, by decide, fun _ => List.not_mem_nil, by decide⟩,
   ⟨10, 10, true, false, ({ State.resetSiChan with changes := [9, 8, 7, 6, 5, 4, 3, 2] }), by decide⟩⟩

/-- Each clause of MemoryErrorsAndDma has a state that meets its hypotheses. -/
theorem witness_MemoryErrorsAndDma :
  (∃ (s : State) (m : Fin 48) (a : Nat), s.alive = true ∧ (FaultCode.sramCe, a) ∉ s.coll.conds) ∧
  (∃ (s : State) (m : Fin 48) (a : Nat), s.alive = false) ∧
  (∃ (s : State) (m : Fin 48) (a : Nat) (p : MainPair), s.alive = true ∧ ((36 ≤ m.val ∧ m.val < 40 ∨ 46 ≤ m.val)) ∧ (FaultCode.sramUe, a) ∉ s.coll.conds) ∧
  (∃ (s : State) (m : Fin 48) (a : Nat) (p : MainPair), s.alive = true ∧ 40 ≤ m.val ∧ m.val < 44 ∧ (FaultCode.sramUe, a) ∉ s.coll.conds) ∧
  (∃ (s : State) (m : Fin 48) (a : Nat) (p : MainPair), s.alive = true ∧ 24 ≤ m.val ∧ m.val < 28 ∧ s.fl.fle = 0 ∧ (FaultCode.sramUe, a) ∉ s.coll.conds ∧ (FaultCode.fleSingle, (if m.val < 26 then 0 else 1)) ∉ s.coll.conds) ∧
  (∃ (s : State) (m : Fin 48) (a : Nat) (c : Fin 16), s.alive = true ∧ (s.dma c.val).run = true ∧ (s.dma c.val).desc = none ∧ c ≠ 7 ∧ (FaultCode.sramUe, a) ∉ s.coll.conds ∧ (FaultCode.dmaError, c.val) ∉ s.coll.conds) ∧
  (∃ (s : State) (w : Master) (a : Nat), s.alive = false) ∧
  (∃ (s : State) (p : MainPair) (a : Nat), s.alive = true ∧ s.sys.lastPairLost = false ∧ s.pair p = ⟨false, false, 0, false, none⟩ ∧ (s.pair (otherPair p)).lost = false ∧ (s.pair (otherPair p)).inReset = false ∧ emptyColl s ∧ ((s.sys.dev = .run ∨ s.sys.dev = .ready ∨ s.sys.dev = .standby)) ∧ s.charger = false) ∧
  (∃ (s : State), s.alive = true ∧ s.mem.scrubbed + 1 < 1572864) ∧
  (∃ (s : State), s.alive = true ∧ 1572863 ≤ s.mem.scrubbed) ∧
  (∃ (s : State) (c : Fin 16) (d : DmaDesc), ((s.alive = false ∨ (s.dma c.val).run = true))) ∧
  (∃ (s : State) (c : Fin 16) (d : DmaDesc), s.alive = true ∧ (s.dma c.val).run = false ∧ s.mem.dma.length = 16 ∧ descBad d = false) ∧
  (∃ (s : State) (c : Fin 16) (x : Option (Fin 4)), (((s.dma c.val).desc = none ∨ (s.dma c.val).run = false))) ∧
  (∃ (s : State) (c : Fin 16) (d : DmaDesc) (n : Nat), s.mem.wf = true ∧ (s.dma c.val).run = true ∧ (s.dma c.val).desc = some d ∧ n = beatBytes d.ctrl ∧ d.ctrl.getLsbD 4 = false ∧ d.ctrl.getLsbD 5 = false ∧ d.src + (s.dma c.val).done + n ≤ 12582912 ∧ d.dst + (s.dma c.val).done + n ≤ 12582912 ∧ beatMay dmaWrites (d.dst + (s.dma c.val).done) n = true ∧ beatMay (fun a => dmaReads (macroOf a)) (d.src + (s.dma c.val).done) n = true ∧ (s.dma c.val).done + n < d.len) ∧
  (∃ (s : State) (c : Fin 16) (d : DmaDesc) (n : Nat), s.mem.wf = true ∧ (s.dma c.val).run = true ∧ (s.dma c.val).desc = some d ∧ n = beatBytes d.ctrl ∧ d.ctrl.getLsbD 4 = false ∧ d.ctrl.getLsbD 5 = true ∧ d.ctrl.getLsbD 7 = false ∧ d.src + (s.dma c.val).done + n ≤ 12582912 ∧ d.dst + n ≤ 12582912 ∧ beatMay dmaWrites d.dst n = true ∧ beatMay (fun a => dmaReads (macroOf a)) (d.src + (s.dma c.val).done) n = true ∧ d.len ≤ (s.dma c.val).done + n ∧ (FaultCode.dmaError, c.val) ∉ s.coll.conds) ∧
  (∃ (s : State) (c : Fin 16) (d : DmaDesc), (s.dma c.val).run = true ∧ (s.dma c.val).desc = some d ∧ d.ctrl.getLsbD 7 = false ∧ c ≠ 7 ∧ (FaultCode.dmaError, c.val) ∉ s.coll.conds) ∧
  (∃ (s : State) (c : Fin 16) (d : DmaDesc), (s.dma c.val).run = true ∧ (s.dma c.val).desc = some d ∧ d.ctrl.getLsbD 7 = false ∧ c ≠ 7 ∧ beatMay dmaWrites (d.dst + (if d.ctrl.getLsbD 5 then 0 else (s.dma c.val).done)) (beatBytes d.ctrl) = false) :=
  ⟨⟨(wIn .run), 3, 5000000, by decide⟩,
   ⟨({ wIn .run with sup := { (wIn .run).sup with asleep := 1 } }), 3, 5, by decide⟩,
   ⟨(wIn .run), 37, 5000000, .m0, by decide⟩,
   ⟨({ wIn .run with mem := { State.resetMemory with frozen := [7, 9] } }), 41, 5000021, .m0, by decide⟩,
   ⟨(wIn .run), 27, 5000000, .m1, by decide⟩,
   ⟨({ wIn .run with mem := { State.resetMemory with dma := State.resetMemory.dma.modify 3 fun x => { x with run := true } } }), 3, 5, 3, by decide⟩,
   ⟨({ wIn .run with sup := { (wIn .run).sup with asleep := 1 } }), ((.main .m0)), 5, by decide⟩,
   ⟨(wIn .run), .m1, 5, by decide⟩,
   ⟨(wIn .run), by decide⟩,
   ⟨({ wIn .run with mem := { State.resetMemory with scrubbed := 1572863 } }), by decide⟩,
   ⟨({ wIn .run with sup := { (wIn .run).sup with asleep := 1 } }), 3, ((⟨0, 0x40000, 0x40100, 64, 0#32, 0, 0#32⟩ : DmaDesc)), by decide⟩,
   ⟨(wIn .run), 3, ((⟨0, 0x40000, 0x40100, 64, 0#32, 0, 0#32⟩ : DmaDesc)), by decide⟩,
   ⟨(wIn .run), 3, none, by decide⟩,
   ⟨({ { wIn .run with mem := { State.resetMemory with cells := [(0x40001, 5), (0x40106, 9)] } } with mem := { State.resetMemory with cells := [(0x40001, 5), (0x40106, 9)], dma := State.resetMemory.dma.modify 3 fun x => { x with run := true, desc := some (⟨0, 0x40000, 0x40100, 64, 0#32, 0, 0#32⟩ : DmaDesc) } } }), 3, ((⟨0, 0x40000, 0x40100, 64, 0#32, 0, 0#32⟩ : DmaDesc)), 8, by decide⟩,
   ⟨({ wIn .run with mem := { State.resetMemory with cells := [(0x40001, 5), (0x40106, 9)], dma := State.resetMemory.dma.modify 3 fun x => { x with run := true, desc := some (⟨0, 0x40000, 0x40100, 8, 0x20#32, 0, 0#32⟩ : DmaDesc) } } }), 3, ((⟨0, 0x40000, 0x40100, 8, 0x20#32, 0, 0#32⟩ : DmaDesc)), 8, by decide⟩,
   ⟨({ wIn .run with mem := { State.resetMemory with dma := State.resetMemory.dma.modify 3 fun x => { x with run := true, desc := some (⟨0, 0x40000, 0x40100, 64, 0#32, 0, 0#32⟩ : DmaDesc) } } }), 3, ((⟨0, 0x40000, 0x40100, 64, 0#32, 0, 0#32⟩ : DmaDesc)), by decide⟩,
   ⟨({ wIn .run with mem := { State.resetMemory with dma := State.resetMemory.dma.modify 3 fun x => { x with run := true, desc := some (⟨0, 0x40000, 0x700000, 64, 0#32, 0, 0#32⟩ : DmaDesc) } } }), 3, ((⟨0, 0x40000, 0x700000, 64, 0#32, 0, 0#32⟩ : DmaDesc)), by decide⟩⟩

/-- Each clause of DescriptorsAreChecked has a state that meets its hypotheses. -/
theorem witness_DescriptorsAreChecked :
  (∃ (s : State) (c : Fin 16) (d : DmaDesc), s.alive = true ∧ (s.dma c.val).run = false ∧ s.mem.dma.length = 16 ∧ ((d.addr % 32 ≠ 0 ∨ d.len % beatBytes d.ctrl ≠ 0 ∨ d.ctrl.toNat / 65536 ≠ 0 ∨ d.ctrl.toNat / 4 % 4 ≠ 0))) :=
  ⟨(wIn .run), 3, ((⟨8, 0x40000, 0x40100, 64, 0x80#32, 0, 0#32⟩ : DmaDesc)), by decide⟩

/-- Each clause of DurableWritesAndSelfTests has a state that meets its hypotheses. -/
theorem witness_DurableWritesAndSelfTests :
  (∃ (s : State) (ok : Bool), s.dict.persist = []) ∧
  (∃ (s : State) (w : PendPersist) (l : List PendPersist) (o : Obj) (p : Nat), s.dict.persist = w :: l ∧ w.req = none ∧ findObj w.key = some (o, p) ∧ o.grp ≠ 0 ∧ w.key ≠ O.ACTIVE_BANK.key 0 ∧ s.spent w.key = false ∧ (FaultCode.persWriteFail, 0) ∉ s.coll.conds) ∧
  (∃ (s : State) (w : PendPersist) (l : List PendPersist) (o : Obj) (p : Nat), s.dict.persist = w :: l ∧ w.req = none ∧ findObj w.key = some (o, p) ∧ o.grp = 0 ∧ w.key ≠ O.ACTIVE_BANK.key 0 ∧ w.key ≠ O.PERS_TIME_MAX.key 0 ∧ s.spent w.key = false ∧ (FaultCode.persWriteFail, 0) ∉ s.coll.conds) ∧
  (∃ (s : State) (w : PendPersist) (l : List PendPersist), s.dict.persist = w :: l ∧ w.retried = false) ∧
  (∃ (s : State) (w : PendPersist) (l : List PendPersist) (id : ReqId), s.dict.persist = w :: l ∧ w.retried = true ∧ w.req = some id ∧ (FaultCode.persWriteFail, 0) ∉ s.coll.conds) ∧
  (∃ (s : State) (k : NvKind), s.alive = true) ∧
  (∃ (s : State) (k : NvKind), s.alive = true ∧ (FaultCode.nvCe, 0) ∉ s.coll.conds) ∧
  (∃ (s : State), s.alive = true ∧ s.nv.activeBank ≠ none ∧ (FaultCode.nvUe, 0) ∉ s.coll.conds ∧ firstFault s .mapReadErr) ∧
  (∃ (s : State), s.spent (O.OP_TIME.key 0) = false) ∧
  (∃ (s : State), ((s.sys.dev.serves = false ∨ s.rotates = false))) ∧
  (∃ (s : State) (k : Nat), s.sys.dev.serves = true ∧ s.rotates = true ∧ s.get O.ROT_NEXT = (32 + k : Nat) ∧ k < 12 ∧ s.outOfRotation (32 + k) = false ∧ s.mem.test = none ∧ s.mem.linkSpare = none ∧ s.applyingSafe = false) ∧
  (∃ (s : State), s.sys.dev.serves = true ∧ s.rotates = true ∧ s.outOfRotation (s.getN O.ROT_NEXT) = false ∧ s.mem.test ≠ none) ∧
  (∃ (s : State) (n : Nat) (sig : Nat) (cyc : Nat) (det : Nat) (cut : Bool) (mis : Bool), s.mem.test = none) ∧
  (∃ (s : State) (k : Nat) (sig : Nat) (cyc : Nat) (det : Nat) (b : Nat), s.mem.test = some ⟨32 + k, false, b⟩ ∧ k < 12 ∧ s.dict.commits = []) ∧
  (∃ (s : State) (k : Nat) (sig : Nat) (cyc : Nat) (det : Nat) (b : Nat), s.mem.test = some ⟨32 + k, false, b⟩ ∧ k < 12 ∧ s.dict.commits = [] ∧ s.mem.linkSpare = none ∧ (FaultCode.stFail, 32 + k) ∉ s.coll.conds ∧ (FaultCode.stOverdue, 32 + k) ∉ s.coll.conds) ∧
  (∃ (s : State) (n : Nat), s.sys.dev.serves = true ∧ n ∈ rotOrder ∧ s.outOfRotation n = false ∧ s.mem.passAt = [] ∧ s.sup.startAt + 30000000 ≤ s.now ∧ (FaultCode.stOverdue, n) ∉ s.coll.conds) ∧
  (∃ (s : State) (n : Nat), n ∉ rotOrder) ∧
  (∃ (s : State) (r : Req) (n : Byte), writeRuns s r O.ST_REQUEST 0 n.toNat ∧ destructive n.toNat = true ∧ s.levelOf r.port r.session = some .srv) ∧
  (∃ (s : State) (r : Req) (n : Byte), writeRuns s r O.ST_REQUEST 0 n.toNat ∧ testExists n.toNat = false) ∧
  (∃ (s : State) (r : Req), writeRuns s r O.ST_REQUEST 0 1 ∧ s.sys.dev = .standby ∧ s.sup.readyPhase = .idle ∧ s.sup.entering = none ∧ s.mem.test = none ∧ 1 ∉ s.mem.failed) ∧
  (∃ (s : State) (r : Req), writeRuns s r O.ST_ABORT 0 1 ∧ s.requested = false) ∧
  (∃ (s : State) (r : Req) (b : Nat), writeRuns s r O.ST_ABORT 0 1 ∧ s.mem.test = some ⟨1, true, b⟩) ∧
  (∃ (s : State) (q : Bool) (b : Nat), s.mem.test = some ⟨1, q, b⟩ ∧ b < 24576) ∧
  (∃ (s : State), s.mem.test = none) :=
  ⟨⟨(wIn .run), true, by decide⟩,
   ⟨({ wIn .run with dict := { State.resetDict with persist := [⟨O.CLAMP_ON.key 0, 7500, none, false, 0⟩] } }), (⟨O.CLAMP_ON.key 0, 7500, none, false, 0⟩), ([]), O.CLAMP_ON, 0, by decide +kernel⟩,
   ⟨({ wIn .run with dict := { State.resetDict with persist := [⟨O.CONFIG.key 0, 1, none, false, 0⟩] } }), (⟨O.CONFIG.key 0, 1, none, false, 0⟩), ([]), O.CONFIG, 0, by decide +kernel⟩,
   ⟨({ wIn .run with dict := { State.resetDict with persist := [⟨O.CONFIG.key 0, 1, none, false, 0⟩] } }), (⟨O.CONFIG.key 0, 1, none, false, 0⟩), ([]), by decide⟩,
   ⟨({ wIn .run with dict := { State.resetDict with persist := [⟨O.CONFIG.key 0, 1, some ⟨.spi, 0, 2, 1, 0, 0, 1⟩, true, 0⟩] } }), (⟨O.CONFIG.key 0, 1, some ⟨.spi, 0, 2, 1, 0, 0, 1⟩, true, 0⟩), ([]), (⟨.spi, 0, 2, 1, 0, 0, 1⟩), by decide⟩,
   ⟨({ wIn .run with dict := { State.resetDict with persist := [⟨O.CONFIG.key 0, 1, none, false, 0⟩] } }), .staging, by decide⟩,
   ⟨(wIn .run), .staging, by decide⟩,
   ⟨({ wIn .run with nv := { State.resetNv with activeBank := some 1 } }), by decide⟩,
   ⟨(wIn .run), by decide⟩,
   ⟨((wIn .run).set O.ROT_ENABLE 0), by decide⟩,
   ⟨((({ wIn .standby with hlm := { State.resetHelmet with permit := true } }).set O.ROT_NEXT 43)), 11, by decide⟩,
   ⟨({ wIn .ready with mem := { State.resetMemory with test := some ⟨9, false, 0⟩ } }), by decide⟩,
   ⟨(wIn .run), 1, 2, 3, 4, true, true, by decide⟩,
   ⟨({ wIn .ready with mem := { State.resetMemory with test := some ⟨40, false, 0⟩ } }), 8, 1, 2, 3, 0, by decide⟩,
   ⟨({ wIn .ready with mem := { State.resetMemory with test := some ⟨40, false, 0⟩ } }), 8, 1, 2, 3, 0, by decide⟩,
   ⟨({ wIn .run with now := 30000000 }), 40, by decide⟩,
   ⟨(wIn .run), 1, by decide⟩,
   ⟨({ wSpi (wIn .service) with sec := { State.resetSecurity with sessions := [⟨.spi, 1, .srv, 0⟩] } }), wReqS, 2, by decide⟩,
   ⟨(wSpi (wIn .standby)), wReqS, 7, by decide⟩,
   ⟨(wSpi (wIn .standby)), wReqS, by decide⟩,
   ⟨(wSpi (wIn .standby)), wReqS, by decide⟩,
   ⟨({ wSpi (wIn .standby) with mem := { State.resetMemory with test := some ⟨1, true, 5⟩ } }), wReqS, 5, by decide⟩,
   ⟨({ wIn .standby with mem := { State.resetMemory with test := some ⟨1, true, 24575⟩ } }), true, 24575, by decide⟩,
   ⟨(wIn .run), by decide⟩⟩

/-- Each clause of CommitsPutValuesInForce has a state that meets its hypotheses. -/
theorem witness_CommitsPutValuesInForce :
  (∃ (s : State) (r : Req) (n : IslIx) (i : Instr) (o : Obj) (p : Nat) (isls : List IslIx) (chk : State → Option Nat), ((i, o, p, isls, chk) ∈ ([(.tempCommit r, O.COMMIT_2A20, 0, [], tempCheck), (.islandGlobalCommit r, O.COMMIT_260F, 0, allIslands, fun _ => none), (.islandCommit r n, O.COMMIT_ISL, n.val, [n], fun _ => none), (.sensingCommit r, O.COMMIT_25FF, 0, lowIslands, sensingCheck), (.positionCommit r, O.COMMIT_24FF, 0, [], positionCheck), (.limitCommit r, O.COMMIT_21FF, 0, [], fun _ => none), (.fieldLoopCommit r, O.COMMIT_22FF, 0, [], fieldCheckAll), (.solverCommit r, O.COMMIT_23FF, 0, [], fun _ => none), (.traceCommit r, O.COMMIT_2EFF, 0, [], traceCheck ((s.levelOf r.port r.session).getD .opr)), (.chargerCommit r, O.COMMIT_29FF, 0, [], chargerCheck), (.protectionCommit r true, O.COMMIT_27FF, 0, [], protectionCheck), (.selftestCommit r, O.COMMIT_2BFF, 0, [], fun _ => none), (.mappingCommit r, O.COMMIT_20FF, 0, [], mappingCheck)] : List (Instr × Obj × Nat × List IslIx × (State → Option Nat)))) ∧ commitsNow s r o p ∧ chk (atBody s r o p) = none) ∧
  (∃ (s : State) (r : Req), commitsNow s r O.COMMIT_11FF 0 ∧ netCheck (atBody s r O.COMMIT_11FF 0) = none ∧ ((∀ x ∈ s.sec.sessions, portCode x.port ≠ 2))) ∧
  (∃ (s : State) (r : Req), commitsNow s r O.COMMIT_2CFF 0 ∧ spanCheck (atBody s r O.COMMIT_2CFF 0) = none ∧ s.staged.find? (O.SPAN_NODE.key 0) = none) ∧
  (∃ (s : State) (r : Req) (v : Int), commitsNow s r O.COMMIT_2CFF 0 ∧ spanCheck (atBody s r O.COMMIT_2CFF 0) = none ∧ s.staged.find? (O.SPAN_NODE.key 0) = some v ∧ v ≠ s.get O.SPAN_NODE) ∧
  (∃ (s : State) (r : Req), commitsNow s r O.COMMIT_28FF 0 ∧ ((∀ e ∈ s.si.evs, e.posted = false))) :=
  ⟨⟨({ wSpi (wBare .standby) with staged := [(O.TEMP_WARN.key 0, 1340)] }), wReqS, 4, (.tempCommit wReqS), O.COMMIT_2A20, 0, ([]), tempCheck, by simp [wReqS], by decide, by decide⟩,
   ⟨({ wSpi (wBare .standby) with staged := [(O.RX_BUF_COUNT.key 0, 8)] }), wReqS, by decide⟩,
   ⟨({ wSpi (wBare .standby) with staged := [(O.SHARE.key 0, 8)] }), wReqS, by decide⟩,
   ⟨({ wSpi (wBare .standby) with staged := [(O.SPAN_NODE.key 0, 3)] }), wReqS, 3, by decide⟩,
   ⟨({ wSpi (wBare .standby) with staged := [(O.DISC_T.key 0, 30)] }), wReqS, by decide⟩⟩

/-- Each clause of CommitsWaitForTheBoundary has a state that meets its hypotheses. -/
theorem witness_CommitsWaitForTheBoundary :
  (∃ (s : State) (r : Req) (n : IslIx) (i : Instr) (o : Obj) (p : Nat) (isls : List IslIx) (chk : State → Option Nat), ((i, o, p, isls, chk) ∈ ([(.tempCommit r, O.COMMIT_2A20, 0, [], tempCheck), (.islandGlobalCommit r, O.COMMIT_260F, 0, allIslands, fun _ => none), (.islandCommit r n, O.COMMIT_ISL, n.val, [n], fun _ => none), (.sensingCommit r, O.COMMIT_25FF, 0, lowIslands, sensingCheck), (.positionCommit r, O.COMMIT_24FF, 0, [], positionCheck), (.limitCommit r, O.COMMIT_21FF, 0, [], fun _ => none), (.fieldLoopCommit r, O.COMMIT_22FF, 0, [], fieldCheckAll), (.solverCommit r, O.COMMIT_23FF, 0, [], fun _ => none), (.traceCommit r, O.COMMIT_2EFF, 0, [], traceCheck ((s.levelOf r.port r.session).getD .opr)), (.chargerCommit r, O.COMMIT_29FF, 0, [], chargerCheck), (.protectionCommit r true, O.COMMIT_27FF, 0, [], protectionCheck), (.selftestCommit r, O.COMMIT_2BFF, 0, [], fun _ => none), (.mappingCommit r, O.COMMIT_20FF, 0, [], mappingCheck), (.netCommit r, O.COMMIT_11FF, 0, [], netCheck), (.spanCommit r, O.COMMIT_2CFF, 0, [], spanCheck), (.siCommit r true, O.COMMIT_28FF, 0, [], fun _ => none)] : List (Instr × Obj × Nat × List IslIx × (State → Option Nat)))) ∧ commitsLater s r o p ∧ chk (atBody s r o p) = none) :=
  ⟨({ wSpi (wIn .ready) with staged := [(O.TEMP_WARN.key 0, 1340)] }), wReqS, 4, (.tempCommit wReqS), O.COMMIT_2A20, 0, ([]), tempCheck, by simp [wReqS], by decide, by decide⟩

/-- Each clause of CommitsRefuseBadValues has a state that meets its hypotheses. -/
theorem witness_CommitsRefuseBadValues :
  (∃ (s : State) (r : Req) (i : Instr) (o : Obj) (chk : State → Option Nat) (c : Nat), ((i, o, chk) ∈ ([(.tempCommit r, O.COMMIT_2A20, tempCheck), (.sensingCommit r, O.COMMIT_25FF, sensingCheck), (.positionCommit r, O.COMMIT_24FF, positionCheck), (.fieldLoopCommit r, O.COMMIT_22FF, fieldCheckAll), (.traceCommit r, O.COMMIT_2EFF, traceCheck ((s.levelOf r.port r.session).getD .opr)), (.chargerCommit r, O.COMMIT_29FF, chargerCheck), (.protectionCommit r true, O.COMMIT_27FF, protectionCheck), (.mappingCommit r, O.COMMIT_20FF, mappingCheck), (.netCommit r, O.COMMIT_11FF, netCheck), (.spanCommit r, O.COMMIT_2CFF, spanCheck)] : List (Instr × Obj × (State → Option Nat)))) ∧ writeRuns s r o 0 1 ∧ chk (atBody s r o 0) = some c) ∧
  (∃ (s : State) (r : Req), writeRuns s r O.COMMIT_27FF 0 1 ∧ protectionCheck (atBody s r O.COMMIT_27FF 0) = none) ∧
  (∃ (s : State) (r : Req), writeRuns s r O.COMMIT_28FF 0 1) :=
  ⟨⟨({ wSpi (wBare .standby) with staged := [(O.TEMP_WARN.key 0, 1500)] }), wReqS, (.tempCommit wReqS), O.COMMIT_2A20, tempCheck, abortValue, by simp [wReqS], by decide, by decide⟩,
   ⟨({ wSpi (wBare .standby) with staged := [(O.N_FILT_H.key 0, 3)] }), wReqS, by decide⟩,
   ⟨({ wSpi (wBare .standby) with staged := [(O.DISC_T.key 0, 30)] }), wReqS, by decide⟩⟩

/-- Each clause of ReadsAndWritesOfAnyObject has a state that meets its hypotheses. -/
theorem witness_ReadsAndWritesOfAnyObject :
  (∃ (s : State) (r : Req) (idx : Half) (sub : Byte) (o : Obj) (p : Nat), takesIn s r 0x01 (keyOf idx sub) = true ∧ isSubZero (keyOf idx sub) = false ∧ findObj (keyOf idx sub) = some (o, p) ∧ o.ty.isDomain = false ∧ o.acc ≠ .wo ∧ ((o.acc = .ro → o.lvl.num ≤ (s.levelReq r).num)) ∧ o ∉ noMeasure) ∧
  (∃ (s : State) (r : Req) (idx : Half) (sub : Byte) (o : Obj) (p : Nat), takesIn s r 0x01 (keyOf idx sub) = true ∧ isSubZero (keyOf idx sub) = false ∧ findObj (keyOf idx sub) = some (o, p) ∧ o ∈ noMeasure ∧ o.lvl.num ≤ (s.levelReq r).num) ∧
  (∃ (s : State) (r : Req) (idx : Half) (sub : Byte), takesIn s r 0x01 (keyOf idx sub) = true ∧ isSubZero (keyOf idx sub) = true) ∧
  (∃ (s : State) (r : Req) (idx : Half) (sub : Byte), takesIn s r 0x01 (keyOf idx sub) = true ∧ isSubZero (keyOf idx sub) = false ∧ findObj (keyOf idx sub) = none) ∧
  (∃ (s : State) (r : Req) (idx : Half) (sub : Byte) (o : Obj) (p : Nat), takesIn s r 0x01 (keyOf idx sub) = true ∧ isSubZero (keyOf idx sub) = false ∧ findObj (keyOf idx sub) = some (o, p) ∧ ((o.ty.isDomain = true ∨ o.acc = .wo ∨ o.acc = .ro ∧ (s.levelReq r).num < o.lvl.num))) ∧
  (∃ (s : State) (r : Req) (idx : Half) (sub : Byte) (o : Obj) (p : Nat) (d : List Byte), findObj (keyOf idx sub) = some (o, p) ∧ o.key p = keyOf idx sub ∧ isSubZero (keyOf idx sub) = false ∧ writeRuns s r o p (o.ty.decode d) ∧ d.length = o.ty.bytes ∧ s.writeOwn r o p (o.ty.decode d) = none ∧ s.noWrite o p = false ∧ (atBody s r o p).ownerRule o p (o.ty.decode d) = none ∧ o.acc ≠ .rwp ∧ o.grp = 0 ∧ o ∉ [O.REQ_ACCEPTED, O.REQ_ABORTED]) ∧
  (∃ (s : State) (r : Req) (idx : Half) (sub : Byte) (o : Obj) (p : Nat) (d : List Byte), findObj (keyOf idx sub) = some (o, p) ∧ o.key p = keyOf idx sub ∧ isSubZero (keyOf idx sub) = false ∧ writeRuns s r o p (o.ty.decode d) ∧ d.length = o.ty.bytes ∧ s.writeOwn r o p (o.ty.decode d) = none ∧ s.noWrite o p = false ∧ (atBody s r o p).ownerRule o p (o.ty.decode d) = none ∧ o.acc ≠ .rwp ∧ o.grp ≠ 0) ∧
  (∃ (s : State) (r : Req) (idx : Half) (sub : Byte) (o : Obj) (p : Nat) (d : List Byte), findObj (keyOf idx sub) = some (o, p) ∧ o.key p = keyOf idx sub ∧ isSubZero (keyOf idx sub) = false ∧ writeRuns s r o p (o.ty.decode d) ∧ d.length = o.ty.bytes ∧ s.writeOwn r o p (o.ty.decode d) = none ∧ s.noWrite o p = false ∧ (atBody s r o p).ownerRule o p (o.ty.decode d) = none ∧ o.acc = .rwp ∧ s.spent (o.key p) = false) ∧
  (∃ (s : State) (r : Req) (idx : Half) (sub : Byte) (d : List Byte) (o : Obj) (i : Instr), (o, i) ∈ [(O.COMMIT_2A20, Instr.tempCommit r), (O.COMMIT_260F, .islandGlobalCommit r), (O.COMMIT_24FF, .positionCommit r), (O.COMMIT_22FF, .fieldLoopCommit r), (O.ACTIVATE, .activate r), (O.COMMIT_23FF, .solverCommit r), (O.COMMIT_2EFF, .traceCommit r), (O.ENERGY_CLEAR, .energyClear r), (O.COMMIT_29FF, .chargerCommit r), (O.LOG_CLEAR, .logClear r), (O.ST_ABORT, .stAbort r), (O.COMMIT_20FF, .mappingCommit r)] ∧ keyOf idx sub = o.key 0 ∧ d = [1]) ∧
  (∃ (s : State) (r : Req) (idx : Half) (sub : Byte) (d : List Byte), takesIn s r 0x02 (keyOf idx sub) = true ∧ isSubZero (keyOf idx sub) = false ∧ findObj (keyOf idx sub) = none) ∧
  (∃ (s : State) (r : Req) (idx : Half) (sub : Byte) (o : Obj) (p : Nat) (d : List Byte), takesIn s r 0x02 (keyOf idx sub) = true ∧ isSubZero (keyOf idx sub) = false ∧ findObj (keyOf idx sub) = some (o, p) ∧ o.ty.isDomain = true) ∧
  (∃ (s : State) (r : Req) (idx : Half) (sub : Byte) (o : Obj) (p : Nat) (d : List Byte), takesIn s r 0x02 (keyOf idx sub) = true ∧ isSubZero (keyOf idx sub) = false ∧ findObj (keyOf idx sub) = some (o, p) ∧ s.checkAccess r.port (s.levelReq r) o = none ∧ d.length ≠ o.ty.bytes) ∧
  (∃ (s : State) (r : Req) (idx : Half) (sub : Byte) (o : Obj) (p : Nat) (c : Nat) (d : List Byte), takesIn s r 0x02 (keyOf idx sub) = true ∧ isSubZero (keyOf idx sub) = false ∧ findObj (keyOf idx sub) = some (o, p) ∧ o.key p = keyOf idx sub ∧ o.acc ≠ .rwp ∧ d.length = o.ty.bytes ∧ s.noWrite o p = false ∧ s.writeOwn r o p (o.ty.decode d) = none ∧ s.checkWrite r o (o.ty.decode d) = some c) ∧
  (∃ (s : State) (r : Req) (cmd : Byte) (idx : Half) (sub : Byte), takesIn s r cmd.toNat (keyOf idx sub) = true) ∧
  (∃ (s : State) (h : Option Port), s.dict.busyHold = h) :=
  ⟨⟨(wSpi (wBare .standby)), wReqS, ((BitVec.ofNat 16 ((O.TEMP_WARN.key 0) / 256))), ((BitVec.ofNat 8 (O.TEMP_WARN.key 0))), O.TEMP_WARN, 0, by decide⟩,
   ⟨(wSpi (wBare .standby)), wReqS, ((BitVec.ofNat 16 ((O.RAIL_MEAS.key 2) / 256))), ((BitVec.ofNat 8 (O.RAIL_MEAS.key 2))), O.RAIL_MEAS, 2, by decide⟩,
   ⟨(wSpi (wBare .standby)), wReqS, 0x2A20, 0, by decide +kernel⟩,
   ⟨(wSpi (wBare .standby)), wReqS, 0x2A20, 77, by decide +kernel⟩,
   ⟨(wSpi (wBare .standby)), wReqS, ((BitVec.ofNat 16 ((O.COMMIT_2A20.key 0) / 256))), ((BitVec.ofNat 8 (O.COMMIT_2A20.key 0))), O.COMMIT_2A20, 0, by decide⟩,
   ⟨(wSpi (wBare .standby)), wReqS, ((BitVec.ofNat 16 ((O.CMD_MODE.key 0) / 256))), ((BitVec.ofNat 8 (O.CMD_MODE.key 0))), O.CMD_MODE, 0, ([1]), by decide⟩,
   ⟨(wSpi (wBare .standby)), wReqS, ((BitVec.ofNat 16 ((O.TRIG_SRC.key 0) / 256))), ((BitVec.ofNat 8 (O.TRIG_SRC.key 0))), O.TRIG_SRC, 0, ([2]), by decide⟩,
   ⟨(wSpi (wBare .standby)), wReqS, ((BitVec.ofNat 16 ((O.TEMP_WARN.key 0) / 256))), ((BitVec.ofNat 8 (O.TEMP_WARN.key 0))), O.TEMP_WARN, 0, ([0x3C, 5]), by decide⟩,
   ⟨(wSpi (wBare .standby)), wReqS, ((BitVec.ofNat 16 ((O.COMMIT_2A20.key 0) / 256))), ((BitVec.ofNat 8 (O.COMMIT_2A20.key 0))), ([1]), O.COMMIT_2A20, ((.tempCommit wReqS)), by decide⟩,
   ⟨(wSpi (wBare .standby)), wReqS, 0x2A20, 77, ([1]), by decide +kernel⟩,
   ⟨(wSpi (wBare .standby)), wReqS, ((BitVec.ofNat 16 ((O.FW_DATA.key 0) / 256))), ((BitVec.ofNat 8 (O.FW_DATA.key 0))), O.FW_DATA, 0, ([1]), by decide +kernel⟩,
   ⟨(wSpi (wBare .standby)), wReqS, ((BitVec.ofNat 16 ((O.TEMP_WARN.key 0) / 256))), ((BitVec.ofNat 8 (O.TEMP_WARN.key 0))), O.TEMP_WARN, 0, ([1]), by decide⟩,
   ⟨(wSpi (wBare .standby)), wReqS, ((BitVec.ofNat 16 ((O.CMD_MODE.key 0) / 256))), ((BitVec.ofNat 8 (O.CMD_MODE.key 0))), O.CMD_MODE, 0, 0x15, ([7]), by decide⟩,
   ⟨(wSpi (wBare .standby)), wReqS, 0x77, 0x2A20, 77, by decide⟩,
   ⟨({ wIn .run with dict := { State.resetDict with busyHold := some (.can 1) } }), (some (.can 1)), by decide⟩⟩

/-- Each clause of ProcessFrames has a state that meets its hypotheses. -/
theorem witness_ProcessFrames :
  (∃ (s : State) (port : Port) (p : Fin 8) (d : List Byte), ((s.sys.dev.serves = false ∨ s.portOpen port = false ∨ s.get O.PROC_PORT p.val ≠ portCode port))) ∧
  (∃ (s : State) (port : Port) (p : Fin 8) (d : List Byte), s.sys.dev.serves = true ∧ s.portOpen port = true ∧ s.get O.PROC_PORT p.val = portCode port ∧ d.length < mapBytes (entriesOf (fun o q => s.get o q) O.RX_COUNT O.RX_ENTRY p.val) ∧ (FaultCode.procReject, 0) ∉ s.coll.conds) ∧
  (∃ (s : State) (port : Port) (p : Fin 8) (d : List Byte) (l : List (Nat × Int)) (e : Nat × Int) (c : Nat), s.sys.dev.serves = true ∧ s.portOpen port = true ∧ s.get O.PROC_PORT p.val = portCode port ∧ s.getB O.PROC_AUTH p.val = false ∧ mapBytes (entriesOf (fun o q => s.get o q) O.RX_COUNT O.RX_ENTRY p.val) ≤ d.length ∧ l = cutEntries (entriesOf (fun o q => s.get o q) O.RX_COUNT O.RX_ENTRY p.val) (d.take (mapBytes (entriesOf (fun o q => s.get o q) O.RX_COUNT O.RX_ENTRY p.val))) ∧ e ∈ l ∧ s.procEntry port e = some c ∧ (FaultCode.procReject, 0) ∉ s.coll.conds) ∧
  (∃ (s : State) (port : Port) (p : Fin 8) (d : List Byte) (l : List (Nat × Int)), s.sys.dev.serves = true ∧ s.portOpen port = true ∧ s.get O.PROC_PORT p.val = portCode port ∧ s.getB O.PROC_AUTH p.val = false ∧ mapBytes (entriesOf (fun o q => s.get o q) O.RX_COUNT O.RX_ENTRY p.val) ≤ d.length ∧ l = cutEntries (entriesOf (fun o q => s.get o q) O.RX_COUNT O.RX_ENTRY p.val) (d.take (mapBytes (entriesOf (fun o q => s.get o q) O.RX_COUNT O.RX_ENTRY p.val))) ∧ (l.map Prod.fst).Nodup ∧ ((∀ e ∈ l, s.procEntry port e = none)) ∧ ((∀ e ∈ l, e.1 ≠ O.CONTROL_WORD.key 0)) ∧ s.carrier = false) ∧
  (∃ (s : State) (port : Port) (p : Fin 8) (d : List Byte) (l : List (Nat × Int)), s.sys.dev.serves = true ∧ s.portOpen port = true ∧ s.get O.PROC_PORT p.val = portCode port ∧ s.getB O.PROC_AUTH p.val = false ∧ mapBytes (entriesOf (fun o q => s.get o q) O.RX_COUNT O.RX_ENTRY p.val) ≤ d.length ∧ l = cutEntries (entriesOf (fun o q => s.get o q) O.RX_COUNT O.RX_ENTRY p.val) (d.take (mapBytes (entriesOf (fun o q => s.get o q) O.RX_COUNT O.RX_ENTRY p.val))) ∧ (l.map Prod.fst).Nodup ∧ ((∀ e ∈ l, s.procEntry port e = none)) ∧ ((∀ e ∈ l, e.1 ∈ [O.CMD_MODE.key 0, O.TORQUE_CMD.key 0, O.SPEED_CMD.key 0, O.TQ_LIM_POS.key 0, O.TQ_LIM_NEG.key 0, O.I_OUT_CMD.key 0])) ∧ s.carrier = true) ∧
  (∃ (s : State) (port : Port) (p : Fin 8) (d : List Byte) (n : Nat), s.sys.dev.serves = true ∧ s.portOpen port = true ∧ s.get O.PROC_PORT p.val = portCode port ∧ s.getB O.PROC_AUTH p.val = true ∧ n = mapBytes (entriesOf (fun o q => s.get o q) O.RX_COUNT O.RX_ENTRY p.val) ∧ n ≤ d.length ∧ d.length < n + 4 ∧ ((∀ x ∈ s.coll.conds, x.1 ≠ FaultCode.canAuthFail))) ∧
  (∃ (s : State) (p : Fin 8) (d : List Byte) (n : Nat), s.sys.dev.serves = true ∧ s.portOpen .spi = true ∧ s.get O.PROC_PORT p.val = 3 ∧ s.getB O.PROC_AUTH p.val = true ∧ n = mapBytes (entriesOf (fun o q => s.get o q) O.RX_COUNT O.RX_ENTRY p.val) ∧ n ≤ d.length) ∧
  (∃ (s : State) (p : Fin 8), ((s.sys.dev.serves = false ∨ s.get O.TX_CYCLE p.val = 0))) ∧
  (∃ (s : State) (p : Fin 8) (b : List Byte), s.sys.dev.serves = true ∧ s.get O.TX_CYCLE p.val ≠ 0 ∧ s.get O.TX_PORT p.val = 3 ∧ s.getB O.TX_AUTH p.val = false ∧ s.net.samples.length = 8 ∧ b = ((entriesOf (fun o q => s.get o q) O.TX_COUNT O.TX_ENTRY p.val).map (s.send []).entryData).flatten) ∧
  (∃ (s : State) (p : Fin 8) (b : List Byte) (c : Nat), s.sys.dev.serves = true ∧ s.get O.TX_CYCLE p.val ≠ 0 ∧ s.get O.TX_PORT p.val = 3 ∧ s.getB O.TX_AUTH p.val = true ∧ s.net.samples.length = 8 ∧ c = (s.net.txCtr.lookup p.val).getD 0 + 1 ∧ c < 2 ^ 32 ∧ b = ((entriesOf (fun o q => s.get o q) O.TX_COUNT O.TX_ENTRY p.val).map (s.send []).entryData).flatten) ∧
  (∃ (s : State) (p : Fin 8) (b : List Byte) (f : CanFrame) (k : Nat), s.sys.dev.serves = true ∧ s.get O.TX_CYCLE p.val ≠ 0 ∧ s.get O.TX_PORT p.val = 1 ∧ s.getB O.TX_AUTH p.val = false ∧ s.get O.TX_QUEUE p.val = 0 ∧ k = s.getN O.HOST_CH_ACTIVE ∧ k < s.net.can.length ∧ s.canHost k = true ∧ (s.canCh k).safety = [] ∧ (s.canCh k).sending = none ∧ (s.canCh k).busOff = false ∧ b = ((entriesOf (fun o q => s.get o q) O.TX_COUNT O.TX_ENTRY p.val).map (s.send []).entryData).flatten ∧ f = ⟨BitVec.ofNat 32 (s.getN O.TX_ID p.val), true, padTo (dlcLen b.length) b⟩) ∧
  (∃ (s : State) (p : Fin 8) (b : List Byte) (f : CanFrame) (k : Nat) (y : CanOut) (z : CanOut), s.sys.dev.serves = true ∧ s.get O.TX_CYCLE p.val ≠ 0 ∧ s.get O.TX_PORT p.val = 1 ∧ s.getB O.TX_AUTH p.val = false ∧ s.get O.TX_QUEUE p.val ≠ 0 ∧ k = s.getN O.HOST_CH_ACTIVE ∧ k < s.net.can.length ∧ s.canHost k = true ∧ (s.canCh k).process = [y, z] ∧ z.proc = some p.val ∧ (s.canCh k).sending = some 1 ∧ b = ((entriesOf (fun o q => s.get o q) O.TX_COUNT O.TX_ENTRY p.val).map (s.send []).entryData).flatten ∧ f = ⟨BitVec.ofNat 32 (s.getN O.TX_ID p.val), true, padTo (dlcLen b.length) b⟩) :=
  ⟨⟨(wIn .run), .spi, 2, ([1]), by decide⟩,
   ⟨(((((wSpi (wIn .ready)).set O.PROC_PORT 3 2).set O.RX_COUNT 2 2).set O.RX_ENTRY (O.CMD_MODE.key 0 * 256 + 8) 32).set O.RX_ENTRY (O.SPEED_CMD.key 0 * 256 + 32) 33), .spi, 2, ([1]), by decide⟩,
   ⟨(((((wSpi (wIn .ready)).set O.PROC_PORT 3 2).set O.RX_COUNT 2 2).set O.RX_ENTRY (O.CMD_MODE.key 0 * 256 + 8) 32).set O.RX_ENTRY (O.SPEED_CMD.key 0 * 256 + 32) 33), .spi, 2, ([7, 5, 0, 0, 0]), ([(O.CMD_MODE.key 0, (7 : Int)), (O.SPEED_CMD.key 0, (5 : Int))]), ((O.CMD_MODE.key 0, 7)), 0x15, by decide⟩,
   ⟨(((((wSpi (wBare .ready)).set O.PROC_PORT 3 2).set O.RX_COUNT 2 2).set O.RX_ENTRY (O.CMD_MODE.key 0 * 256 + 8) 32).set O.RX_ENTRY (O.SPEED_CMD.key 0 * 256 + 32) 33), .spi, 2, ([1, 5, 0, 0, 0]), ([(O.CMD_MODE.key 0, (1 : Int)), (O.SPEED_CMD.key 0, (5 : Int))]), by decide⟩,
   ⟨(((((wSpi (wIn .run)).set O.PROC_PORT 3 2).set O.RX_COUNT 2 2).set O.RX_ENTRY (O.CMD_MODE.key 0 * 256 + 8) 32).set O.RX_ENTRY (O.SPEED_CMD.key 0 * 256 + 32) 33), .spi, 2, ([1, 5, 0, 0, 0]), ([(O.CMD_MODE.key 0, (1 : Int)), (O.SPEED_CMD.key 0, (5 : Int))]), by decide⟩,
   ⟨((((((wSpi (wIn .ready)).set O.PROC_PORT 3 2).set O.RX_COUNT 2 2).set O.RX_ENTRY (O.CMD_MODE.key 0 * 256 + 8) 32).set O.RX_ENTRY (O.SPEED_CMD.key 0 * 256 + 32) 33).set O.PROC_AUTH 1 2), .spi, 2, ([1, 5, 0, 0, 0, 9]), 5, by decide⟩,
   ⟨((((((wSpi (wIn .ready)).set O.PROC_PORT 3 2).set O.RX_COUNT 2 2).set O.RX_ENTRY (O.CMD_MODE.key 0 * 256 + 8) 32).set O.RX_ENTRY (O.SPEED_CMD.key 0 * 256 + 32) 33).set O.PROC_AUTH 1 2), 2, ([1, 5, 0, 0, 0, 9, 8, 7, 6]), 5, by decide⟩,
   ⟨(wIn .run), 2, by decide⟩,
   ⟨((((((wSpi (wIn .ready)).set O.TX_PORT 3 2).set O.TX_CYCLE 1000 2).set O.TX_ID 0x123 2).set O.TX_COUNT 1 2).set O.TX_ENTRY (O.CONTROL_WORD.key 0 * 256 + 16) 32), 2, ([0, 0]), by decide +kernel⟩,
   ⟨(((((((wSpi (wIn .ready)).set O.TX_PORT 3 2).set O.TX_CYCLE 1000 2).set O.TX_ID 0x123 2).set O.TX_COUNT 1 2).set O.TX_ENTRY (O.CONTROL_WORD.key 0 * 256 + 16) 32).set O.TX_AUTH 1 2), 2, ([0, 0]), 1, by decide +kernel⟩,
   ⟨(((((((((wSpi (wIn .ready)).set O.TX_PORT 1 2).set O.TX_CYCLE 1000 2).set O.TX_ID 0x123 2).set O.TX_COUNT 1 2).set O.TX_ENTRY (O.CONTROL_WORD.key 0 * 256 + 16) 32).set O.CAN_ROLE 1 0).set O.HOST_CH_ACTIVE 0).set O.TX_QUEUE 0 2), 2, ([0, 0]), (⟨0x123, true, [0, 0]⟩), 0, by decide +kernel⟩,
   ⟨({ ((((((((wSpi (wIn .ready)).set O.TX_PORT 1 2).set O.TX_CYCLE 1000 2).set O.TX_ID 0x123 2).set O.TX_COUNT 1 2).set O.TX_ENTRY (O.CONTROL_WORD.key 0 * 256 + 16) 32).set O.CAN_ROLE 1 0).set O.HOST_CH_ACTIVE 0).set O.TX_QUEUE 1 2 with net := { State.resetNet with can := [{ State.resetCan with process := [⟨⟨5, true, []⟩, some 1⟩, ⟨⟨0x123, true, []⟩, some 2⟩], sending := some 1 }] } }), 2, ([0, 0]), (⟨0x123, true, [0, 0]⟩), 0, (⟨⟨5, true, []⟩, some 1⟩), (⟨⟨0x123, true, []⟩, some 2⟩), by decide +kernel⟩⟩

set_option maxRecDepth 2000 in
/-- Each clause of BlockTransfersOfDomains has a state that meets its hypotheses. -/
theorem witness_BlockTransfersOfDomains :
  (∃ (s : State) (r : Req) (idx : Half) (sub : Byte) (n : Nat) (w : Nat), takesIn s r 0x10 (keyOf idx sub) = true ∧ (taken s r (reqId s r 0x10 (keyOf idx sub))).startCheck r (keyOf idx sub) n w = none) ∧
  (∃ (s : State) (r : Req) (idx : Half) (sub : Byte) (n : Nat) (w : Nat) (c : Nat), takesIn s r 0x10 (keyOf idx sub) = true ∧ (taken s r (reqId s r 0x10 (keyOf idx sub))).startCheck r (keyOf idx sub) n w = some c) ∧
  (∃ (s : State) (r : Req) (idx : Half) (sub : Byte) (x : BlockW) (a : Nat) (d : List Byte), takesIn s r 0x11 (keyOf idx sub) = true ∧ s.dict.blockW = some x ∧ x.port = portBase r.port ∧ a = x.data.length ∧ 0 < d.length ∧ a + d.length ≤ x.total ∧ a % x.window + d.length ≤ x.window ∧ x.full < 2) ∧
  (∃ (s : State) (r : Req) (idx : Half) (sub : Byte) (x : BlockW) (a : Nat) (d : List Byte), takesIn s r 0x11 (keyOf idx sub) = true ∧ s.dict.blockW = some x ∧ x.port = portBase r.port ∧ ((a ≠ x.data.length ∨ x.total < a + d.length ∨ x.window < a % x.window + d.length ∨ 2 ≤ x.full))) ∧
  (∃ (s : State) (r : Req) (idx : Half) (sub : Byte) (h : Byte) (a : Nat) (d : List Byte), takesIn s r 0x11 (keyOf idx sub) = true ∧ s.writing r.port h = none) ∧
  (∃ (s : State) (r : Req) (idx : Half) (sub : Byte) (x : BlockW), takesIn s r 0x12 (keyOf idx sub) = true ∧ s.dict.blockW = some x ∧ x.port = portBase r.port ∧ x.full < 2) ∧
  (∃ (s : State) (r : Req) (idx : Half) (sub : Byte) (x : BlockW), takesIn s r 0x12 (keyOf idx sub) = true ∧ s.dict.blockW = some x ∧ x.port = portBase r.port ∧ 2 ≤ x.full ∧ x.whole = true) ∧
  (∃ (s : State), ((∀ x ∈ s.dict.blockW, x.full = 0))) ∧
  (∃ (s : State) (x : BlockW), s.dict.blockW = some x ∧ 0 < x.full ∧ x.ending = none) ∧
  (∃ (s : State) (x : BlockW) (id : ReqId) (crc : Word), s.dict.blockW = some x ∧ x.full = 1 ∧ x.ending = some (id, crc) ∧ x.waiting = []) ∧
  (∃ (s : State) (r : Req) (idx : Half) (sub : Byte) (x : BlockW) (crc : Word), takesIn s r 0x13 (keyOf idx sub) = true ∧ s.dict.blockW = some x ∧ x.port = portBase r.port ∧ ((x.data.length < x.total ∨ x.ending.isSome = true))) ∧
  (∃ (s : State) (r : Req) (idx : Half) (sub : Byte) (x : BlockW) (crc : Word), takesIn s r 0x13 (keyOf idx sub) = true ∧ s.dict.blockW = some x ∧ x.port = portBase r.port ∧ x.total ≤ x.data.length ∧ x.ending = none ∧ 0 < x.full) ∧
  (∃ (s : State) (r : Req) (idx : Half) (sub : Byte) (x : BlockW) (crc : Word), takesIn s r 0x13 (keyOf idx sub) = true ∧ s.dict.blockW = some x ∧ x.port = portBase r.port ∧ x.total ≤ x.data.length ∧ x.ending = none ∧ x.full = 0 ∧ crc32 x.data = crc ∧ x.key = O.FW_DATA.key 0 ∧ s.nv.sec.slotA.state = 1 ∧ s.nv.sec.slotB.state ≠ 1 ∧ s.coll.conds = []) ∧
  (∃ (s : State) (r : Req) (idx : Half) (sub : Byte) (x : BlockW) (crc : Word), takesIn s r 0x13 (keyOf idx sub) = true ∧ s.dict.blockW = some x ∧ x.port = portBase r.port ∧ x.total ≤ x.data.length ∧ x.ending = none ∧ x.full = 0 ∧ crc32 x.data ≠ crc ∧ x.waiting = [] ∧ (FaultCode.blockAborted, 0) ∉ s.coll.conds) ∧
  (∃ (s : State) (r : Req) (idx : Half) (sub : Byte) (o : Obj) (p : Nat) (d : List Byte), takesIn s r 0x18 (keyOf idx sub) = true ∧ isSubZero (keyOf idx sub) = false ∧ findObj (keyOf idx sub) = some (o, p) ∧ o.ty.isDomain = true ∧ o.acc ≠ .wo ∧ o.lvl.num ≤ (s.levelReq r).num ∧ s.dict.blockR = none ∧ (taken s r (reqId s r 0x18 (keyOf idx sub))).domain (keyOf idx sub) = .ok d) ∧
  (∃ (s : State) (r : Req) (idx : Half) (sub : Byte) (o : Obj) (p : Nat), takesIn s r 0x18 (keyOf idx sub) = true ∧ isSubZero (keyOf idx sub) = false ∧ findObj (keyOf idx sub) = some (o, p) ∧ o.ty.isDomain = true ∧ o.acc ≠ .wo ∧ o.lvl.num ≤ (s.levelReq r).num ∧ s.dict.blockR.isSome = true) ∧
  (∃ (s : State) (r : Req) (idx : Half) (sub : Byte) (x : BlockR) (a : Nat) (n : Nat), takesIn s r 0x19 (keyOf idx sub) = true ∧ s.dict.blockR = some x ∧ x.port = portBase r.port ∧ a + min n (s.maxRequest r.port - 8) < x.data.length) ∧
  (∃ (s : State) (r : Req) (idx : Half) (sub : Byte) (x : BlockR) (a : Nat) (n : Nat), takesIn s r 0x19 (keyOf idx sub) = true ∧ s.dict.blockR = some x ∧ x.port = portBase r.port ∧ x.key ≠ O.TRACE_DATA.key 0 ∧ a ≤ x.data.length ∧ x.data.length ≤ a + min n (s.maxRequest r.port - 8) ∧ (FaultCode.blockAborted, 0) ∉ s.coll.conds) ∧
  (∃ (s : State) (r : Req) (idx : Half) (sub : Byte) (h : Byte) (a : Nat) (n : Nat), takesIn s r 0x19 (keyOf idx sub) = true ∧ s.reading r.port h = none) ∧
  (∃ (s : State) (r : Req) (idx : Half) (sub : Byte) (x : BlockW), takesIn s r 0x1F (keyOf idx sub) = true ∧ s.dict.blockW = some x ∧ x.port = portBase r.port) ∧
  (∃ (s : State) (r : Req) (idx : Half) (sub : Byte) (x : BlockR), takesIn s r 0x1F (keyOf idx sub) = true ∧ s.dict.blockR = some x ∧ x.port = portBase r.port ∧ s.dict.blockW = none) ∧
  (∃ (s : State) (r : Req) (idx : Half) (sub : Byte) (h : Byte), takesIn s r 0x1F (keyOf idx sub) = true ∧ s.writing r.port h = none ∧ s.reading r.port h = none) ∧
  (∃ (s : State) (x : BlockW), s.dict.blockW = some x) ∧
  (∃ (s : State) (x : BlockR), s.dict.blockR = some x) ∧
  (∃ (s : State), s.dict.blockW = none ∧ s.dict.blockR = none) :=
  ⟨⟨(wSpi (wBare .standby)), wReqS, ((BitVec.ofNat 16 ((O.FW_DATA.key 0) / 256))), ((BitVec.ofNat 8 (O.FW_DATA.key 0))), 100, 40, by decide +kernel⟩,
   ⟨(wSpi (wBare .standby)), wReqS, ((BitVec.ofNat 16 ((O.FW_DATA.key 0) / 256))), ((BitVec.ofNat 8 (O.FW_DATA.key 0))), 100, 0, 0x15, by decide +kernel⟩,
   ⟨({ wSpi (wBare .standby) with dict := { State.resetDict with blockW := some (⟨O.FW_DATA.key 0, .spi, 3, 100, 40, [], 0, [], 0, none, 0⟩ : BlockW) } }), wReqS, ((BitVec.ofNat 16 ((O.FW_DATA.key 0) / 256))), ((BitVec.ofNat 8 (O.FW_DATA.key 0))), ((⟨O.FW_DATA.key 0, .spi, 3, 100, 40, [], 0, [], 0, none, 0⟩ : BlockW)), 0, ([1,2,3]), by decide⟩,
   ⟨({ wSpi (wBare .standby) with dict := { State.resetDict with blockW := some (⟨O.FW_DATA.key 0, .spi, 3, 100, 40, [], 0, [], 0, none, 0⟩ : BlockW) } }), wReqS, ((BitVec.ofNat 16 ((O.FW_DATA.key 0) / 256))), ((BitVec.ofNat 8 (O.FW_DATA.key 0))), ((⟨O.FW_DATA.key 0, .spi, 3, 100, 40, [], 0, [], 0, none, 0⟩ : BlockW)), 1, ([1,2,3]), by decide⟩,
   ⟨({ wSpi (wBare .standby) with dict := { State.resetDict with blockW := some (⟨O.FW_DATA.key 0, .spi, 3, 100, 40, [], 0, [], 0, none, 0⟩ : BlockW) } }), wReqS, ((BitVec.ofNat 16 ((O.FW_DATA.key 0) / 256))), ((BitVec.ofNat 8 (O.FW_DATA.key 0))), 9, 0, ([1]), by decide⟩,
   ⟨({ wSpi (wBare .standby) with dict := { State.resetDict with blockW := some (⟨O.FW_DATA.key 0, .spi, 3, 100, 40, (List.replicate 40 7#8), 0, [], 1, none, 0⟩ : BlockW) } }), wReqS, ((BitVec.ofNat 16 ((O.FW_DATA.key 0) / 256))), ((BitVec.ofNat 8 (O.FW_DATA.key 0))), ((⟨O.FW_DATA.key 0, .spi, 3, 100, 40, (List.replicate 40 7#8), 0, [], 1, none, 0⟩ : BlockW)), by decide⟩,
   ⟨({ wSpi (wBare .standby) with dict := { State.resetDict with blockW := some (⟨O.FW_DATA.key 0, .spi, 3, 100, 40, (List.replicate 80 7#8), 0, [], 2, none, 0⟩ : BlockW) } }), wReqS, ((BitVec.ofNat 16 ((O.FW_DATA.key 0) / 256))), ((BitVec.ofNat 8 (O.FW_DATA.key 0))), ((⟨O.FW_DATA.key 0, .spi, 3, 100, 40, (List.replicate 80 7#8), 0, [], 2, none, 0⟩ : BlockW)), by decide⟩,
   ⟨({ wSpi (wBare .standby) with dict := { State.resetDict with blockW := some (⟨O.FW_DATA.key 0, .spi, 3, 100, 40, [], 0, [], 0, none, 0⟩ : BlockW) } }), by decide⟩,
   ⟨({ wSpi (wBare .standby) with dict := { State.resetDict with blockW := some (⟨O.FW_DATA.key 0, .spi, 3, 100, 40, (List.replicate 80 7#8), 0, [(⟨.spi, 0, 0x12, 9, 0, 0, 1⟩ : ReqId)], 2, none, 0⟩ : BlockW) } }), ((⟨O.FW_DATA.key 0, .spi, 3, 100, 40, (List.replicate 80 7#8), 0, [(⟨.spi, 0, 0x12, 9, 0, 0, 1⟩ : ReqId)], 2, none, 0⟩ : BlockW)), by decide⟩,
   ⟨({ wSpi (wBare .standby) with dict := { State.resetDict with blockW := some (⟨O.FW_DATA.key 0, .spi, 3, 2, 40, [1,2], 0, [], 1, some ((⟨.spi, 0, 0x12, 9, 0, 0, 1⟩ : ReqId), 7), 0⟩ : BlockW) } }), ((⟨O.FW_DATA.key 0, .spi, 3, 2, 40, [1,2], 0, [], 1, some ((⟨.spi, 0, 0x12, 9, 0, 0, 1⟩ : ReqId), 7), 0⟩ : BlockW)), ((⟨.spi, 0, 0x12, 9, 0, 0, 1⟩ : ReqId)), 7, by decide⟩,
   ⟨({ wSpi (wBare .standby) with dict := { State.resetDict with blockW := some (⟨O.FW_DATA.key 0, .spi, 3, 100, 40, [], 0, [], 0, none, 0⟩ : BlockW) } }), wReqS, ((BitVec.ofNat 16 ((O.FW_DATA.key 0) / 256))), ((BitVec.ofNat 8 (O.FW_DATA.key 0))), ((⟨O.FW_DATA.key 0, .spi, 3, 100, 40, [], 0, [], 0, none, 0⟩ : BlockW)), 7, by decide⟩,
   ⟨({ wSpi (wBare .standby) with dict := { State.resetDict with blockW := some (⟨O.FW_DATA.key 0, .spi, 3, 2, 40, [1,2], 0, [], 1, none, 0⟩ : BlockW) } }), wReqS, ((BitVec.ofNat 16 ((O.FW_DATA.key 0) / 256))), ((BitVec.ofNat 8 (O.FW_DATA.key 0))), ((⟨O.FW_DATA.key 0, .spi, 3, 2, 40, [1,2], 0, [], 1, none, 0⟩ : BlockW)), 7, by decide⟩,
   ⟨({ { wSpi (wBare .standby) with dict := { State.resetDict with blockW := some (⟨O.FW_DATA.key 0, .spi, 3, 2, 40, [1,2], 0, [], 0, none, 0⟩ : BlockW) } } with nv := { State.resetNv with sec := { State.resetNv.sec with slotA := ⟨1, 0, 0, 0⟩ } } }), wReqS, ((BitVec.ofNat 16 ((O.FW_DATA.key 0) / 256))), ((BitVec.ofNat 8 (O.FW_DATA.key 0))), ((⟨O.FW_DATA.key 0, .spi, 3, 2, 40, [1,2], 0, [], 0, none, 0⟩ : BlockW)), ((crc32 [1,2])), by decide +kernel⟩,
   ⟨({ wSpi (wBare .standby) with dict := { State.resetDict with blockW := some (⟨O.FW_DATA.key 0, .spi, 3, 2, 40, [1,2], 0, [], 0, none, 0⟩ : BlockW) } }), wReqS, ((BitVec.ofNat 16 ((O.FW_DATA.key 0) / 256))), ((BitVec.ofNat 8 (O.FW_DATA.key 0))), ((⟨O.FW_DATA.key 0, .spi, 3, 2, 40, [1,2], 0, [], 0, none, 0⟩ : BlockW)), 7, by decide +kernel⟩,
   ⟨(wSpi (wBare .standby)), wReqS, ((BitVec.ofNat 16 ((O.LOG_DATA.key 0) / 256))), ((BitVec.ofNat 8 (O.LOG_DATA.key 0))), O.LOG_DATA, 0, ([]), by decide +kernel, by decide +kernel, by decide +kernel, by decide +kernel, by decide +kernel, by decide +kernel, by decide +kernel, rfl⟩,
   ⟨({ wSpi (wBare .standby) with dict := { State.resetDict with blockR := some (⟨O.LOG_DATA.key 0, .spi, 4, [1,2,3]⟩ : BlockR) } }), wReqS, ((BitVec.ofNat 16 ((O.LOG_DATA.key 0) / 256))), ((BitVec.ofNat 8 (O.LOG_DATA.key 0))), O.LOG_DATA, 0, by decide +kernel⟩,
   ⟨({ wSpi (wBare .standby) with dict := { State.resetDict with blockR := some (⟨O.LOG_DATA.key 0, .spi, 4, [1,2,3]⟩ : BlockR) } }), wReqS, ((BitVec.ofNat 16 ((O.LOG_DATA.key 0) / 256))), ((BitVec.ofNat 8 (O.LOG_DATA.key 0))), ((⟨O.LOG_DATA.key 0, .spi, 4, [1,2,3]⟩ : BlockR)), 0, 2, by decide⟩,
   ⟨({ wSpi (wBare .standby) with dict := { State.resetDict with blockR := some (⟨O.LOG_DATA.key 0, .spi, 4, [1,2,3]⟩ : BlockR) } }), wReqS, ((BitVec.ofNat 16 ((O.LOG_DATA.key 0) / 256))), ((BitVec.ofNat 8 (O.LOG_DATA.key 0))), ((⟨O.LOG_DATA.key 0, .spi, 4, [1,2,3]⟩ : BlockR)), 1, 2, by decide⟩,
   ⟨({ wSpi (wBare .standby) with dict := { State.resetDict with blockR := some (⟨O.LOG_DATA.key 0, .spi, 4, [1,2,3]⟩ : BlockR) } }), wReqS, ((BitVec.ofNat 16 ((O.LOG_DATA.key 0) / 256))), ((BitVec.ofNat 8 (O.LOG_DATA.key 0))), 9, 1, 2, by decide⟩,
   ⟨({ wSpi (wBare .standby) with dict := { State.resetDict with blockW := some (⟨O.FW_DATA.key 0, .spi, 3, 100, 40, (List.replicate 80 7#8), 0, [(⟨.spi, 0, 0x12, 9, 0, 0, 1⟩ : ReqId)], 2, none, 0⟩ : BlockW) } }), wReqS, ((BitVec.ofNat 16 ((O.FW_DATA.key 0) / 256))), ((BitVec.ofNat 8 (O.FW_DATA.key 0))), ((⟨O.FW_DATA.key 0, .spi, 3, 100, 40, (List.replicate 80 7#8), 0, [(⟨.spi, 0, 0x12, 9, 0, 0, 1⟩ : ReqId)], 2, none, 0⟩ : BlockW)), by decide⟩,
   ⟨({ wSpi (wBare .standby) with dict := { State.resetDict with blockR := some (⟨O.LOG_DATA.key 0, .spi, 4, [1,2,3]⟩ : BlockR) } }), wReqS, ((BitVec.ofNat 16 ((O.LOG_DATA.key 0) / 256))), ((BitVec.ofNat 8 (O.LOG_DATA.key 0))), ((⟨O.LOG_DATA.key 0, .spi, 4, [1,2,3]⟩ : BlockR)), by decide⟩,
   ⟨({ wSpi (wBare .standby) with dict := { State.resetDict with blockW := some (⟨O.FW_DATA.key 0, .spi, 3, 100, 40, [], 0, [], 0, none, 0⟩ : BlockW) } }), wReqS, ((BitVec.ofNat 16 ((O.FW_DATA.key 0) / 256))), ((BitVec.ofNat 8 (O.FW_DATA.key 0))), 9, by decide⟩,
   ⟨({ wSpi (wBare .standby) with dict := { State.resetDict with blockW := some (⟨O.FW_DATA.key 0, .spi, 3, 100, 40, (List.replicate 80 7#8), 0, [(⟨.spi, 0, 0x12, 9, 0, 0, 1⟩ : ReqId)], 2, none, 0⟩ : BlockW) } }), ((⟨O.FW_DATA.key 0, .spi, 3, 100, 40, (List.replicate 80 7#8), 0, [(⟨.spi, 0, 0x12, 9, 0, 0, 1⟩ : ReqId)], 2, none, 0⟩ : BlockW)), by decide⟩,
   ⟨({ wSpi (wBare .standby) with dict := { State.resetDict with blockR := some (⟨O.LOG_DATA.key 0, .spi, 4, [1,2,3]⟩ : BlockR) } }), ((⟨O.LOG_DATA.key 0, .spi, 4, [1,2,3]⟩ : BlockR)), by decide⟩,
   ⟨(wIn .run), by decide⟩⟩

/-- Each clause of ControlWordMovesTheDevice has a state that meets its hypotheses. -/
theorem witness_ControlWordMovesTheDevice :
  (∃ (s : State) (r : Req) (w : Half) (i : Instr), i ∈ [Instr.readyReq r w, .readyReqClear r w, .runReq r w, .runReqClear r w, .serviceReq r w, .serviceReqClear r w, .sleepReq r w, .resetCmd r w, .faultReset r w, .dischReq r w] ∧ writeRuns s r O.CONTROL_WORD 0 w.toNat ∧ ((w.getLsbD 6 = false ∧ ctlInconsistent w = true ∨ w.getLsbD 6 = true ∧ w.toNat / 256 ≠ 0x5A))) ∧
  (∃ (s : State) (r : Req) (w : Half), writeRuns s r O.CONTROL_WORD 0 w.toNat ∧ w.getLsbD 6 = true ∧ w.toNat / 256 = 0x5A) ∧
  (∃ (s : State) (r : Req) (w : Half), writeRuns s r O.CONTROL_WORD 0 w.toNat ∧ w.toNat % 128 = 1 ∧ s.get O.CONTROL_WORD = 0 ∧ s.sys.dev = .standby ∧ s.readyAllowed = true ∧ s.requested = false ∧ s.sup.readyPhase = .idle) ∧
  (∃ (s : State) (r : Req) (w : Half), writeRuns s r O.CONTROL_WORD 0 w.toNat ∧ w.toNat % 128 = 1 ∧ s.get O.CONTROL_WORD = 0 ∧ s.sys.dev = .standby ∧ ((s.readyAllowed = false ∨ s.requested = true ∨ s.sup.entering.isSome = true))) ∧
  (∃ (s : State) (r : Req) (w : Half), writeRuns s r O.CONTROL_WORD 0 w.toNat ∧ w.toNat % 128 = 0 ∧ s.get O.CONTROL_WORD = 1 ∧ s.sys.dev = .ready ∧ s.sup.entering = none ∧ s.dict.blockW = none) ∧
  (∃ (s : State) (r : Req) (w : Half), writeRuns s r O.CONTROL_WORD 0 w.toNat ∧ w.toNat % 128 = 3 ∧ s.get O.CONTROL_WORD = 1 ∧ (atBody s r O.CONTROL_WORD 0).runRefusal = none ∧ s.traction = true ∧ s.fl.verifying = false ∧ s.dict.blockW = none) ∧
  (∃ (s : State) (r : Req) (w : Half), writeRuns s r O.CONTROL_WORD 0 w.toNat ∧ w.toNat % 128 = 3 ∧ s.get O.CONTROL_WORD = 1 ∧ (atBody s r O.CONTROL_WORD 0).runRefusal = none ∧ s.charger = true ∧ s.dict.blockW = none) ∧
  (∃ (s : State) (r : Req) (w : Half), writeRuns s r O.CONTROL_WORD 0 w.toNat ∧ w.toNat % 128 = 3 ∧ s.get O.CONTROL_WORD = 1 ∧ (atBody s r O.CONTROL_WORD 0).runRefusal = none ∧ s.traction = true ∧ s.fl.verifying = true) ∧
  (∃ (s : State) (r : Req) (w : Half) (c : Nat), writeRuns s r O.CONTROL_WORD 0 w.toNat ∧ w.toNat % 128 = 3 ∧ s.get O.CONTROL_WORD = 1 ∧ (atBody s r O.CONTROL_WORD 0).runRefusal = some c) ∧
  (∃ (s : State) (r : Req) (w : Half), writeRuns s r O.CONTROL_WORD 0 w.toNat ∧ w.toNat % 128 = 1 ∧ s.get O.CONTROL_WORD = 3 ∧ s.sys.dev = .run ∧ s.charger = false ∧ ((∀ q ∈ s.fl.mach, q.ramp = none)) ∧ (FaultCode.resetHeld, 1) ∉ s.coll.conds) ∧
  (∃ (s : State) (r : Req) (w : Half), writeRuns s r O.CONTROL_WORD 0 w.toNat ∧ w.toNat % 128 = 1 ∧ s.get O.CONTROL_WORD = 3 ∧ s.sys.dev = .run ∧ s.charger = true ∧ s.get O.CHG_PHASE = 7) ∧
  (∃ (s : State) (r : Req) (w : Half), writeRuns s r O.CONTROL_WORD 0 w.toNat ∧ w.toNat % 128 = 16 ∧ s.get O.CONTROL_WORD = 0 ∧ s.sys.dev = .standby ∧ 2 ≤ (s.levelReq r).num ∧ s.requested = false ∧ s.sup.entering = none ∧ s.sup.readyPhase = .idle ∧ s.dict.blockW = none) ∧
  (∃ (s : State) (r : Req) (w : Half), writeRuns s r O.CONTROL_WORD 0 w.toNat ∧ w.toNat % 128 = 16 ∧ s.get O.CONTROL_WORD = 0 ∧ s.sys.dev = .standby ∧ (s.levelReq r).num < 2) ∧
  (∃ (s : State) (r : Req) (w : Half), writeRuns s r O.CONTROL_WORD 0 w.toNat ∧ w.toNat % 128 = 0 ∧ s.get O.CONTROL_WORD = 16 ∧ s.sys.dev = .service ∧ s.dict.blockW = none) ∧
  (∃ (s : State) (r : Req) (w : Half), writeRuns s r O.CONTROL_WORD 0 w.toNat ∧ w.toNat % 128 = 32 ∧ s.get O.CONTROL_WORD = 0 ∧ s.sys.dev = .standby ∧ s.pins.wakeUntil ≤ s.now ∧ s.fl.saving = none ∧ s.requested = false ∧ s.sup.entering = none) ∧
  (∃ (s : State) (r : Req) (w : Half), writeRuns s r O.CONTROL_WORD 0 w.toNat ∧ w.toNat % 128 = 32 ∧ s.get O.CONTROL_WORD = 0 ∧ ((s.sys.dev ≠ .standby ∨ s.now < s.pins.wakeUntil ∨ s.fl.saving.isSome = true ∨ s.requested = true))) :=
  ⟨⟨(wSpi (wBare .standby)), wReqS, 0x12, ((.readyReq wReqS 0x12)), by decide⟩,
   ⟨(wSpi (wIn .ready)), wReqS, 0x5A40, by decide⟩,
   ⟨((wSpi (wBare .standby)).set O.CONFIG 1), wReqS, 1, by decide⟩,
   ⟨(wSpi (wBare .standby)), wReqS, 1, by decide⟩,
   ⟨((wSpi (wIn .ready)).set O.CONTROL_WORD 1), wReqS, 0, by decide⟩,
   ⟨((({ wSpi (wCfg 0 .ready) with nv := { State.resetNv with activeBank := some 1 }, si := { (wIn .ready).si with evs := (wIn .ready).si.evs.map fun (e : Evaluator) => { e with startup := false } } }).set O.CONTROL_WORD 1).set O.MAP_STATUS 0), wReqS, 3, by decide⟩,
   ⟨(({ ((((wSpi (wCfg 2 .ready)).set O.RLY_FITTED 127).set O.V_BATT_HOST 0x43C80000).set O.V_OUT_MAX 0x43FA0000).set O.VDC_HEADROOM 0 with si := { (wIn .ready).si with evs := (wIn .ready).si.evs.map fun (e : Evaluator) => { e with startup := false } } }).set O.CONTROL_WORD 1), wReqS, 3, by decide +kernel, by decide +kernel, by decide +kernel, by unfold State.runRefusal State.chargerRefusal; rw [vdcRefEff_of _ (by decide)]; decide +kernel, by decide +kernel, by decide +kernel⟩,
   ⟨(({ wSpi (wCfg 0 .ready) with nv := { State.resetNv with activeBank := some 1 }, fl := { State.resetField with verifying := true }, si := { (wIn .ready).si with evs := (wIn .ready).si.evs.map fun (e : Evaluator) => { e with startup := false } } }).set O.CONTROL_WORD 1), wReqS, 3, by decide⟩,
   ⟨((wSpi (wCfg 0 .ready)).set O.CONTROL_WORD 1), wReqS, 3, 0x16, by decide⟩,
   ⟨((wSpi (wCfg 0 .run)).set O.CONTROL_WORD 3), wReqS, 1, by decide⟩,
   ⟨(((wSpi (wCfg 2 .run)).set O.CHG_PHASE 7).set O.CONTROL_WORD 3), wReqS, 1, by decide⟩,
   ⟨(wSpi (wBare .standby)), wReqS, 16, by decide⟩,
   ⟨({ wSpi (wBare .standby) with sec := { State.resetSecurity with sessions := [] } }), wReq, 16, by decide⟩,
   ⟨((wSpi (wBare .service)).set O.CONTROL_WORD 16), wReqS, 0, by decide⟩,
   ⟨(wSpi (wBare .standby)), wReqS, 32, by decide⟩,
   ⟨(wSpi (wIn .ready)), wReqS, 32, by decide⟩⟩

/-- Each clause of CanChannels has a state that meets its hypotheses. -/
theorem witness_CanChannels :
  (∃ (s : State) (c : Fin 4) (f : CanFrame) (full : Bool), ((s.sys.dev.serves = false ∨ (s.canCh c.val).busOff = true ∨ s.canHost c.val = true ∧ s.hostIdent f.ident.toNat = false ∨ s.canHost c.val = false ∧ s.get O.CAN_ROLE c.val ≠ 2))) ∧
  (∃ (s : State) (c : Fin 4) (f : CanFrame), s.sys.dev.serves = true ∧ (s.canCh c.val).busOff = false ∧ s.canHost c.val = true ∧ s.hostIdent f.ident.toNat = true ∧ (FaultCode.canRxOverflow, c.val) ∉ s.coll.conds) ∧
  (∃ (s : State) (c : Fin 4) (f : CanFrame) (full : Bool), s.sys.dev.serves = true ∧ (s.canCh c.val).busOff = false ∧ s.canHost c.val = false ∧ s.get O.CAN_ROLE c.val = 2 ∧ s.net.failedCh = none ∧ s.hostIdent f.ident.toNat = true) ∧
  (∃ (s : State) (c : Fin 4) (f : CanFrame), s.sys.dev.serves = true ∧ (s.canCh c.val).busOff = false ∧ s.canHost c.val = true ∧ c.val < s.net.can.length ∧ f.ident.toNat = s.getN O.SRV_RX_ID (s.idsOf c.val) ∧ s.getN O.HOST_CH_ACTIVE = c.val ∧ f.fd = false) ∧
  (∃ (s : State) (c : Fin 4) (f : CanFrame) (r : Req) (idx : Half) (sub : Byte) (o : Obj) (p : Nat), s.sys.dev.serves = true ∧ (s.canCh c.val).busOff = false ∧ s.canHost c.val = true ∧ s.getN O.HOST_CH_ACTIVE = c.val ∧ f.ident.toNat = s.getN O.SRV_RX_ID (s.idsOf c.val) ∧ f.fd = true ∧ c.val < s.net.can.length ∧ r = ⟨.can c, 0, 5, 0, true, 8⟩ ∧ f.data = [1#8, 5#8] ++ leBytes 2 idx.toNat ++ [sub, 0#8, 0#8, 0#8] ∧ takesIn s r 0x01 (keyOf idx sub) = true ∧ isSubZero (keyOf idx sub) = false ∧ findObj (keyOf idx sub) = some (o, p) ∧ o.ty.isDomain = false ∧ o.acc = .rw ∧ s.staged.find? (o.key p) = none ∧ s.view o p = none) ∧
  (∃ (s : State) (c : Fin 4) (lost : Bool), (s.canCh c.val).sending = none) ∧
  (∃ (s : State) (c : Fin 4) (x : CanOut) (y : CanOut) (l : List CanOut), c.val < s.net.can.length ∧ s.canHost c.val = true ∧ (s.canCh c.val).busOff = false ∧ (s.canCh c.val).sending = some 1 ∧ (s.canCh c.val).safety = [] ∧ (s.canCh c.val).process = x :: y :: l ∧ (s.canCh c.val).held = []) ∧
  (∃ (s : State) (c : Fin 4) (x : CanOut) (y : CanOut) (l : List CanOut) (m : List CanOut), c.val < s.net.can.length ∧ s.canHost c.val = true ∧ (s.canCh c.val).busOff = false ∧ (s.canCh c.val).sending = some 1 ∧ (s.canCh c.val).safety = x :: l ∧ (s.canCh c.val).process = y :: m ∧ (s.canCh c.val).held = []) ∧
  (∃ (s : State) (c : Fin 4), ((s.sys.dev.runs = false ∨ (s.canCh c.val).busOff = true ∨ s.get O.CAN_ROLE c.val = 0 ∨ s.get O.CAN_ROLE c.val = 3 ∨ s.net.failedCh = some c.val))) ∧
  (∃ (s : State) (c : Fin 4), s.sys.dev.runs = true ∧ (s.canCh c.val).busOff = false ∧ s.get O.CAN_ROLE c.val = 1 ∧ s.net.failedCh = none ∧ c.val < s.net.can.length ∧ (s.canCh c.val).offAt = [] ∧ (s.canCh c.val).held = [] ∧ (FaultCode.canBusOff, c.val) ∉ s.coll.conds) ∧
  (∃ (s : State) (c : Fin 4), (s.canCh c.val).busOff = false) ∧
  (∃ (s : State) (c : Fin 4) (x : CanOut) (l : List CanOut), (s.canCh c.val).busOff = true ∧ c.val < s.net.can.length ∧ s.canHost c.val = true ∧ (s.canCh c.val).sending = none ∧ (s.canCh c.val).safety = x :: l ∧ soleCond s .canBusOff c.val) ∧
  (∃ (s : State), ((s.sys.dev.serves = false ∨ s.net.redundantHeard = false ∨ s.elapsed (s.canCh (s.getN O.HOST_CH_ACTIVE)).lastRx < 1000 * s.getN O.HOST_TMO))) ∧
  (∃ (s : State) (f : Fin 4) (r : Fin 4), f ≠ r ∧ s.sys.dev.serves = true ∧ s.net.redundantHeard = true ∧ s.getN O.HOST_CH_ACTIVE = f.val ∧ 1000 * s.getN O.HOST_TMO ≤ s.elapsed (s.canCh f.val).lastRx ∧ s.net.takeover = none ∧ s.net.failedCh = none ∧ s.getN O.REDUNDANT_CH = r.val ∧ s.get O.CAN_ROLE r.val = 2 ∧ s.net.can.length = 4 ∧ s.carrier = false ∧ (s.canCh r.val).sending = none ∧ (s.canCh r.val).busOff = true ∧ ((∀ d, (FaultCode.canTakeover, d) ∉ s.coll.conds)) ∧ s.sec.serviceHandle = none) ∧
  (∃ (s : State), s.sys.dev.serves = true ∧ s.net.redundantHeard = true ∧ 1000 * s.getN O.HOST_TMO ≤ s.elapsed (s.canCh (s.getN O.HOST_CH_ACTIVE)).lastRx ∧ s.net.takeover = none ∧ s.redundant = none ∧ (FaultCode.canHostLost, 0) ∉ s.coll.conds) :=
  ⟨⟨(wIn .ready), 0, (⟨BitVec.ofInt 32 (5), true, []⟩), false, by decide⟩,
   ⟨((((wSpi (wIn .ready)).set O.CAN_ROLE 1 0).set O.HOST_CH_ACTIVE 0)), 0, (⟨BitVec.ofInt 32 (((wIn .ready).get O.SRV_RX_ID 0)), true, []⟩), by decide⟩,
   ⟨((((((wSpi (wIn .ready)).set O.CAN_ROLE 1 0).set O.HOST_CH_ACTIVE 0).set O.CAN_ROLE 2 1).set O.REDUNDANT_CH 1)), 1, (⟨BitVec.ofInt 32 (((wIn .ready).get O.SRV_RX_ID 0)), true, []⟩), false, by decide⟩,
   ⟨((((wSpi (wIn .ready)).set O.CAN_ROLE 1 0).set O.HOST_CH_ACTIVE 0)), 0, (⟨BitVec.ofInt 32 (((wIn .ready).get O.SRV_RX_ID 0)), false, []⟩), by decide⟩,
   ⟨((((wSpi (wIn .ready)).set O.CAN_ROLE 1 0).set O.HOST_CH_ACTIVE 0)), 0, (⟨BitVec.ofInt 32 (((wIn .ready).get O.SRV_RX_ID 0)), true, [1, 5, 1, 0x21, 1, 0, 0, 0]⟩), (⟨.can 0, 0, 5, 0, true, 8⟩), 0x2101, 1, O.CMD_MODE, 0, by decide⟩,
   ⟨((((wSpi (wIn .ready)).set O.CAN_ROLE 1 0).set O.HOST_CH_ACTIVE 0)), 0, true, by decide⟩,
   ⟨({ (((wSpi (wIn .ready)).set O.CAN_ROLE 1 0).set O.HOST_CH_ACTIVE 0) with net := { State.resetNet with can := [{ State.resetCan with process := [(⟨⟨1, true, []⟩, some 1⟩ : CanOut), (⟨⟨2, true, []⟩, some 2⟩ : CanOut)], sending := some 1 }, State.resetCan, State.resetCan, State.resetCan] } }), 0, ((⟨⟨1, true, []⟩, some 1⟩ : CanOut)), ((⟨⟨2, true, []⟩, some 2⟩ : CanOut)), ([]), by decide⟩,
   ⟨({ (((wSpi (wIn .ready)).set O.CAN_ROLE 1 0).set O.HOST_CH_ACTIVE 0) with net := { State.resetNet with can := [{ State.resetCan with safety := [(⟨⟨3, true, []⟩, some 3⟩ : CanOut)], process := [(⟨⟨1, true, []⟩, some 1⟩ : CanOut), (⟨⟨2, true, []⟩, some 2⟩ : CanOut)], sending := some 1 }, State.resetCan, State.resetCan, State.resetCan] } }), 0, ((⟨⟨3, true, []⟩, some 3⟩ : CanOut)), ((⟨⟨1, true, []⟩, some 1⟩ : CanOut)), ([]), ([(⟨⟨2, true, []⟩, some 2⟩ : CanOut)]), by decide⟩,
   ⟨({ (((wSpi (wIn .ready)).set O.CAN_ROLE 1 0).set O.HOST_CH_ACTIVE 0) with net := { State.resetNet with can := [{ State.resetCan with busOff := true }, State.resetCan, State.resetCan, State.resetCan] } }), 0, by decide⟩,
   ⟨({ (((wSpi (wIn .ready)).set O.CAN_ROLE 1 0).set O.HOST_CH_ACTIVE 0) with net := { State.resetNet with can := [{ State.resetCan with process := [(⟨⟨1, true, []⟩, some 1⟩ : CanOut), (⟨⟨2, true, []⟩, some 2⟩ : CanOut)], sending := some 1 }, State.resetCan, State.resetCan, State.resetCan] } }), 0, by decide⟩,
   ⟨((((wSpi (wIn .ready)).set O.CAN_ROLE 1 0).set O.HOST_CH_ACTIVE 0)), 0, by decide⟩,
   ⟨({ { (((wSpi (wIn .ready)).set O.CAN_ROLE 1 0).set O.HOST_CH_ACTIVE 0) with net := { State.resetNet with can := [{ State.resetCan with safety := [(⟨⟨3, true, []⟩, some 3⟩ : CanOut)], busOff := true }, State.resetCan, State.resetCan, State.resetCan] } } with coll := { State.resetColl with conds := [(.canBusOff, 0)], reported := [.canBusOff] } }), 0, ((⟨⟨3, true, []⟩, some 3⟩ : CanOut)), ([]), by decide⟩,
   ⟨((((wSpi (wIn .ready)).set O.CAN_ROLE 1 0).set O.HOST_CH_ACTIVE 0)), by decide⟩,
   ⟨({ ((((wSpi (wBare .ready)).set O.CAN_ROLE 1 0).set O.HOST_CH_ACTIVE 0).set O.CAN_ROLE 2 1).set O.REDUNDANT_CH 1 with now := 90000000, net := { State.resetNet with redundantHeard := true, can := [{ State.resetCan with process := [(⟨⟨1, true, []⟩, some 1⟩ : CanOut)] }, { State.resetCan with busOff := true }, State.resetCan, State.resetCan] } }), 0, 1, by decide, by decide, by decide, by decide, by decide, by decide, by decide, by decide, by decide, by decide, by decide, by decide, by decide, fun _ => List.not_mem_nil, by decide⟩,
   ⟨({ (((wSpi (wIn .ready)).set O.CAN_ROLE 1 0).set O.HOST_CH_ACTIVE 0) with now := 90000000, net := { State.resetNet with redundantHeard := true } }), by decide⟩⟩

/-- Each clause of EthernetAndSpi has a state that meets its hypotheses. -/
theorem witness_EthernetAndSpi :
  (∃ (s : State) (v : Fin 5), ((s.sys.dev.runs = false ∨ s.getB O.ETH_ENABLE = false))) ∧
  (∃ (s : State) (v : Fin 5), s.sys.dev.runs = true ∧ s.getB O.ETH_ENABLE = true ∧ v.val ≠ 0 ∧ soleCond s .ethLinkDown 0) ∧
  (∃ (s : State), s.sys.dev.runs = true ∧ s.getB O.ETH_ENABLE = true ∧ s.get O.LINK_STATE ≠ 0 ∧ (FaultCode.ethLinkDown, 0) ∉ s.coll.conds) ∧
  (∃ (s : State) (a : Word) (b : Word), ((s.ethUp = false ∨ s.getN O.IP_ADDR ≠ a.toNat))) ∧
  (∃ (s : State) (a : Word) (b : Word), s.ethUp = true ∧ s.getN O.IP_ADDR = a.toNat) ∧
  (∃ (s : State) (a : Word) (b : Word) (d : List Byte), ((s.ethUp = false ∨ s.getN O.IP_ADDR ≠ a.toNat))) ∧
  (∃ (s : State) (a : Word) (b : Word) (d : List Byte), s.ethUp = true ∧ s.getN O.IP_ADDR = a.toNat) ∧
  (∃ (s : State) (d : Int) (n : Nat), s.ptpOn = false) ∧
  (∃ (s : State) (d : Int) (n : Nat), s.ptpOn = true ∧ soleCond s .ptpUnsync 0) ∧
  (∃ (s : State), ((s.sys.dev.runs = false ∨ s.getB O.ETH_ENABLE = false ∨ s.getB O.PTP_ENABLE = false))) ∧
  (∃ (s : State), s.sys.dev.runs = true ∧ s.getB O.ETH_ENABLE = true ∧ s.getB O.PTP_ENABLE = true ∧ (FaultCode.ptpUnsync, 0) ∉ s.coll.conds) ∧
  (∃ (s : State) (b : Bool), ((s.ethUp = false ∨ s.sys.dev.serves = false))) ∧
  (∃ (s : State), s.ethUp = true ∧ s.sys.dev.serves = true) ∧
  (∃ (s : State), s.ethUp = true ∧ s.sys.dev.serves = true) ∧
  (∃ (s : State) (n : Fin 8) (p : Fin 8) (d : List Byte) (ok : Bool) (i : Instr), i ∈ [Instr.spiServiceReq n d ok, .spiServiceRd, .spiProcWr p d, .spiProcRd p, .spiBadTransaction] ∧ s.spiOpen = false) ∧
  (∃ (s : State) (n : Fin 8) (d : List Byte) (i : Instr), i ∈ [Instr.spiServiceReq n d false, .spiBadTransaction] ∧ s.spiOpen = true ∧ (FaultCode.spiFrameErr, 0) ∉ s.coll.conds) ∧
  (∃ (s : State) (r : Req) (d : List Byte) (idx : Half) (sub : Byte), s.spiOpen = true ∧ r = ⟨.spi, 0, 5, 0, true, 8⟩ ∧ d = [1#8, 5#8] ++ leBytes 2 idx.toNat ++ [sub, 0#8, 0#8, 0#8] ∧ takesIn s r 0x01 (keyOf idx sub) = true ∧ isSubZero (keyOf idx sub) = false ∧ findObj (keyOf idx sub) = none ∧ (FaultCode.spiFrameErr, 0) ∉ s.coll.conds) ∧
  (∃ (s : State), s.spiOpen = true ∧ s.net.spiQ = [] ∧ (FaultCode.spiFrameErr, 0) ∉ s.coll.conds) ∧
  (∃ (s : State) (id : ReqId) (r : Reply) (l : List (ReqId × Reply)), s.spiOpen = true ∧ s.net.spiQ = (id, r) :: l ∧ (FaultCode.spiFrameErr, 0) ∉ s.coll.conds) ∧
  (∃ (s : State) (p : Fin 8) (d : List Byte), s.spiOpen = true ∧ s.get O.PROC_PORT p.val ≠ 3 ∧ (FaultCode.spiFrameErr, 0) ∉ s.coll.conds) ∧
  (∃ (s : State) (p : Fin 8) (d : List Byte), s.spiOpen = true ∧ s.get O.PROC_PORT p.val = 3 ∧ s.getB O.PROC_AUTH p.val = false ∧ s.get O.RX_COUNT p.val = 1 ∧ s.get O.RX_ENTRY (16 * p.val) = (O.CMD_MODE.key 0 * 256 + 8 : Nat) ∧ d = [1] ∧ s.carrier = false ∧ s.sourceOk .spi = true ∧ s.get O.SPAN_ROLE ≠ 1 ∧ (FaultCode.spiFrameErr, 0) ∉ s.coll.conds) ∧
  (∃ (s : State) (p : Fin 8), s.spiOpen = true ∧ (FaultCode.spiFrameErr, 0) ∉ s.coll.conds) :=
  ⟨⟨(wIn .ready), 1, by decide⟩,
   ⟨({ (wIn .ready).set O.ETH_ENABLE 1 with coll := { State.resetColl with conds := [(.ethLinkDown, 0)], reported := [.ethLinkDown] } }), 2, by decide⟩,
   ⟨((((wIn .ready).set O.ETH_ENABLE 1).set O.LINK_STATE 2)), by decide⟩,
   ⟨((((wIn .ready).set O.ETH_ENABLE 1).set O.LINK_STATE 2)), 1, 2, by decide⟩,
   ⟨({ ((((wIn .ready).set O.ETH_ENABLE 1).set O.LINK_STATE 2).set O.IP_ADDR 77) with net := { State.resetNet with arpWait := [(5, .eth 2 5 [1]), (6, .eth 2 6 [2])] } }), 77, 5, by decide⟩,
   ⟨((((wIn .ready).set O.ETH_ENABLE 1).set O.LINK_STATE 2)), 1, 2, ([1]), by decide⟩,
   ⟨(((((wIn .ready).set O.ETH_ENABLE 1).set O.LINK_STATE 2).set O.IP_ADDR 77)), 77, 5, ([1]), by decide⟩,
   ⟨((((wIn .ready).set O.ETH_ENABLE 1).set O.LINK_STATE 2)), (-5), 7, by decide⟩,
   ⟨({ ((((wIn .ready).set O.ETH_ENABLE 1).set O.LINK_STATE 2).set O.PTP_ENABLE 1) with coll := { State.resetColl with conds := [(.ptpUnsync, 0)], reported := [.ptpUnsync] } }), (-5), 7, by decide⟩,
   ⟨((((wIn .ready).set O.ETH_ENABLE 1).set O.LINK_STATE 2)), by decide⟩,
   ⟨(((((wIn .ready).set O.ETH_ENABLE 1).set O.LINK_STATE 2).set O.PTP_ENABLE 1)), by decide⟩,
   ⟨(wIn .ready), true, by decide⟩,
   ⟨((((wIn .ready).set O.ETH_ENABLE 1).set O.LINK_STATE 2)), by decide⟩,
   ⟨((((wIn .ready).set O.ETH_ENABLE 1).set O.LINK_STATE 2)), by decide⟩,
   ⟨(wIn .ready), 0, 2, ([1]), true, ((.spiServiceReq 0 [1] true)), by decide⟩,
   ⟨(wSpi (wIn .ready)), 0, ([1]), ((.spiServiceReq 0 [1] false)), by decide⟩,
   ⟨(wSpi (wIn .ready)), (⟨.spi, 0, 5, 0, true, 8⟩), ([1, 5, 0x20, 0x2A, 77, 0, 0, 0]), 0x2A20, 77, by decide +kernel⟩,
   ⟨(wSpi (wIn .ready)), by decide⟩,
   ⟨({ wSpi (wIn .ready) with net := { State.resetNet with spiQ := [((⟨.spi, 0, 1, 9, 0, 0, 1⟩ : ReqId), .ok [1])] } }), ((⟨.spi, 0, 1, 9, 0, 0, 1⟩ : ReqId)), ((.ok [1])), ([]), by decide⟩,
   ⟨(wSpi (wIn .ready)), 2, ([1]), by decide⟩,
   ⟨(((((wSpi (wBare .ready)).set O.PROC_PORT 3 2).set O.RX_COUNT 1 2).set O.RX_ENTRY (O.CMD_MODE.key 0 * 256 + 8) 32)), 2, ([1]), by decide⟩,
   ⟨({ wSpi (wIn .ready) with net := { State.resetNet with samples := [[], [], [4, 5], [], [], [], [], []] } }), 2, by decide⟩⟩

/-- Each clause of SpanNodesJoin has a state that meets its hypotheses. -/
theorem witness_SpanNodesJoin :
  (∃ (s : State) (h : SpanHdr) (serial : DWord) (nonce : DWord) (i : Instr), i ∈ [Instr.announce h serial nonce, .joinReq h serial nonce, .joinAck h serial nonce] ∧ ((s.spanUp h.port.val = false ∨ h.crcOk = false))) ∧
  (∃ (s : State), ((s.get O.SPAN_ROLE ≠ 1 ∨ s.ringGen = 0))) ∧
  (∃ (s : State) (nm : DWord), s.get O.SPAN_ROLE = 1 ∧ s.ringGen ≠ 0 ∧ s.net.nonceM = some nm) ∧
  (∃ (s : State), s.get O.SPAN_ROLE = 1 ∧ s.ringGen ≠ 0 ∧ s.net.nonceM = none ∧ s.sec.trngBad = false) ∧
  (∃ (s : State) (h : SpanHdr) (serial : DWord) (nonce : DWord), s.spanUp h.port.val = true ∧ h.crcOk = true ∧ h.dst.toNat = s.ownNode ∧ s.get O.SPAN_ROLE = 1 ∧ (FaultCode.spanRoleConflict, 0) ∉ s.coll.conds ∧ (FaultCode.spanAuthFail, h.port.val) ∉ s.coll.conds ∧ (s.net.ports.getD h.port.val State.resetPort).fails = []) ∧
  (∃ (s : State) (h : SpanHdr) (serial : DWord) (nonce : DWord), s.spanUp h.port.val = true ∧ h.crcOk = true ∧ h.dst.toNat = s.ownNode ∧ s.get O.SPAN_ROLE = 2 ∧ (s.peer 0).joined = false ∧ (s.peer 0).nonceM ≠ some nonce ∧ s.sec.trngBad = false ∧ s.net.peers.length = 8) ∧
  (∃ (s : State), ((s.worker = false ∨ (s.peer 0).joined = true ∨ (s.peer 0).nonceM = none ∨ s.ringGen = 0))) ∧
  (∃ (s : State) (p : Fin 2), s.worker = true ∧ (s.peer 0).joined = false ∧ (s.peer 0).nonceM ≠ none ∧ s.ringGen ≠ 0 ∧ s.spanUp p.val = true) ∧
  (∃ (s : State) (h : SpanHdr) (serial : DWord) (nonce : DWord) (nm : DWord), s.spanUp h.port.val = true ∧ h.crcOk = true ∧ h.dst.toNat = s.ownNode ∧ s.get O.SPAN_ROLE = 1 ∧ 0 < h.src.toNat ∧ h.src.toNat < 8 ∧ s.net.nonceM = some nm ∧ s.net.peers.length = 8 ∧ s.get O.NODE_STATE (h.src.toNat - 1) ≠ 2) ∧
  (∃ (s : State) (h : SpanHdr) (serial : DWord) (nonce : DWord) (nm : DWord), s.spanUp h.port.val = true ∧ h.crcOk = true ∧ h.dst.toNat = s.ownNode ∧ s.get O.SPAN_ROLE = 1 ∧ 0 < h.src.toNat ∧ h.src.toNat < 8 ∧ s.net.nonceM = some nm ∧ s.get O.NODE_STATE (h.src.toNat - 1) = 2 ∧ s.get O.N_SERIAL (h.src.toNat - 1) ≠ serial.toNat ∧ (FaultCode.spanNodeConflict, h.src.toNat) ∉ s.coll.conds) ∧
  (∃ (s : State) (h : SpanHdr) (nonceM : DWord) (nonceW : DWord), s.spanUp h.port.val = true ∧ h.crcOk = true ∧ h.dst.toNat = s.ownNode ∧ s.worker = true ∧ (s.peer 0).joined = false ∧ (s.peer 0).nonceM = some nonceM ∧ (s.peer 0).nonceW = nonceW ∧ s.net.peers.length = 8 ∧ (FaultCode.spanMgrLost, 0) ∉ s.coll.conds ∧ (FaultCode.spanAuthFail, h.port.val) ∉ s.coll.conds ∧ (s.net.ports.getD h.port.val State.resetPort).fails = []) ∧
  (∃ (s : State) (h : SpanHdr) (nonceM : DWord) (nonceW : DWord), s.spanUp h.port.val = true ∧ h.crcOk = true ∧ h.dst.toNat = s.ownNode ∧ s.worker = true ∧ (((s.peer 0).nonceM ≠ some nonceM ∨ (s.peer 0).nonceW ≠ nonceW))) :=
  ⟨⟨(wIn .ready), ((⟨0, true, 0, 0, 5, 0, 0, 0⟩ : SpanHdr)), 1, 2, ((.announce (⟨0, true, 0, 0, 5, 0, 0, 0⟩ : SpanHdr) 1 2)), by decide⟩,
   ⟨(wIn .ready), by decide⟩,
   ⟨({ ((((wIn .ready).set O.SPAN_ROLE 1).set O.KEY_GEN 1 1)) with net := { State.resetNet with ports := [⟨true, 0, [], false⟩, ⟨true, 0, [], false⟩], nonceM := some 9 } }), 9, by decide⟩,
   ⟨({ ((((wIn .ready).set O.SPAN_ROLE 1).set O.KEY_GEN 1 1)) with net := { State.resetNet with ports := [⟨true, 0, [], false⟩, ⟨true, 0, [], false⟩] } }), by decide⟩,
   ⟨({ ((((wIn .ready).set O.SPAN_ROLE 1).set O.KEY_GEN 1 1)) with net := { State.resetNet with ports := [⟨true, 0, [], false⟩, ⟨true, 0, [], false⟩] } }), ((⟨0, true, 3, 0, 5, 0, 0, 0⟩ : SpanHdr)), 1, 2, by decide⟩,
   ⟨({ ((((wIn .ready).set O.SPAN_ROLE 2).set O.KEY_GEN 1 1).set O.SPAN_NODE 3) with net := { State.resetNet with ports := [⟨true, 0, [], false⟩, ⟨true, 0, [], false⟩] } }), ((⟨0, true, 0, 3, 5, 0, 0, 0⟩ : SpanHdr)), 1, 2, by decide⟩,
   ⟨({ ((((wIn .ready).set O.SPAN_ROLE 2).set O.KEY_GEN 1 1).set O.SPAN_NODE 3) with net := { State.resetNet with ports := [⟨true, 0, [], false⟩, ⟨true, 0, [], false⟩] } }), by decide⟩,
   ⟨({ ((((wIn .ready).set O.SPAN_ROLE 2).set O.KEY_GEN 1 1).set O.SPAN_NODE 3) with net := { State.resetNet with ports := [⟨true, 0, [], false⟩, ⟨true, 0, [], false⟩], peers := State.resetNet.peers.modify 0 fun y => { y with nonceM := some 5, nonceW := 6 } } }), 1, by decide⟩,
   ⟨({ ((((wIn .ready).set O.SPAN_ROLE 1).set O.KEY_GEN 1 1)) with net := { State.resetNet with ports := [⟨true, 0, [], false⟩, ⟨true, 0, [], false⟩], nonceM := some 9 } }), ((⟨0, true, 3, 0, 5, 0, 0, 0⟩ : SpanHdr)), 1, 2, 9, by decide⟩,
   ⟨({ { ((((wIn .ready).set O.SPAN_ROLE 1).set O.KEY_GEN 1 1)) with net := { State.resetNet with ports := [⟨true, 0, [], false⟩, ⟨true, 0, [], false⟩], nonceM := some 9 } } with vals := (({ ((((wIn .ready).set O.SPAN_ROLE 1).set O.KEY_GEN 1 1)) with net := { State.resetNet with ports := [⟨true, 0, [], false⟩, ⟨true, 0, [], false⟩], nonceM := some 9 } }).set O.NODE_STATE 2 2).vals }), ((⟨0, true, 3, 0, 5, 0, 0, 0⟩ : SpanHdr)), 1, 2, 9, by decide⟩,
   ⟨({ ((((wIn .ready).set O.SPAN_ROLE 2).set O.KEY_GEN 1 1).set O.SPAN_NODE 3) with net := { State.resetNet with ports := [⟨true, 0, [], false⟩, ⟨true, 0, [], false⟩], peers := State.resetNet.peers.modify 0 fun y => { y with nonceM := some 5, nonceW := 6 } } }), ((⟨0, true, 0, 3, 5, 0, 0, 0⟩ : SpanHdr)), 5, 6, by decide⟩,
   ⟨({ ((((wIn .ready).set O.SPAN_ROLE 2).set O.KEY_GEN 1 1).set O.SPAN_NODE 3) with net := { State.resetNet with ports := [⟨true, 0, [], false⟩, ⟨true, 0, [], false⟩], peers := State.resetNet.peers.modify 0 fun y => { y with nonceM := some 5, nonceW := 6 } } }), ((⟨0, true, 0, 3, 5, 0, 0, 0⟩ : SpanHdr)), 5, 7, by decide⟩⟩

/-- Each clause of SpanSessionTraffic has a state that meets its hypotheses. -/
theorem witness_SpanSessionTraffic :
  (∃ (s : State) (h : SpanHdr) (c : CyclicData) (d : SpanStatusData) (b : List Byte) (i : Instr), i ∈ [Instr.cyclic h c 0 false, .spanStatus h d, .spanService h b, .spanServiceReply h b] ∧ s.spanUp h.port.val = true ∧ h.crcOk = true ∧ h.dst.toNat = s.ownNode ∧ (((s.peer h.src.toNat).joined = false ∨ (s.peer h.src.toNat).nonceM = none))) ∧
  (∃ (s : State) (h : SpanHdr) (c : CyclicData) (nm : DWord), s.spanUp h.port.val = true ∧ h.crcOk = true ∧ h.dst.toNat = s.ownNode ∧ (s.peer h.src.toNat).joined = true ∧ (s.peer h.src.toNat).nonceM = some nm ∧ h.src.toNat < 8 ∧ h.src.toNat ≠ s.ownNode ∧ (s.peer h.src.toNat).duplicate h.fresh.toNat = false ∧ (s.peer h.src.toNat).replayed h.fresh.toNat = false ∧ s.worker = true ∧ s.sys.dev.serves = true ∧ s.carrier = false ∧ s.net.peers.length = 8 ∧ c.controlWord = 0 ∧ s.get O.CONTROL_WORD = 0 ∧ ((s.sys.dev = .ready ∨ s.sys.dev = .standby)) ∧ s.sup.readyPhase = .idle ∧ h.src = 0 ∧ s.islandsReady = false ∧ ((∀ e ∈ s.cyclicFields c, s.procEntry (.span 0) e = none))) ∧
  (∃ (s : State) (h : SpanHdr) (c : CyclicData) (nm : DWord), s.spanUp h.port.val = true ∧ h.crcOk = true ∧ h.dst.toNat = s.ownNode ∧ (s.peer h.src.toNat).joined = true ∧ (s.peer h.src.toNat).nonceM = some nm ∧ h.src.toNat < 8 ∧ h.src.toNat ≠ s.ownNode ∧ (FaultCode.spanAuthFail, h.port.val) ∉ s.coll.conds ∧ (s.net.ports.getD h.port.val State.resetPort).fails = [] ∧ (((s.peer h.src.toNat).replayed h.fresh.toNat = true ∨ (s.peer h.src.toNat).duplicate h.fresh.toNat = true))) ∧
  (∃ (s : State) (h : SpanHdr) (d : SpanStatusData) (nm : DWord), s.spanUp h.port.val = true ∧ h.crcOk = true ∧ h.dst.toNat = s.ownNode ∧ (s.peer h.src.toNat).joined = true ∧ (s.peer h.src.toNat).nonceM = some nm ∧ h.src.toNat < 8 ∧ h.src.toNat ≠ s.ownNode ∧ (s.peer h.src.toNat).duplicate h.fresh.toNat = false ∧ (s.peer h.src.toNat).replayed h.fresh.toNat = false ∧ s.get O.SPAN_ROLE = 1 ∧ 0 < h.src.toNat ∧ s.net.peers.length = 8 ∧ (FaultCode.spanNodeLost, h.src.toNat) ∉ s.coll.conds ∧ (FaultCode.spanNodeSafe, h.src.toNat) ∉ s.coll.conds) ∧
  (∃ (s : State) (h : SpanHdr) (b : List Byte) (r : Req) (idx : Half) (sub : Byte) (nm : DWord), s.spanUp h.port.val = true ∧ h.crcOk = true ∧ h.dst.toNat = s.ownNode ∧ (s.peer h.src.toNat).joined = true ∧ (s.peer h.src.toNat).nonceM = some nm ∧ h.src.toNat < 8 ∧ h.src.toNat ≠ s.ownNode ∧ (s.peer h.src.toNat).duplicate h.fresh.toNat = false ∧ (s.peer h.src.toNat).replayed h.fresh.toNat = false ∧ s.worker = true ∧ r = ⟨.span (Fin.ofNat 8 h.src.toNat), Fin.ofNat 8 s.ownNode, 5, 0, true, 8⟩ ∧ b = [1#8, 5#8] ++ leBytes 2 idx.toNat ++ [sub, 0#8, 0#8, 0#8] ∧ takesIn s r 0x01 (keyOf idx sub) = true ∧ isSubZero (keyOf idx sub) = false ∧ findObj (keyOf idx sub) = none) ∧
  (∃ (s : State) (h : SpanHdr) (b : List Byte) (id : ReqId) (nm : DWord), s.spanUp h.port.val = true ∧ h.crcOk = true ∧ h.dst.toNat = s.ownNode ∧ (s.peer h.src.toNat).joined = true ∧ (s.peer h.src.toNat).nonceM = some nm ∧ h.src.toNat < 8 ∧ h.src.toNat ≠ s.ownNode ∧ (s.peer h.src.toNat).duplicate h.fresh.toNat = false ∧ (s.peer h.src.toNat).replayed h.fresh.toNat = false ∧ s.net.relays = [(h.src.toNat, id)] ∧ id.seq = b.getD 1 0 ∧ id.port = .spi) ∧
  (∃ (s : State) (n : Fin 8), ((∀ x ∈ s.net.relays, x.1 ≠ n.val))) ∧
  (∃ (s : State) (n : Fin 8) (id : ReqId) (l : List (Nat × ReqId)), s.net.relays = (n.val, id) :: l) ∧
  (∃ (s : State) (h : SpanHdr), s.spanUp h.port.val = true ∧ h.crcOk = true ∧ h.dst.toNat = s.ownNode ∧ s.ringGen ≠ 0) ∧
  (∃ (s : State) (h : SpanHdr) (a : Int) (b : Int), s.spanUp h.port.val = true ∧ h.crcOk = true ∧ h.dst.toNat = s.ownNode) ∧
  (∃ (s : State), ((s.get O.SPAN_ROLE ≠ 1 ∨ s.carrier = true ∧ s.net.boundaries < s.spanN))) ∧
  (∃ (s : State) (n : Fin 8) (p : Fin 2), s.get O.SPAN_ROLE = 1 ∧ ((s.carrier = false ∨ s.spanN ≤ s.net.boundaries)) ∧ n ≠ 0 ∧ s.get O.NODE_STATE (n.val - 1) = 2 ∧ s.net.peers.length = 8 ∧ s.spanUp p.val = true ∧ ((∀ k : Fin 8, k ≠ 0 → k ≠ n → s.get O.NODE_STATE (k.val - 1) ≠ 2))) ∧
  (∃ (s : State), ((s.worker = false ∨ s.sys.dev.runs = false ∨ s.elapsed s.net.lastCyclic < 1000 * s.getN O.SPAN_TMO))) ∧
  (∃ (s : State), s.worker = true ∧ s.sys.dev.runs = true ∧ 1000 * s.getN O.SPAN_TMO ≤ s.elapsed s.net.lastCyclic ∧ (FaultCode.spanMgrLost, 0) ∉ s.coll.conds ∧ s.net.peers.length = 8) ∧
  (∃ (s : State) (n : Fin 8), ((s.get O.SPAN_ROLE ≠ 1 ∨ n = 0 ∨ bit (s.get O.NODES_EXPECTED) n.val = false ∨ s.sys.dev.runs = false ∨ s.elapsed (s.peer n.val).last < 1000 * s.getN O.SPAN_TMO))) ∧
  (∃ (s : State) (n : Fin 8), s.get O.SPAN_ROLE = 1 ∧ n ≠ 0 ∧ bit (s.get O.NODES_EXPECTED) n.val = true ∧ s.sys.dev.runs = true ∧ 1000 * s.getN O.SPAN_TMO ≤ s.elapsed (s.peer n.val).last ∧ (FaultCode.spanNodeLost, n.val) ∉ s.coll.conds) ∧
  (∃ (s : State) (p : Fin 2), s.node = false) ∧
  (∃ (s : State) (p : Fin 2), ((s.node = false ∨ (s.net.ports.getD p.val State.resetPort).up = true))) ∧
  (∃ (s : State) (p : Fin 2), s.node = true ∧ s.net.ports.length = 2 ∧ (s.net.ports.getD (1 - p.val) State.resetPort).up = true ∧ (s.net.ports.getD (1 - p.val) State.resetPort).quarantined = false ∧ (FaultCode.spanRingOpen, p.val) ∉ s.coll.conds) ∧
  (∃ (s : State) (p : Fin 2), s.node = true ∧ s.net.ports = [⟨p = 1, 0, [], false⟩, ⟨p = 0, 0, [], false⟩]) ∧
  (∃ (s : State) (p : Fin 2), (s.net.ports.getD p.val State.resetPort).quarantined = false) ∧
  (∃ (s : State) (p : Fin 2), (s.net.ports.getD p.val State.resetPort).quarantined = true ∧ soleCond s .spanQuarantine p.val) :=
  ⟨⟨({ ((((wIn .ready).set O.SPAN_ROLE 1).set O.KEY_GEN 1 1)) with net := { State.resetNet with ports := [⟨true, 0, [], false⟩, ⟨true, 0, [], false⟩] } }), ((⟨0, true, 3, 0, 5, 0, 0, 0⟩ : SpanHdr)), ((⟨0, 0, 0, 0x41200000, 0, 0, 0, 0, 0, 0, 0⟩ : CyclicData)), ((⟨1, 2, 3, 4, 5, 6, 255, 8, 9⟩ : SpanStatusData)), ([1]), ((.cyclic (⟨0, true, 3, 0, 5, 0, 0, 0⟩ : SpanHdr) (⟨0, 0, 0, 0x41200000, 0, 0, 0, 0, 0, 0, 0⟩ : CyclicData) 0 false)), by decide⟩,
   ⟨({ (((((wBare .ready).set O.SPEED_LIM_POS 0).set O.SPAN_ROLE 2).set O.KEY_GEN 1 1).set O.SPAN_NODE 3) with net := { State.resetNet with ports := [⟨true, 0, [], false⟩, ⟨true, 0, [], false⟩], peers := State.resetNet.peers.modify 0 fun y => { y with joined := true, nonceM := some 7, nonceW := 8 } } }), ((⟨0, true, 0, 3, 5, 0, 0, 0⟩ : SpanHdr)), ((⟨0, 0, 0, 0x41200000, 0, 0, 0, 0, 0, 0, 0⟩ : CyclicData)), 7, by decide⟩,
   ⟨({ ((((wIn .ready).set O.SPAN_ROLE 2).set O.KEY_GEN 1 1).set O.SPAN_NODE 3) with net := { State.resetNet with ports := [⟨true, 0, [], false⟩, ⟨true, 0, [], false⟩], peers := State.resetNet.peers.modify 0 fun y => { y with joined := true, nonceM := some 7, nonceW := 8, high := 500 } } }), ((⟨0, true, 0, 3, 5, 0, 0, 0⟩ : SpanHdr)), ((⟨0, 0, 0, 0x41200000, 0, 0, 0, 0, 0, 0, 0⟩ : CyclicData)), 7, by decide⟩,
   ⟨({ ((((wIn .ready).set O.SPAN_ROLE 1).set O.KEY_GEN 1 1)) with net := { State.resetNet with ports := [⟨true, 0, [], false⟩, ⟨true, 0, [], false⟩], peers := State.resetNet.peers.modify 3 fun y => { y with joined := true, nonceM := some 7, nonceW := 8 } } }), ((⟨0, true, 3, 0, 5, 0, 0, 0⟩ : SpanHdr)), ((⟨1, 2, 3, 4, 5, 6, 255, 8, 9⟩ : SpanStatusData)), 7, by decide⟩,
   ⟨({ ((((wIn .ready).set O.SPAN_ROLE 2).set O.KEY_GEN 1 1).set O.SPAN_NODE 3) with net := { State.resetNet with ports := [⟨true, 0, [], false⟩, ⟨true, 0, [], false⟩], peers := State.resetNet.peers.modify 0 fun y => { y with joined := true, nonceM := some 7, nonceW := 8 } } }), ((⟨0, true, 0, 3, 5, 0, 0, 0⟩ : SpanHdr)), ([1, 5, 0x20, 0x2A, 77, 0, 0, 0]), (⟨.span 0, 3, 5, 0, true, 8⟩), 0x2A20, 77, 7, by decide +kernel⟩,
   ⟨({ ((((wIn .ready).set O.SPAN_ROLE 1).set O.KEY_GEN 1 1)) with net := { State.resetNet with ports := [⟨true, 0, [], false⟩, ⟨true, 0, [], false⟩], peers := State.resetNet.peers.modify 3 fun y => { y with joined := true, nonceM := some 7, nonceW := 8 }, relays := [(3, (⟨.spi, 0, 1, 9, 0, 0, 1⟩ : ReqId))] } }), ((⟨0, true, 3, 0, 5, 0, 0, 0⟩ : SpanHdr)), ([0x81, 9, 0, 0, 0, 0, 1, 0, 5]), ((⟨.spi, 0, 1, 9, 0, 0, 1⟩ : ReqId)), 7, by decide⟩,
   ⟨(wIn .ready), 3, by decide⟩,
   ⟨({ ((((wIn .ready).set O.SPAN_ROLE 1).set O.KEY_GEN 1 1)) with net := { State.resetNet with ports := [⟨true, 0, [], false⟩, ⟨true, 0, [], false⟩], relays := [(3, (⟨.spi, 0, 1, 9, 0, 0, 1⟩ : ReqId)), (4, (⟨.spi, 0, 1, 9, 0, 0, 1⟩ : ReqId))] } }), 3, ((⟨.spi, 0, 1, 9, 0, 0, 1⟩ : ReqId)), ([(4, (⟨.spi, 0, 1, 9, 0, 0, 1⟩ : ReqId))]), by decide⟩,
   ⟨({ ((((wIn .ready).set O.SPAN_ROLE 1).set O.KEY_GEN 1 1)) with net := { State.resetNet with ports := [⟨true, 0, [], false⟩, ⟨true, 0, [], false⟩] } }), ((⟨0, true, 3, 0, 5, 0, 0, 0⟩ : SpanHdr)), by decide⟩,
   ⟨({ ((((wIn .ready).set O.SPAN_ROLE 1).set O.KEY_GEN 1 1)) with net := { State.resetNet with ports := [⟨true, 0, [], false⟩, ⟨true, 0, [], false⟩] } }), ((⟨0, true, 3, 0, 5, 0, 0, 0⟩ : SpanHdr)), 100, 51, by decide⟩,
   ⟨(wIn .ready), by decide⟩,
   ⟨({ { ((((wIn .ready).set O.SPAN_ROLE 1).set O.KEY_GEN 1 1)) with net := { State.resetNet with ports := [⟨true, 0, [], false⟩, ⟨true, 0, [], false⟩], boundaries := 5000 } } with vals := (({ ((((wIn .ready).set O.SPAN_ROLE 1).set O.KEY_GEN 1 1)) with net := { State.resetNet with ports := [⟨true, 0, [], false⟩, ⟨true, 0, [], false⟩] } }).set O.NODE_STATE 2 2).vals }), 3, 1, by decide⟩,
   ⟨(wIn .ready), by decide⟩,
   ⟨({ { ((((wIn .ready).set O.SPAN_ROLE 2).set O.KEY_GEN 1 1).set O.SPAN_NODE 3) with net := { State.resetNet with ports := [⟨true, 0, [], false⟩, ⟨true, 0, [], false⟩], peers := State.resetNet.peers.modify 0 fun y => { y with joined := true, nonceM := some 7, nonceW := 8 } } } with now := 90000000 }), by decide⟩,
   ⟨(wIn .ready), 3, by decide⟩,
   ⟨({ { ((((wIn .ready).set O.SPAN_ROLE 1).set O.KEY_GEN 1 1)) with net := { State.resetNet with ports := [⟨true, 0, [], false⟩, ⟨true, 0, [], false⟩], peers := State.resetNet.peers.modify 3 fun y => { y with joined := true, nonceM := some 7, nonceW := 8 } } } with now := 90000000, vals := (({ ((((wIn .ready).set O.SPAN_ROLE 1).set O.KEY_GEN 1 1)) with net := { State.resetNet with ports := [⟨true, 0, [], false⟩, ⟨true, 0, [], false⟩] } }).set O.NODES_EXPECTED 8).vals }), 3, by decide⟩,
   ⟨(wIn .ready), 1, by decide⟩,
   ⟨(wIn .ready), 1, by decide⟩,
   ⟨({ ((((wIn .ready).set O.SPAN_ROLE 1).set O.KEY_GEN 1 1)) with net := { State.resetNet with ports := [⟨true, 0, [], false⟩, ⟨true, 0, [], false⟩] } }), 1, by decide⟩,
   ⟨({ ((((wIn .ready).set O.SPAN_ROLE 1).set O.KEY_GEN 1 1)) with net := { State.resetNet with ports := [⟨true, 0, [], false⟩, ⟨false, 0, [], false⟩] } }), 1, by decide⟩,
   ⟨({ ((((wIn .ready).set O.SPAN_ROLE 1).set O.KEY_GEN 1 1)) with net := { State.resetNet with ports := [⟨true, 0, [], false⟩, ⟨true, 0, [], false⟩] } }), 1, by decide⟩,
   ⟨({ { ((((wIn .ready).set O.SPAN_ROLE 1).set O.KEY_GEN 1 1)) with net := { State.resetNet with ports := [⟨true, 0, [], false⟩, ⟨true, 0, [3], true⟩] } } with coll := { State.resetColl with conds := [(.spanQuarantine, 1)], reported := [.spanQuarantine] } }), 1, by decide⟩⟩

/-- Each clause of SessionsAreOpenedAndEnd has a state that meets its hypotheses. -/
theorem witness_SessionsAreOpenedAndEnd :
  (∃ (s : State) (r : Req) (sub : Byte), takesIn s r 0x30 (0x2D3000 + sub.toNat) = true ∧ ((sub = 2 ∨ sub = 3)) ∧ ((∀ x ∈ s.sec.locked, x.1 ≠ r.port ∨ x.2 + 60000000 ≤ s.now)) ∧ s.sec.trngBad = false ∧ s.sec.sessions.length + s.sec.challenges.length < 255) ∧
  (∃ (s : State) (r : Req) (sub : Byte), takesIn s r 0x30 (0x2D3000 + sub.toNat) = true ∧ ((sub ≠ 2 ∧ sub ≠ 3 ∨ (∃ x ∈ s.sec.locked, x.1 = r.port ∧ s.now < x.2 + 60000000) ∨ s.sec.trngBad = true))) ∧
  (∃ (s : State) (r : Req) (c : Challenge) (d : List Byte), takesIn s { r with session := 0 } 0x31 2961408 = true ∧ c ∈ s.sec.challenges ∧ c.handle = r.session ∧ c.port = r.port ∧ s.now ≤ c.time + 10000000 ∧ ((∀ x ∈ s.sec.challenges, x.handle = c.handle → x = c)) ∧ d.length = 32) ∧
  (∃ (s : State) (r : Req) (c : Challenge) (d : List Byte) (x : List Byte), takesIn s { r with session := 0 } 0x31 2961409 = true ∧ c ∈ s.sec.challenges ∧ c.handle = r.session ∧ c.port = r.port ∧ s.now ≤ c.time + 10000000 ∧ ((∀ x ∈ s.sec.challenges, x.handle = c.handle → x = c)) ∧ d.length = 32 ∧ c.r = some x ∧ s.sec.serviceHandle = none ∧ (FaultCode.authLockout, 0) ∉ s.coll.conds ∧ ((∀ e ∈ s.sec.fails, e.1 ≠ r.port))) ∧
  (∃ (s : State) (r : Req) (c : Challenge) (d : List Byte) (x : List Byte) (a : Nat) (b : Nat), takesIn s { r with session := 0 } 0x31 2961409 = true ∧ c ∈ s.sec.challenges ∧ c.handle = r.session ∧ c.port = r.port ∧ s.now ≤ c.time + 10000000 ∧ ((∀ x ∈ s.sec.challenges, x.handle = c.handle → x = c)) ∧ d.length = 32 ∧ c.r = some x ∧ s.sec.fails = [(r.port, a), (r.port, b)] ∧ s.now < a + 60000000 ∧ s.now < b + 60000000 ∧ (FaultCode.authLockout, 0) ∉ s.coll.conds) ∧
  (∃ (s : State) (r : Req) (d : List Byte), takesIn s { r with session := 0 } 0x31 2961409 = true ∧ ((∀ c ∈ s.sec.challenges, c.handle ≠ r.session ∨ c.port ≠ r.port ∨ c.time + 10000000 < s.now))) ∧
  (∃ (s : State) (r : Req) (c : Challenge) (d : List Byte), takesIn s { r with session := 0 } 0x31 2961409 = true ∧ c ∈ s.sec.challenges ∧ c.handle = r.session ∧ c.port = r.port ∧ s.now ≤ c.time + 10000000 ∧ ((∀ x ∈ s.sec.challenges, x.handle = c.handle → x = c)) ∧ ((d.length ≠ 32 ∨ c.r = none))) ∧
  (∃ (s : State) (r : Req) (h : Byte), writeRuns s r O.SESSION_CLOSE 0 h.toNat ∧ ((∃ x ∈ s.sec.sessions, x.handle = h)) ∧ ((s.sec.serviceHandle ≠ some h ∨ s.sys.dev ≠ .service))) ∧
  (∃ (s : State) (r : Req) (h : Byte), writeRuns s r O.SESSION_CLOSE 0 h.toNat ∧ ((∃ x ∈ s.sec.sessions, x.handle = h)) ∧ s.sec.serviceHandle = some h ∧ s.sys.dev = .service ∧ s.sup.readyPhase = .idle ∧ s.ctrlBit 0 = false ∧ s.dict.blockW = none) ∧
  (∃ (s : State) (r : Req) (h : Byte), writeRuns s r O.SESSION_CLOSE 0 h.toNat ∧ ((∀ x ∈ s.sec.sessions, x.handle ≠ h))) ∧
  (∃ (s : State), s.sec.serviceHandle = none) ∧
  (∃ (s : State), ((∀ x ∈ s.sec.locked, x.2 + 60000000 ≤ s.now)) ∧ soleCond s .authLockout 0) ∧
  (∃ (s : State) (x : Port × Nat), x ∈ s.sec.locked ∧ s.now < x.2 + 60000000) ∧
  (∃ (s : State), (FaultCode.trngFail, 0) ∉ s.coll.conds) :=
  ⟨⟨(wSpi (wIn .ready)), wReqS, 2, by decide⟩,
   ⟨(wSpi (wIn .ready)), wReqS, 5, by decide⟩,
   ⟨({ wSpi (wIn .ready) with sec := { State.resetSecurity with challenges := [(⟨.spi, 4, .srv, [7], 0, none⟩ : Challenge)] } }), (⟨.spi, 0, 1, 4, true, 16⟩), ((⟨.spi, 4, .srv, [7], 0, none⟩ : Challenge)), ((List.replicate 32 3#8)), by decide⟩,
   ⟨({ wSpi (wIn .ready) with sec := { State.resetSecurity with challenges := [(⟨.spi, 4, .srv, [7], 0, some [1]⟩ : Challenge)] } }), (⟨.spi, 0, 1, 4, true, 16⟩), ((⟨.spi, 4, .srv, [7], 0, some [1]⟩ : Challenge)), ((List.replicate 32 3#8)), ([1]), by decide⟩,
   ⟨({ wSpi (wIn .ready) with sec := { State.resetSecurity with challenges := [(⟨.spi, 4, .srv, [7], 0, some [1]⟩ : Challenge)], fails := [(.spi, 3), (.spi, 4)] } }), (⟨.spi, 0, 1, 4, true, 16⟩), ((⟨.spi, 4, .srv, [7], 0, some [1]⟩ : Challenge)), ((List.replicate 32 3#8)), ([1]), 3, 4, by decide⟩,
   ⟨({ wSpi (wIn .ready) with sec := { State.resetSecurity with challenges := [(⟨.spi, 4, .srv, [7], 0, none⟩ : Challenge)] } }), wReqS, ((List.replicate 32 3#8)), by decide⟩,
   ⟨({ wSpi (wIn .ready) with sec := { State.resetSecurity with challenges := [(⟨.spi, 4, .srv, [7], 0, none⟩ : Challenge)] } }), (⟨.spi, 0, 1, 4, true, 16⟩), ((⟨.spi, 4, .srv, [7], 0, none⟩ : Challenge)), ([1]), by decide⟩,
   ⟨({ wSpi (wIn .ready) with sec := { State.resetSecurity with sessions := [⟨.spi, 1, .vnd, 0⟩, ⟨.can 0, 2, .srv, 0⟩] } }), wReqS, 2, by decide⟩,
   ⟨((({ wSpi (wBare .service) with sec := { State.resetSecurity with sessions := [⟨.spi, 1, .vnd, 0⟩], serviceHandle := some 1 } }).set O.CONTROL_WORD 16)), wReqS, 1, by decide⟩,
   ⟨(wSpi (wIn .ready)), wReqS, 2, by decide⟩,
   ⟨({ { wSpi (wIn .ready) with sec := { State.resetSecurity with sessions := [⟨.spi, 1, .vnd, 0⟩, ⟨.can 0, 2, .srv, 4999999999⟩] } } with now := 5000000000 }), by decide⟩,
   ⟨({ { wSpi (wIn .ready) with sec := { State.resetSecurity with locked := [(.spi, 0)] } } with now := 90000000, coll := { State.resetColl with conds := [(.authLockout, 0)], reported := [.authLockout] } }), by decide⟩,
   ⟨({ { wSpi (wIn .ready) with sec := { State.resetSecurity with locked := [(.spi, 0), (.can 1, 89000000)] } } with now := 90000000 }), ((.can 1, 89000000)), by decide⟩,
   ⟨(wIn .ready), by decide⟩⟩

/-- Each clause of LifeCycleFirmwareAndParameters has a state that meets its hypotheses. -/
theorem witness_LifeCycleFirmwareAndParameters :
  (∃ (s : State) (r : Req) (v : Word) (n : Lvl), writeRuns s r O.LC_REQUEST 0 v.toNat ∧ lcLevel s.otp.lc (v.toNat - 0x4C430000) = some n ∧ n.num ≤ (s.levelReq r).num ∧ ((s.sys.dev = .standby ∨ s.sys.dev = .service)) ∧ v.toNat ≠ 0x4C430003 ∧ ((v.toNat = 0x4C430004 → s.sys.dev = .service))) ∧
  (∃ (s : State) (r : Req) (v : Word) (k : FwSlot), writeRuns s r O.LC_REQUEST 0 v.toNat ∧ s.otp.lc = 1 ∧ v.toNat = 0x4C430003 ∧ 2 ≤ (s.levelReq r).num ∧ ((s.sys.dev = .standby ∨ s.sys.dev = .service)) ∧ 0 < s.otp.oemCount ∧ s.sec.running = some k ∧ (s.nv.sec.slot k).keyIndex = 0) ∧
  (∃ (s : State) (r : Req) (v : Word), writeRuns s r O.LC_REQUEST 0 v.toNat ∧ ((lcLevel s.otp.lc (v.toNat - 0x4C430000) = none ∨ s.sys.dev ≠ .standby ∧ s.sys.dev ≠ .service ∧ (s.levelReq r) = .vnd ∨ v.toNat = 0x4C430003 ∧ s.otp.oemCount = 0 ∧ (s.levelReq r) = .vnd))) ∧
  (∃ (s : State) (r : Req) (v : Word) (n : Lvl), writeRuns s r O.LC_REQUEST 0 v.toNat ∧ lcLevel s.otp.lc (v.toNat - 0x4C430000) = some n ∧ (s.levelReq r).num < n.num) ∧
  (∃ (s : State) (r : Req) (k : Byte) (j : Fin 4), writeRuns s r O.OEM_KEY_REVOKE 0 k.toNat ∧ j.val ≠ k.toNat ∧ s.otp.oemValid j.val = true ∧ k.toNat < s.otp.oem.length) ∧
  (∃ (s : State) (r : Req) (k : Byte), writeRuns s r O.OEM_KEY_REVOKE 0 k.toNat ∧ ((∀ i : Fin 4, i.val ≠ k.toNat → s.otp.oemValid i.val = false))) ∧
  (∃ (s : State) (r : Req) (k : FwSlot), writeRuns s r O.FW_CONFIRM 0 1 ∧ s.sys.dev = .standby ∧ s.sec.running = some k ∧ k ≠ .recovery ∧ s.otp.rollback < (s.nv.sec.slot k).rollback ∧ (s.nv.sec.slot k).rollback ≤ s.nv.sec.slotR.rollback) ∧
  (∃ (s : State) (r : Req) (k : FwSlot), writeRuns s r O.FW_CONFIRM 0 1 ∧ s.sys.dev = .standby ∧ s.sec.running = some k ∧ k ≠ .recovery ∧ (s.nv.sec.slot k).rollback ≤ s.otp.rollback) ∧
  (∃ (s : State) (r : Req), writeRuns s r O.FW_CONFIRM 0 1 ∧ ((s.sys.dev ≠ .standby ∨ s.sec.running = some .recovery ∨ s.sec.running = some .a ∧ s.otp.rollback < s.nv.sec.slotA.rollback ∧ s.nv.sec.slotR.rollback < s.nv.sec.slotA.rollback))) ∧
  (∃ (s : State) (r : Req) (v : Byte), writeRuns s r O.FW_PREFERRED 0 v.toNat ∧ (s.nv.sec.slot (if v = 1 then .b else .a)).state = 3 ∧ s.spent (O.FW_PREFERRED.key 0) = false) ∧
  (∃ (s : State) (r : Req) (v : Byte), writeRuns s r O.FW_PREFERRED 0 v.toNat ∧ (s.nv.sec.slot (if v = 1 then .b else .a)).state ≠ 3) ∧
  (∃ (s : State) (k : FwSlot) (f : FwSeen), (s.nv.sec.slot k).state ≠ 2) ∧
  (∃ (s : State) (k : FwSlot) (f : FwSeen), (s.nv.sec.slot k).state = 2) ∧
  (∃ (s : State) (h : Bool) (p : ParamSet), (s.nv.sec.half h).state ≠ 2) ∧
  (∃ (s : State) (h : Bool) (p : ParamSet), (s.nv.sec.half h).state = 2 ∧ s.paramResult p = 0) ∧
  (∃ (s : State) (h : Bool) (p : ParamSet), (s.nv.sec.half h).state = 2 ∧ ((p.nvOk = false ∨ p.headerOk = false ∨ s.otp.oemCount = 0))) ∧
  (∃ (s : State) (r : Req) (h : Bool), writeRuns s r O.PARAM_ACTIVATE 0 1 ∧ ((s.sys.dev = .standby ∨ s.sys.dev = .ready)) ∧ s.nv.sec.activeHalf = some (!h) ∧ (s.nv.sec.half h).state = 3 ∧ (s.nv.sec.half (!h)).state = 5) ∧
  (∃ (s : State) (r : Req), writeRuns s r O.PARAM_ACTIVATE 0 1 ∧ ((s.sys.dev ≠ .standby ∧ s.sys.dev ≠ .ready ∨ s.nv.sec.half0.state ≠ 3 ∧ s.nv.sec.half1.state ≠ 3))) ∧
  (∃ (s : State) (i : TapInstr), ((s.otp.lc ≠ 3 → i = .extest → s.sys.dev = .standby ∧ (∀ x ∈ s.isl, x.supplyOn = false))) ∧ ((s.otp.lc = 3 → i = .bypass ∨ i = .idcode))) ∧
  (∃ (s : State) (i : TapInstr), i ≠ .bypass ∧ i ≠ .idcode ∧ ((s.otp.lc = 3 ∨ i = .extest ∧ s.sys.dev ≠ .standby))) :=
  ⟨⟨({ wSpi (wBare .standby) with nv := { State.resetNv with sec := { State.resetNv.sec with otp := ⟨0, [⟨1, [1]⟩, ⟨1, [2]⟩, ⟨0, []⟩, ⟨0, []⟩], 0, 0, 0, 0, true, false⟩ } } }), wReqS, 0x4C430001, .vnd, by decide⟩,
   ⟨({ { wSpi (wBare .standby) with sec := { State.resetSecurity with sessions := [⟨.spi, 1, .vnd, 0⟩], running := some .a } } with nv := { State.resetNv with sec := { State.resetNv.sec with otp := ⟨1, [⟨1, [1]⟩, ⟨1, [2]⟩, ⟨0, []⟩, ⟨0, []⟩], 0, 0, 0, 0, true, false⟩ } } }), wReqS, 0x4C430003, .a, by decide⟩,
   ⟨({ wSpi (wBare .standby) with nv := { State.resetNv with sec := { State.resetNv.sec with otp := ⟨1, [⟨1, [1]⟩, ⟨1, [2]⟩, ⟨0, []⟩, ⟨0, []⟩], 0, 0, 0, 0, true, false⟩ } } }), wReqS, 0x4C430001, by decide⟩,
   ⟨({ { wSpi (wBare .standby) with sec := { State.resetSecurity with sessions := [⟨.spi, 1, .srv, 0⟩] } } with nv := { State.resetNv with sec := { State.resetNv.sec with otp := ⟨0, [⟨1, [1]⟩, ⟨1, [2]⟩, ⟨0, []⟩, ⟨0, []⟩], 0, 0, 0, 0, true, false⟩ } } }), wReqS, 0x4C430001, .vnd, by decide⟩,
   ⟨({ wSpi (wBare .standby) with nv := { State.resetNv with sec := { State.resetNv.sec with otp := ⟨1, [⟨1, [1]⟩, ⟨1, [2]⟩, ⟨0, []⟩, ⟨0, []⟩], 0, 0, 0, 0, true, false⟩ } } }), wReqS, 0, 1, by decide⟩,
   ⟨({ wSpi (wBare .standby) with nv := { State.resetNv with sec := { State.resetNv.sec with otp := ⟨1, [⟨1, [1]⟩, ⟨2, []⟩, ⟨0, []⟩, ⟨0, []⟩], 0, 0, 0, 0, true, false⟩ } } }), wReqS, 0, by decide⟩,
   ⟨({ { wSpi (wBare .standby) with sec := { State.resetSecurity with sessions := [⟨.spi, 1, .vnd, 0⟩], running := some .a } } with nv := { State.resetNv with sec := { State.resetNv.sec with otp := ⟨1, [⟨1, [1]⟩, ⟨1, [2]⟩, ⟨0, []⟩, ⟨0, []⟩], 0, 0, 0, 0, true, false⟩, slotA := ⟨5, 1, 3, 0⟩, slotR := ⟨3, 1, 3, 0⟩ } } }), wReqS, .a, by decide⟩,
   ⟨({ { wSpi (wBare .standby) with sec := { State.resetSecurity with sessions := [⟨.spi, 1, .vnd, 0⟩], running := some .a } } with nv := { State.resetNv with sec := { State.resetNv.sec with otp := ⟨1, [⟨1, [1]⟩, ⟨1, [2]⟩, ⟨0, []⟩, ⟨0, []⟩], 0, 0, 0, 4, true, false⟩, slotA := ⟨5, 1, 3, 0⟩ } } }), wReqS, .a, by decide⟩,
   ⟨(wSpi (wIn .ready)), wReqS, by decide⟩,
   ⟨({ wSpi (wBare .standby) with nv := { State.resetNv with sec := { State.resetNv.sec with otp := ⟨1, [⟨1, [1]⟩, ⟨1, [2]⟩, ⟨0, []⟩, ⟨0, []⟩], 0, 0, 0, 0, true, false⟩, slotB := ⟨3, 1, 3, 0⟩ } } }), wReqS, 1, by decide⟩,
   ⟨({ wSpi (wBare .standby) with nv := { State.resetNv with sec := { State.resetNv.sec with otp := ⟨1, [⟨1, [1]⟩, ⟨1, [2]⟩, ⟨0, []⟩, ⟨0, []⟩], 0, 0, 0, 0, true, false⟩, slotA := ⟨3, 1, 3, 0⟩ } } }), wReqS, 1, by decide⟩,
   ⟨(wIn .ready), .b, ((⟨true, 0, 5, 9, 9, true, true, true⟩ : FwSeen)), by decide⟩,
   ⟨({ wSpi (wBare .standby) with nv := { State.resetNv with sec := { State.resetNv.sec with otp := ⟨1, [⟨1, [1]⟩, ⟨1, [2]⟩, ⟨0, []⟩, ⟨0, []⟩], 0, 0, 0, 0, true, false⟩, slotB := ⟨2, 1, 3, 0⟩ } } }), .b, ((⟨true, 0, 5, 9, 9, true, true, true⟩ : FwSeen)), by decide⟩,
   ⟨(wIn .ready), true, ((⟨1, 1, 0, true, [], 0, true, true⟩ : ParamSet)), by decide⟩,
   ⟨(({ wSpi (wBare .standby) with nv := { State.resetNv with sec := { State.resetNv.sec with otp := ⟨1, [⟨1, [1]⟩, ⟨1, [2]⟩, ⟨0, []⟩, ⟨0, []⟩], 0, 0, 0, 0, true, false⟩, half1 := ⟨2, none, 0⟩ } } }).set O.MIN_PARAM_VERSION 0), true, ((⟨1, 1, 0, true, [], 0, true, true⟩ : ParamSet)), by decide⟩,
   ⟨({ wSpi (wBare .standby) with nv := { State.resetNv with sec := { State.resetNv.sec with otp := ⟨1, [⟨1, [1]⟩, ⟨1, [2]⟩, ⟨0, []⟩, ⟨0, []⟩], 0, 0, 0, 0, true, false⟩, half1 := ⟨2, none, 0⟩ } } }), true, ((⟨1, 1, 0, true, [], 0, true, false⟩ : ParamSet)), by decide⟩,
   ⟨({ wSpi (wBare .standby) with nv := { State.resetNv with sec := { State.resetNv.sec with otp := ⟨1, [⟨1, [1]⟩, ⟨1, [2]⟩, ⟨0, []⟩, ⟨0, []⟩], 0, 0, 0, 0, true, false⟩, half0 := ⟨5, none, 3⟩, half1 := ⟨3, some (⟨1, 1, 0, true, [], 0, true, true⟩ : ParamSet), 0⟩ } } }), wReqS, true, by decide⟩,
   ⟨(wSpi (wIn .run)), wReqS, by decide⟩,
   ⟨(wBare .standby), .extest, by decide⟩,
   ⟨(wIn .run), .extest, by decide⟩⟩

end Sys2Proof.Tests
end

section
/-! PROOF of O43 (11_memory_selftest.md R414): a bad descriptor ends its chain with STATUS 7 and nothing is transferred.
The statement speaks of every state, so the facts about the SRAM here ask for no canonical form of its cells. -/

namespace Sys2Proof.Machine

/-! ### The SRAM: what a write leaves unchanged, whatever the form of the cells -/

/-- `memGet_put_other` without the canonical form: a write changes, adds or removes entries of its own address only. -/
theorem memGet_memPut_of_ne (m : List Host.Cell) {a j : Nat} (b : Byte) (h : j ≠ a) : memGet (memPut m a b) j = memGet m j := by
  induction m with
  | nil =>
    simp only [memPut]
    split <;> simp [memGet, h]
  | cons e m ih =>
    obtain ⟨k, v⟩ := e
    simp only [memPut]
    split
    · split <;> simp [memGet, h]
    · split
      · rename_i hk
        subst hk
        split <;> simp [memGet, h]
      · simp only [memGet, ih]

theorem State.sram_putSram_of_ne (s : State) {a j : Nat} (b : Byte) (h : j ≠ a) : (s.putSram a b).sram j = s.sram j := by
  unfold State.putSram
  split
  · exact memGet_memPut_of_ne _ b h
  · rfl

theorem State.sram_putBytes_of_outside (s : State) {a j : Nat} (l : List Byte) (h : j < a ∨ a + l.length ≤ j) :
    (s.putBytes a l).sram j = s.sram j := by
  induction l generalizing s a with
  | nil => rfl
  | cons b l ih =>
    rw [List.length_cons] at h
    calc ((s.putSram a b).putBytes (a + 1) l).sram j
      _ = (s.putSram a b).sram j := ih _ (by omega)
      _ = s.sram j := s.sram_putSram_of_ne b (by omega)

@[simp] theorem leBytes_length (n v : Nat) : (leBytes n v).length = n := by
  induction n generalizing v with
  | zero => rfl
  | succ n ih => simp [leBytes, ih]

/-- DONE and STATUS are the eight bytes from offset 0x14 of the descriptor (Table 11.5); no other byte is written back. -/
theorem State.sram_writeBack_of_outside (s : State) (d : DmaDesc) (done status : Nat) {j : Nat}
    (h : j < d.addr + 0x14 ∨ d.addr + 0x1C ≤ j ∨ d.ctrl.getLsbD 7 = false) : (s.writeBack d done status).sram j = s.sram j := by
  unfold State.writeBack
  split
  · have hout : j < d.addr + 0x14 ∨ d.addr + 0x1C ≤ j := by simp_all
    rw [State.sram_putBytes_of_outside _ _ (by rw [leBytes_length]; omega),
      State.sram_putBytes_of_outside _ _ (by rw [leBytes_length]; omega)]
  · rfl

/-! ### The SRAM: writes touch the cells and nothing else -/

/-- The state with other cells in its SRAM. -/
def State.withCells (s : State) (l : List Host.Cell) : State := { s with mem := { s.mem with cells := l } }

theorem State.putSram_eq_withCells (s : State) (a : Nat) (b : Byte) : ∃ l, s.putSram a b = s.withCells l := by
  unfold State.putSram
  split
  · exact ⟨_, rfl⟩
  · exact ⟨s.mem.cells, rfl⟩

theorem State.putBytes_eq_withCells (s : State) (a : Nat) (l : List Byte) : ∃ m, s.putBytes a l = s.withCells m := by
  induction l generalizing s a with
  | nil => exact ⟨s.mem.cells, rfl⟩
  | cons b l ih =>
    obtain ⟨m, hm⟩ := s.putSram_eq_withCells a b
    obtain ⟨m', hm'⟩ := ih (s.putSram a b) (a + 1)
    exact ⟨m', hm'.trans (by rw [hm]; rfl)⟩

theorem State.writeBack_eq_withCells (s : State) (d : DmaDesc) (done status : Nat) : ∃ l, s.writeBack d done status = s.withCells l := by
  unfold State.writeBack
  split
  · obtain ⟨m, hm⟩ := s.putBytes_eq_withCells (d.addr + 0x14) (leBytes 4 done)
    obtain ⟨m', hm'⟩ := (s.putBytes (d.addr + 0x14) (leBytes 4 done)).putBytes_eq_withCells (d.addr + 0x18) (leBytes 4 status)
    exact ⟨m', hm'.trans (by rw [hm]; rfl)⟩
  · exact ⟨s.mem.cells, rfl⟩

/-! ### The channels -/

theorem State.dma_updDma_same (s : State) {c : Nat} (f : DmaChan → DmaChan) (h : c < s.mem.dma.length) :
    (s.updDma c f).dma c = f (s.dma c) := by
  simp [State.dma, State.updDma, List.getD_eq_getElem?_getD, h]

theorem State.dma_updDma_of_ne (s : State) {c k : Nat} (f : DmaChan → DmaChan) (h : k ≠ c) : (s.updDma c f).dma k = s.dma k := by
  simp [State.dma, State.updDma, List.getD_eq_getElem?_getD, h.symm]

theorem State.updDma_updDma (s : State) (c : Nat) (f g : DmaChan → DmaChan) : (s.updDma c f).updDma c g = s.updDma c (g ∘ f) := by
  simp [State.updDma, List.modify_modify_eq]

/-- A running channel with a descriptor in hand stops: its end shows in DMA_LAST_STOP and is written back. -/
theorem State.dmaStop_of_desc {s : State} {c : Nat} {d : DmaDesc} (status : Nat) (hrun : (s.dma c).run = true) (hdesc : (s.dma c).desc = some d) :
    s.dmaStop c status = ((s.updDma c fun y => { y with run := false, desc := none, status := status }).set O.DMA_LAST_STOP
      (c * 256 + status : Nat)).writeBack d (s.dma c).done status := by
  simp [State.dmaStop, hrun, hdesc]

/-- R414 names three of the faults that the check of a descriptor finds. -/
theorem descBad_of_r414 {d : DmaDesc}
    (h : d.addr % 32 ≠ 0 ∨ d.len % beatBytes d.ctrl ≠ 0 ∨ d.ctrl.toNat / 65536 ≠ 0 ∨ d.ctrl.toNat / 4 % 4 ≠ 0) : descBad d = true := by
  simp only [descBad, Bool.or_eq_true, bne_iff_ne]
  obtain haddr | hlen | hhigh | hlow := h
  · exact .inl (.inl (.inl (.inl (.inl (.inl haddr)))))
  · exact .inl (.inl (.inr hlen))
  · exact .inl (.inr hhigh)
  · exact .inr hlow

/-! ### A descriptor refused (R414) -/

/-- How a channel stands whose descriptor R414 refuses: stopped with STATUS 7, no byte written. -/
def DmaChan.refused (x : DmaChan) : DmaChan := { x with run := false, desc := none, done := 0, status := 7 }

/-- The state with the descriptor of a channel refused and the stop shown in DMA_LAST_STOP, before the write-back. -/
def State.refuseDesc (s : State) (c : Nat) : State := (s.updDma c DmaChan.refused).set O.DMA_LAST_STOP (c * 256 + 7 : Nat)

theorem State.dma_refuseDesc_same (s : State) {c : Nat} (h : c < s.mem.dma.length) : (s.refuseDesc c).dma c = (s.dma c).refused :=
  s.dma_updDma_same _ h

theorem State.dma_refuseDesc_of_ne (s : State) {c k : Nat} (h : k ≠ c) : (s.refuseDesc c).dma k = s.dma k :=
  s.dma_updDma_of_ne _ h

theorem State.lastStop_refuseDesc (s : State) (c : Nat) : (s.refuseDesc c).get O.DMA_LAST_STOP = (c * 256 + 7 : Nat) :=
  State.get_set_same _ _ _ _

theorem State.onlyVals_refuseDesc (s : State) (c : Nat) : Safety.onlyVals [O.DMA_LAST_STOP.key 0] s (s.refuseDesc c) :=
  fun k hk => (s.updDma c DmaChan.refused).set_find_other _ _ _ k (by simpa using hk)

/-- The start of a bad descriptor in one step: no beat stands between the start and the stop. -/
theorem dmaStart_of_descBad {s : State} {c : Nat} {d : DmaDesc} (halive : s.alive = true) (hidle : (s.dma c).run = false)
    (hc : c < s.mem.dma.length) (hbad : descBad d = true) : dmaStart c d s = (s.refuseDesc c).writeBack d 0 7 := by
  have hstart := s.dma_updDma_same (fun x => { x with run := true, desc := some d, done := 0 }) hc
  have hstop := State.dmaStop_of_desc 7 (congrArg DmaChan.run hstart) (congrArg DmaChan.desc hstart)
  rw [State.updDma_updDma, hstart] at hstop
  simp only [dmaStart, halive, hidle, hbad, Bool.not_true, Bool.or_false, Bool.false_eq_true, if_false, if_true]
  exact hstop

theorem dmaBeat_of_desc_none {s : State} {c : Nat} (fault : Option (Fin 4)) (h : (s.dma c).desc = none) : dmaBeat c fault s = s := by
  simp [dmaBeat, h]

end Sys2Proof.Machine

namespace Sys2Proof.Proofs
open Sys2Proof Sys2Proof.Machine Sys2Proof.Safety

/-- Settles O43: a bad descriptor takes the channel from idle to `DmaChan.refused` in one step (`dmaStart_of_descBad`), and the
write-back that ends the step touches only the SRAM bytes of DONE and STATUS. -/
theorem descriptorsAreChecked : Obligations.DescriptorsAreChecked := by
  unfold Obligations.DescriptorsAreChecked
  intro s c d halive hidle hlen hfault
  have hc : c.val < s.mem.dma.length := by omega
  have hstart : dmaStart c.val d s = (s.refuseDesc c.val).writeBack d 0 7 :=
    dmaStart_of_descBad halive hidle hc (descBad_of_r414 hfault)
  refine ⟨(s.refuseDesc c.val).writeBack d 0 7, congrArg Host.Outcome.next hstart, ?_⟩
  have hsram := fun a => (s.refuseDesc c.val).sram_writeBack_of_outside d 0 7 (j := a)
  obtain ⟨cells, hcells⟩ := (s.refuseDesc c.val).writeBack_eq_withCells d 0 7
  rw [hcells] at hsram ⊢
  have hchan : ((s.refuseDesc c.val).withCells cells).dma c.val = (s.dma c.val).refused := s.dma_refuseDesc_same hc
  refine ⟨congrArg DmaChan.status hchan, congrArg DmaChan.run hchan, congrArg DmaChan.desc hchan,
    s.lastStop_refuseDesc c.val, hsram, ?others, ?beat, rfl, s.onlyVals_refuseDesc c.val⟩
  case others => exact fun k hk => s.dma_refuseDesc_of_ne (Fin.val_ne_of_ne hk)
  case beat => exact fun x => congrArg Host.Outcome.next (dmaBeat_of_desc_none x (congrArg DmaChan.desc hchan))

end Sys2Proof.Proofs
end
